-- ==== Sys2Proof/Word.lean ====
section
/-!
DEFINITION. The word types of the Kalmeno 416: what the manual adds, shifts, masks or sends as bits.
-/

namespace Sys2Proof

/-- One byte of a message (R183). -/
abbrev Byte := BitVec 8

/-- A two-byte message field (R183). -/
abbrev Half := BitVec 16

/-- A four-byte message field, a lane word (R107) or an alarm detail (R162). -/
abbrev Word := BitVec 32

/-- A frame number: 32 bits, wrapping from its largest value to 0 (R193). -/
abbrev Frame := BitVec 32

end Sys2Proof
end

