-- ==== Sys2Proof/Config.lean ====
section
/-!
DEFINITION. What the manual fixes once for every Kalmeno 416 (limits and reset constants), and the free
values: what the manual leaves open, as constants without a body.
-/

namespace Sys2Proof.Config

/-- The alignment spread limit, 1023 du (Chapter 0, Delay; R35, R39). -/
def spreadLimit : Nat := 1023

/-- The smallest interval, in du, that a frame may have (R193). -/
def periodMin : Nat := 2497500

/-- The largest interval, in du, that a frame may have (R193). -/
def periodMax : Nat := 2502500

/-- The measured period P after device reset, 10 ms in du (R193). -/
def periodReset : Nat := 2500000

/-- One millisecond in du of 4 ns: the unit of the head link timers (R103, R105). -/
def duPerMs : Nat := 250000

/-- Requests a port's request queue holds (R185). -/
def requestQueueDepth : Nat := 8

/-- Messages a port's outgoing queue holds (R188). -/
def outgoingQueueDepth : Nat := 16

/-- The largest payload of a message (R183). -/
def payloadMax : Nat := 62

/-- Sample groups an uplink elastic buffer has room for (R70). -/
def bufferDepth : Nat := 64

/-- The fill to which a slip or an entry into service sets a buffer (R71, R73). -/
def bufferCentre : Nat := 32

/-- How far, in du, the frame marker of an operator link's baseband may lie from the device's frame boundary (R179). -/
def alignmentWindow : Int := 250

/-- FREE VALUE (log entry 37). Whether a byte's parity bit makes the number of ones of byte and bit odd, or even: R107
and R115 give each byte a parity bit and do not say which. -/
opaque oddParity : Bool

/-- FREE VALUE (log entry 5). What STATUS reads of the report timer of a head whose timer is stopped:
R112 puts the timer into the reply and R86 says only that it is stopped. -/
opaque stoppedReportTimer : Nat → BitVec 16

end Sys2Proof.Config
end

