-- ==== Sys2Proof/Syntax.lean ====
section
/-!
DEFINITION. The commands of the Kalmeno 416: one constructor of Instr for each row of the table of
operations and events, with the operands that reach the part from outside.
-/

namespace Sys2Proof

/-- H0 to H15. -/
abbrev Head := Fin 16

/-- C0 to C15; carrier C(4i + j) belongs to OLi. -/
abbrev Carrier := Fin 16

/-- Operator links OL0 to OL3. -/
abbrev Link := Fin 4

/-- The five ports and readers: 0 to 3 are OL0 to OL3, 4 is the management port MP. -/
abbrev Port := Fin 5

/-- S0 to S11. -/
abbrev Sector := Fin 12

/-- Lane units U0 to U7 of a head link. -/
abbrev LaneIndex := Fin 8

/-- Plan slots P0 to P3. -/
abbrev SlotIndex := Fin 4

/-- Triggers T0 to T7. -/
abbrev TriggerIndex := Fin 8

/-- One complex sample: two signed 16-bit components (Chapter 0, Samples). -/
structure Sample where
  i : BitVec 16
  q : BitVec 16
  deriving DecidableEq, Repr

/-- The eight samples of one sample period on one head (R64). -/
abbrev Group := Vector Sample 8

/-- One unit's sample as it is received, with the parity bits of its four bytes: bit j stands with the byte of bits 8j to
8j + 7 of the word, whose upper half is I and whose lower half is Q (R107, R115). -/
structure LaneWord where
  sample : Sample
  parity : BitVec 4
  deriving DecidableEq, Repr

/-- A message: a type byte, a length byte and a payload (R183). -/
structure Message where
  typeByte   : Byte
  lengthByte : Byte
  payload    : List Byte
  deriving DecidableEq, Repr

/-- Why an operator link went DOWN: framing lock lost (1) or alignment outside its window (2) (R179). -/
inductive LinkCause where
  | framing
  | alignment
  deriving DecidableEq, Repr

/-- What an operator link interface finds amiss: lock on the framing is lost, or the baseband's frame marker now lies
at an offset in du from the device's frame boundary (R179). -/
inductive LinkLoss where
  | framing
  | alignment (offset : Int)
  deriving DecidableEq, Repr

/-- The contents of a head report (R93). -/
structure HeadReport where
  wide     : Bool
  latency  : Fin 4096
  derate   : Fin 8
  paOff    : Bool
  overTemp : Bool
  supply   : Bool
  paFault  : Bool
  deriving DecidableEq, Repr

/-- The samples that the operator links deliver in one sample period: for each carrier up to four, of which
the first one, two or four are the carrier's, by its width class (R64). -/
abbrev Streams := Vector (Vector Sample 4) 16

/-- The fields of SET_UPLINK as the message holds them (R83). -/
structure UplinkFields where
  head        : Byte
  gain        : Byte
  almostEmpty : Byte
  almostFull  : Byte
  ceiling     : Word
  onset       : Half
  release     : Half
  deriving DecidableEq, Repr

/-- The fields of SET_HEAD_LINK as the message holds them, in the order of R87's table. -/
structure HeadLinkFields where
  head             : Byte
  hysteresis       : Byte
  reportMin        : Half
  reportMax        : Half
  lostLimit        : Half
  blipLimit        : Byte
  degradeThreshold : Half
  clearThreshold   : Half
  failCount        : Byte
  holdOff          : Half
  remeasure        : Half
  tolerance        : Byte
  fibreCode        : Byte
  deriving DecidableEq, Repr

/-- The fields of TRIGGER_SET as the message holds them (R135). -/
structure TriggerFields where
  trigger   : Byte
  armed     : Byte
  sector    : Byte
  direction : Byte
  mark      : Byte
  windows   : Byte
  slot      : Byte
  mode      : Byte
  deriving DecidableEq, Repr

/-- What the interface of an operator link that holds lock tells: where its frame marker lies, in du after the device's
frame boundary (R179). -/
structure LinkFinding where
  link   : Link
  offset : Int
  deriving DecidableEq, Repr

/-- The commands: one constructor per row of spec/opcode_table.json. A row that names a request is the whole
request: the port it comes from and its fields as the message holds them (log entry 1). A row that names an
event carries what the part learns from outside in that event (log entry 2). Moments (`moment`) are device
time in du, counted from the release of the reset (log entry 3). -/
inductive Instr where
  -- ports and messages (Chapter 10)
  | requestArrival (port : Port) (message : Message) (intact : Bool)
  | spiMessageWrite (bytes : List Byte)
  | spiMessageRead (bytes : List Byte)
  | requestEnterService (port : Port)
  | arbiterGrant
  | replyEnqueue (port : Port)
  | outgoingMessageSent (link : Link)
  | operatorLinkDown (link : Link) (loss : LinkLoss)
  | operatorLinkUp (finding : LinkFinding)
  -- carriers and bindings (Chapters 1 and 2)
  | declare (port : Port) (carrier : Byte) (width : Byte) (power : Half) (shift : Byte)
  | withdraw (port : Port) (carrier : Byte)
  | bind (port : Port) (carrier : Byte) (sectors : List Byte)
  | bindingApply
  | status (port : Port) (target : Byte) (number : Option Byte)
  -- power sharing and the sample switch's settings (Chapters 3 and 4)
  | setBudget (port : Port) (head : Byte) (budget : Half)
  | setWeight (port : Port) (link : Byte) (weight : Byte)
  | setUplink (port : Port) (fields : UplinkFields)
  | setSaturation (port : Port) (carrier : Byte) (threshold : Half)
  -- head links and the pattern test (Chapters 5 and 6)
  | setHeadLink (port : Port) (fields : HeadLinkFields)
  | headEnable (port : Port) (head : Byte)
  | headDisable (port : Port) (head : Byte)
  | testStart (port : Port) (head : Byte) (mode : Byte)
  | testSnapshot (port : Port) (head : Byte) (clear : Byte)
  | testRead (port : Port) (head : Byte)
  | testStop (port : Port) (head : Byte)
  -- load and triggers (Chapter 7)
  | setLoadWindow (port : Port) (length : Half)
  | setActivity (port : Port) (head : Byte) (threshold : Word)
  | triggerSet (port : Port) (fields : TriggerFields)
  | triggerRead (port : Port) (trigger : Byte)
  | loadReport (port : Port)
  -- plans and consent (Chapter 8)
  | planEdit (port : Port) (slot : Byte) (base : Byte) (entries : List (Byte × Byte))
  | planValidate (port : Port) (slot : Byte)
  | planPropose (port : Port) (slot : Byte)
  | planCancel (port : Port) (number : Byte)
  | consent (port : Port) (number : Byte) (answer : Byte)
  | planQuery (port : Port)
  | planRead (port : Port) (slot : Byte)
  | setConsent (port : Port) (time : Half) (modes : Vector Byte 4)
  | consentExpiry
  | planRevalidate
  -- alarm log and inboxes (Chapter 9)
  | alarmSummary (port : Port)
  | alarmRead (port : Port) (slot : Byte)
  | alarmMask (port : Port) (enables : Half)
  | post (port : Port) (destination : Byte) (payload : List Byte)
  | take (port : Port)
  -- modes, reset and frame timing (Chapter 11)
  | start (port : Port)
  | hold (port : Port)
  | restart (port : Port)
  | resetAssert
  | resetRelease
  | timingMark (moment : Nat)
  | markTimeout
  | heldBoundary
  -- what falls due in the sample switch and the load monitor (Chapters 4 and 7)
  | noiseGuardMute (head : Head)
  | noiseGuardUnmute (head : Head)
  | slipGateOpen (head : Head)
  | saturationWindowEnd
  | loadWindowEnd
  | samplePeriod (streams : Streams)
  | uplinkGroupComplete (head : Head) (words : Vector LaneWord 8)
  -- events of a head link (Chapters 5 and 6)
  | lightLost (head : Head) (moment : Nat)
  | lightRestored (head : Head) (moment : Nat)
  | blipLimitReached (head : Head) (moment : Nat)
  | blipWindowEnd (head : Head)
  | lockFound (head : Head)
  | lockLost (head : Head)
  | seekLockComplete (head : Head)
  | headReport (head : Head) (moment : Nat) (report : HeadReport) (intact : Bool)
  | reportLate (head : Head) (moment : Nat)
  | reportLostLimit (head : Head) (moment : Nat)
  | measureAttemptBegin (head : Head)
  | remeasureCountdownEnd (head : Head)
  | markerReturn (head : Head) (sentFrame : Frame) (roundTrip : Nat)
  | markerLost (head : Head)
  | errorWindowEnd (head : Head)
  | holdOffExpiry (head : Head)
  | testWordReturned (head : Head) (word : Word) (parity : BitVec 4)
  | recomputeComplete (head : Head)
  deriving DecidableEq, Repr

end Sys2Proof
end

