-- ==== Sys2Proof/Decode.lean ====
section
/-!
DEFINITION. The command that a table word spells. No row of the table of operations and events has bits (every
row's list of fields is empty), so no word spells a command.
-/

namespace Sys2Proof

/-- The command that the word spells by the table's bits: none, since the table gives no row any bits. -/
def decodeTableWord (_nbits _w : Nat) : Option Instr := none

end Sys2Proof
end

