-- ==== Sys2Proof/Machine/State.lean ====
section
/-!
DEFINITION. The state of the Kalmeno 416, block by block as Chapter 0's block overview lists its owners, its
value right after device reset, and the reasons a step can stop. INVENTORY.md lists every field with its rule.
-/

namespace Sys2Proof.Machine

/-! ## Mode control and the frame timing unit (Chapter 11) -/

/-- The device mode (R194). -/
inductive Mode where
  | reset
  | hold
  | run
  deriving DecidableEq, Repr

/-- The timing state (R193). -/
inductive TimingState where
  | locked
  | held
  deriving DecidableEq, Repr

/-- The frame timing unit (R193). Moments are du of device time since the release of the reset. -/
structure Timing where
  /-- LOCKED or HELD. -/
  state        : TimingState
  /-- The measured period P in du. -/
  period       : Nat
  /-- The moment of the last frame boundary. -/
  lastBoundary : Nat
  /-- In HELD, the moment of the candidate mark. -/
  candidate    : Option Nat
  /-- The frame number. -/
  frame        : Frame
  /-- MODEL'S OWN (log entry 3): the latest moment that a command has told the part. -/
  now          : Nat
  deriving DecidableEq, Repr

/-! ## Configuration controller (Chapters 1 and 2) -/

/-- NARROW, MEDIUM or WIDE (R1, R27). -/
inductive WidthClass where
  | narrow
  | medium
  | wide
  deriving DecidableEq, Repr

/-- The units reserved for a pending binding on one gaining head: they run from `first` (R16). -/
structure Reservation where
  head  : Head
  first : LaneIndex
  deriving DecidableEq, Repr

/-- A binding accepted and not yet applied (R1, R16). Sector sets are ascending lists without repeats. -/
structure PendingBinding where
  sectors  : List Sector
  reserved : List Reservation
  deriving DecidableEq, Repr

/-- One record of the carrier table (R1). -/
structure CarrierRecord where
  declared : Bool
  width    : WidthClass
  /-- The power request in mW. -/
  power    : Nat
  /-- The combine shift s. -/
  shift    : Nat
  /-- The active binding: an ascending list of sectors without repeats. -/
  active   : List Sector
  pending  : Option PendingBinding
  orphan   : Bool
  deriving DecidableEq, Repr

/-- One entry of a lane table (R25). -/
inductive LaneUnit where
  | free
  | owned (carrier : Carrier)
  | reserved (carrier : Carrier)
  deriving DecidableEq, Repr

/-- Why a placement is excluded (R28, R38, R39). -/
inductive Exclusion where
  | none
  | incapable
  | window
  deriving DecidableEq, Repr

/-- What the last installation gave a placement (R28, R31). -/
inductive PowerOutcome where
  | none
  | starved
  | radiating
  deriving DecidableEq, Repr

/-- The running energy meter of a placement and its last result (R78, R79). -/
structure Meter where
  sum          : Nat
  count        : Nat
  lastMean     : Nat
  lastComplete : Bool
  deriving DecidableEq, Repr

/-- One placement record (R28), with the power sharing unit's installed basis (R44), the sample switch's
attenuation in use (R67), samples held back by the alignment offset (R69) and energy meter (R78). Its
downlink state is derived from the state (R29): `downlinkState` in Machine/Flags.lean. -/
structure Placement where
  head      : Head
  carrier   : Carrier
  first     : LaneIndex
  units     : Nat
  exclusion : Exclusion
  outcome   : PowerOutcome
  grant     : Nat
  step      : Fin 32
  offset    : Nat
  basis     : Option Nat
  inUse     : Fin 32
  /-- Downlink sample sets held back by the offset, oldest first. -/
  downHeld  : List (List Sample)
  /-- Uplink sample sets held back by the offset, oldest first. -/
  upHeld    : List (List Sample)
  meter     : Meter
  deriving DecidableEq, Repr

/-! ## Power sharing unit (Chapter 3) -/

/-- The inputs that a recompute works on (R50). -/
structure Snapshot where
  /-- The eligible placements of the head: carrier and power request, ascending. -/
  entries   : List (Carrier × Nat)
  /-- Those of them that have stayed eligible since (R31, R52). -/
  writable  : List Carrier
  weights   : Vector Nat 4
  nominal   : Nat
  derate    : Nat
  paOff     : Bool
  inService : Bool
  deriving DecidableEq, Repr

/-- The power sharing unit's state for one head (R44). -/
structure PowerHead where
  nominal     : Nat
  effective   : Nat
  /-- RUNNING with its snapshot, or IDLE. -/
  running     : Option Snapshot
  again       : Bool
  handedDerate : Nat
  handedPaOff  : Bool
  snapDerate  : Nat
  snapPaOff   : Bool
  /-- MODEL'S OWN (log entry 8): the running recompute has seen a frame boundary. -/
  aged        : Bool
  deriving DecidableEq, Repr

/-! ## Sample switch (Chapter 4) -/

/-- The sample switch's state for one head: elastic buffer (R70), slip gate (R74), noise guard (R80) and
settings (R83). -/
structure UplinkHead where
  /-- RUNNING (true) or STOPPED. -/
  running     : Bool
  /-- The complete groups held, oldest first; the fill is its length. -/
  groups      : List Group
  slipGate    : Nat
  gain        : Nat
  almostEmpty : Nat
  almostFull  : Nat
  ceiling     : Nat
  onset       : Nat
  release     : Nat
  muted       : Bool
  loud        : Nat
  quiet       : Nat
  deriving DecidableEq, Repr

/-- The saturation monitor of one carrier (R77). -/
structure SaturationMonitor where
  count     : Nat
  last      : Nat
  threshold : Nat
  deriving DecidableEq, Repr

/-- One lane word that a test sends: its 32 bits, and the parity bits of its four bytes, bit j for the byte of bits
8j to 8j + 7 (R107, R115). -/
structure TestWord where
  data   : Word
  parity : BitVec 4
  deriving DecidableEq, Repr

/-- What a head link carries in a sample period (R65, R88, R115): TEST alone sends the loopback request. -/
inductive HeadTransmission where
  | dark
  | idleFraming
  | lanes (samples : List Sample)
  | loopback (words : List TestWord)
  deriving DecidableEq, Repr

/-- What the part puts on its wires: each head link's transmission, each carrier's uplink samples on its
operator link, the last message sent on each sub-channel, the bytes of the last SPI read (log entry 4). -/
structure Wires where
  heads      : Vector HeadTransmission 16
  uplink     : Vector (List Sample) 16
  subChannel : Vector (Option Message) 4
  spi        : List Byte
  deriving DecidableEq, Repr

/-! ## Head link controllers (Chapters 5 and 6) -/

/-- The link state of a head (R86). -/
inductive LinkState where
  | off
  | seek
  | measure
  | up
  | degraded
  | failed
  | test
  deriving DecidableEq, Repr

/-- Whether a head can carry WIDE carriers (R86, R94). -/
inductive Capability where
  | yes
  | no
  | unknown
  deriving DecidableEq, Repr

/-- The last report as the controller keeps it (R86, R95). -/
structure ReportRecord where
  derate   : Nat
  paOff    : Bool
  overTemp : Bool
  supply   : Bool
  paFault  : Bool
  deriving DecidableEq, Repr

/-- One marker of the running attempt: the frame whose opening boundary sent it, and its round trip (R96). -/
structure Marker where
  sentFrame : Frame
  roundTrip : Option Nat
  deriving DecidableEq, Repr

/-- The settings of a head link (R87). -/
structure HeadSettings where
  hysteresis       : Nat
  reportMin        : Nat
  reportMax        : Nat
  lostLimit        : Nat
  blipLimit        : Nat
  degradeThreshold : Nat
  clearThreshold   : Nat
  failCount        : Nat
  holdOff          : Nat
  remeasure        : Nat
  tolerance        : Nat
  fibreCode        : Nat
  deriving DecidableEq, Repr

/-- SINGLE or CONTINUOUS (R113). -/
inductive CountMode where
  | single
  | continuous
  deriving DecidableEq, Repr

/-- A test snapshot (R119). -/
structure TestRecord where
  frame   : Frame
  mode    : CountMode
  locked  : Bool
  checked : Nat
  errored : Nat
  wraps   : Nat
  stopped : Bool
  deriving DecidableEq, Repr

/-- The test state of a head (R113). -/
structure TestState where
  mode      : CountMode
  pattern   : BitVec 15
  reference : Option (BitVec 15)
  /-- LOCKED (true) or SEARCH. -/
  locked    : Bool
  cleanRun  : Nat
  /-- Outcomes of the last words checked in LOCKED, oldest first; true is errored. -/
  history   : List Bool
  checked   : Nat
  errored   : Nat
  wraps     : Nat
  stopped   : Bool
  snapshot  : Option TestRecord
  deriving DecidableEq, Repr

/-- The sixteen alarm kinds (R161). -/
inductive AlarmKind where
  | headLinkLost
  | headFailed
  | headDegraded
  | linkBlips
  | reportLate
  | reportFast
  | delayUnstable
  | delayShift
  | headFault
  | uplinkNoise
  | bufferSlip
  | carrierExcluded
  | carrierStarved
  | carrierOrphaned
  | uplinkSaturation
  | operatorLinkLost
  deriving DecidableEq, Repr

/-- The head link record (R86), with the settings of R87 and the test state of R113. -/
structure HeadLink where
  state          : LinkState
  capability     : Capability
  latency        : Option Nat
  delay          : Option Nat
  fibre          : Option Nat
  report         : Option ReportRecord
  lockedCount    : Nat
  reportSeen     : Bool
  attempt        : Nat
  /-- The markers of the running attempt, in sending order; none while no attempt runs. -/
  markers        : Option (List Marker)
  remeasureCount : Nat
  /-- The moment the running report timer started from 0; none while it is stopped. -/
  reportTimer    : Option Nat
  /-- The moment the running light timer started from 0; none while it is stopped. -/
  lightTimer     : Option Nat
  blipFrames     : Nat
  blips          : Nat
  errorFrames    : Nat
  errors         : Nat
  degradedCount  : Nat
  holdOffCount   : Nat
  /-- The held conditions: a list without repeats. -/
  held           : List AlarmKind
  settings       : HeadSettings
  test           : TestState
  /-- The optical receiver has reported light lost and not yet restored (R91, R105). -/
  lightAbsent    : Bool
  /-- The framer holds lock (R91). -/
  framerLock     : Bool
  /-- The framer has held lock since the last frame boundary (R92). -/
  lockWhole      : Bool
  /-- The report timer has passed the maximum since it last started, or since the maximum last became one that it had
  not passed (R87, R103). -/
  latePassed     : Bool
  /-- A report has been accepted since the head entered MEASURE (R103). -/
  watched        : Bool
  deriving DecidableEq, Repr

/-! ## Load monitor (Chapter 7) -/

/-- The load monitor's state for one head (R123); a mark is true while whole. -/
structure LoadHead where
  activity : Nat
  present  : Nat
  busy     : Nat
  whole    : Bool
  deriving DecidableEq, Repr

/-- One published load with its measured flag (R127). -/
structure Load where
  load     : Nat
  measured : Bool
  deriving DecidableEq, Repr

/-- The published report (R127). -/
structure LoadReport where
  frame   : Frame
  window  : Nat
  heads   : Vector Load 16
  sectors : Vector Load 12
  deriving DecidableEq, Repr

/-- ABOVE or BELOW (R131). -/
inductive Direction where
  | above
  | below
  deriving DecidableEq, Repr

/-- SINGLE or REPEAT (R133). -/
inductive TriggerMode where
  | single
  | repeating
  deriving DecidableEq, Repr

/-- One trigger record (R134). -/
structure Trigger where
  armed     : Bool
  sector    : Sector
  direction : Direction
  mark      : Nat
  windows   : Nat
  slot      : SlotIndex
  mode      : TriggerMode
  count     : Nat
  deferred  : Bool
  awaiting  : Bool
  deriving DecidableEq, Repr

/-- The load monitor (R123, R134). -/
structure LoadMonitor where
  window       : Nat
  windowStart  : Frame
  windowFrames : Nat
  runWhole     : Bool
  linkWhole    : Vector Bool 4
  heads        : Vector LoadHead 16
  published    : Option LoadReport
  triggers     : Vector Trigger 8
  deriving DecidableEq, Repr

/-! ## Plan controller (Chapter 8) -/

/-- A sector map: for each head a sector or NONE (R4, R139). -/
abbrev SectorMap := Vector (Option Sector) 16

/-- The failure reasons of admission (R36), and EMPTY for a slot with no staged map (R144). -/
inductive FailureReason where
  | incapable
  | laneFull
  | laneFragmented
  | delaySpread
  | empty
  deriving DecidableEq, Repr

/-- Reason, head and carrier of a failed validation; EMPTY names no head or carrier (R144). -/
structure Failure where
  reason  : FailureReason
  head    : Option Head
  carrier : Option Carrier
  deriving DecidableEq, Repr

/-- The layout of one changed head: its departing carriers, its newcomers with their start units (R144). -/
structure HeadLayout where
  head      : Head
  departing : List Carrier
  newcomers : List (Carrier × LaneIndex)
  deriving DecidableEq, Repr

/-- Who proposed a plan (R139). -/
inductive PlanSource where
  | mp
  | trigger (trigger : TriggerIndex)
  deriving DecidableEq, Repr

/-- An affected operator's answer (R139). -/
inductive ConsentAnswer where
  | none
  | accept
  | refuse
  deriving DecidableEq, Repr

/-- REQUIRED or PRESUMED (R140). -/
inductive ConsentMode where
  | required
  | presumed
  deriving DecidableEq, Repr

/-- What a pending plan holds beside its staged map (R139). -/
structure Offer where
  verdictFrame : Frame
  layout       : List HeadLayout
  /-- The affected operators, ascending. -/
  affected     : List Link
  number       : Nat
  source       : PlanSource
  /-- The answer of each operator; it counts for the affected ones alone. -/
  answers      : Vector ConsentAnswer 4
  deriving DecidableEq, Repr

/-- A plan slot: its state with the fields that state holds (R139). -/
inductive PlanSlot where
  | empty
  | draft (map : SectorMap)
  | valid (map : SectorMap) (verdictFrame : Frame) (layout : List HeadLayout) (affected : List Link)
  | invalid (map : SectorMap) (verdictFrame : Frame) (failure : Failure)
  | consent (map : SectorMap) (offer : Offer) (remaining : Nat)
  | commitWait (map : SectorMap) (offer : Offer)
  deriving DecidableEq, Repr

/-- The result of a plan (R158). -/
inductive PlanResult where
  | committed
  | refused
  | expired
  | cancelled
  | revalidate
  | invalid
  deriving DecidableEq, Repr

/-- The outcome record (R158). -/
structure Outcome where
  number   : Option Nat
  slot     : SlotIndex
  source   : PlanSource
  result   : PlanResult
  frame    : Frame
  affected : List Link
  answers  : Vector ConsentAnswer 4
  refusing : Option Link
  failure  : Option Failure
  deriving DecidableEq, Repr

/-- The plan controller (R139, R140). -/
structure PlanController where
  slots       : Vector PlanSlot 4
  counter     : Nat
  consentTime : Nat
  modes       : Vector ConsentMode 4
  last        : Option Outcome
  deriving DecidableEq, Repr

/-! ## Alarm log and inboxes (Chapter 9) -/

/-- The subject of an alarm (R161). -/
inductive Subject where
  | head (head : Head)
  | carrier (carrier : Carrier)
  | carrierHead (carrier : Carrier) (head : Head)
  | link (link : Link)
  deriving DecidableEq, Repr

/-- One reader's notice on one record (R162, R169). -/
structure Notice where
  pending : Bool
  seen    : Bool
  deriving DecidableEq, Repr

/-- An alarm record (R162). Its class is fixed by its kind (`AlarmKind.isEvent`), and it is ACTIVE exactly
while its clear frame is absent (`AlarmRecord.active`). -/
structure AlarmRecord where
  kind       : AlarmKind
  subject    : Subject
  firstFrame : Frame
  lastFrame  : Frame
  clearFrame : Option Frame
  count      : Nat
  detail     : Word
  audience   : Vector Bool 5
  notices    : Vector Notice 5
  deriving DecidableEq, Repr

/-- The alarm log (R162). -/
structure AlarmLog where
  slots   : Vector (Option AlarmRecord) 64
  dropped : Nat
  full    : Bool
  evicted : Vector Bool 5
  masks   : Vector (BitVec 16) 5
  deriving DecidableEq, Repr

/-- The message a full inbox holds (R176). -/
structure Mail where
  sender  : Port
  payload : List Byte
  deriving DecidableEq, Repr

/-! ## Request controller and operator link interfaces (Chapter 10) -/

/-- How far a request in service has come (R186, R187, R188). -/
inductive Phase where
  /-- At the configuration arbiter, not yet granted. -/
  | awaitingGrant
  /-- An accepted BIND, waiting for its frame boundary. -/
  | awaitingBoundary (carrier : Carrier)
  /-- Carried out; its reply waits for room in the outgoing queue. -/
  | awaitingRoom (reply : List Message)
  deriving DecidableEq, Repr

/-- The request in service on a port (R186), with the mark of R180. -/
structure InService where
  message   : Message
  phase     : Phase
  discarded : Bool
  deriving DecidableEq, Repr

/-- The request controller's state for one port (R185, R186, R188). -/
structure PortRecord where
  queue        : List Message
  inService    : Option InService
  outgoing     : List Message
  lostRefusals : Nat
  deriving DecidableEq, Repr

/-- The configuration arbiter (R187). -/
structure Arbiter where
  granted : Option Port
  last    : Port
  deriving DecidableEq, Repr

/-- One operator link interface (R179). -/
structure LinkRecord where
  up        : Bool
  cause     : Option LinkCause
  /-- Where the baseband's frame marker lies, in du after the device's frame boundary, while the interface holds lock
  on the framing; none while it holds none. -/
  alignment : Option Int
  deriving DecidableEq, Repr

/-! ## What a frame boundary has left to be taken -/

/-- MODEL'S OWN (log entry 6). What falls due at a frame boundary, or at the moment a limit is met, and is a step of its own in the
table of operations and events. -/
inductive Due where
  | bindingApply (carriers : List Carrier)
  | consentExpiry
  | planRevalidate (slot : SlotIndex) (number : Nat)
  /-- The conditions of R92 hold since a moment. -/
  | seekLock (head : Head) (moment : Nat)
  | attemptBegin (head : Head)
  | remeasureBegin (head : Head)
  | markerLost (head : Head)
  | blipWindow (head : Head)
  | errorWindow (head : Head)
  | holdOff (head : Head)
  | slipGate (head : Head)
  | mute (head : Head) (smallest : Nat)
  | unmute (head : Head)
  | saturationWindow
  | loadWindow
  /-- The plan controller's answer to a trigger's firing: deferred or taken; the triggers after it are still to be
  evaluated on the published sector loads (R131, R133). -/
  | triggerAnswer (trigger : TriggerIndex) (deferred : Bool) (loads : Vector Load 12)
  deriving DecidableEq, Repr

/-! ## The state -/

/-- The whole part, and the queue of commands that wait for it. -/
structure State where
  mode        : Mode
  timing      : Timing
  carriers    : Vector CarrierRecord 16
  sectorMap   : SectorMap
  lanes       : Vector (Vector LaneUnit 8) 16
  /-- The placement records, ascending by head and then by carrier, at most one for a pair. -/
  placements  : List Placement
  power       : Vector PowerHead 16
  weights     : Vector Nat 4
  uplinks     : Vector UplinkHead 16
  monitors    : Vector SaturationMonitor 16
  /-- The frame count of the saturation window (R77). -/
  satFrames   : Nat
  heads       : Vector HeadLink 16
  load        : LoadMonitor
  plans       : PlanController
  log         : AlarmLog
  inboxes     : Vector (Option Mail) 5
  ports       : Vector PortRecord 5
  arbiter     : Arbiter
  links       : Vector LinkRecord 4
  wires       : Wires
  due         : List Due
  /-- Commands waiting, first in, first out. -/
  pending     : List Instr
  deriving DecidableEq, Repr

/-! ## Reset values -/

/-- A carrier record after device reset, RESTART or WITHDRAW (R2). -/
def CarrierRecord.reset : CarrierRecord :=
  { declared := false, width := .narrow, power := 1, shift := 2, active := [], pending := none, orphan := false }

/-- The power sharing unit's state for a head after device reset (R44). -/
def PowerHead.reset : PowerHead :=
  { nominal := 2000, effective := 0, running := none, again := false, handedDerate := 0, handedPaOff := false,
    snapDerate := 0, snapPaOff := false, aged := false }

/-- The sample switch's state for a head after device reset (R70, R74, R80, R83). -/
def UplinkHead.reset : UplinkHead :=
  { running := false, groups := [], slipGate := 0, gain := 64, almostEmpty := 8, almostFull := 8,
    ceiling := 1073741824, onset := 50, release := 100, muted := false, loud := 0, quiet := 0 }

/-- A saturation monitor after device reset (R77). -/
def SaturationMonitor.reset : SaturationMonitor := { count := 0, last := 0, threshold := 64 }

/-- The default settings of a head link (R87). -/
def HeadSettings.reset : HeadSettings :=
  { hysteresis := 1, reportMin := 50, reportMax := 250, lostLimit := 1000, blipLimit := 20, degradeThreshold := 16,
    clearThreshold := 4, failCount := 10, holdOff := 500, remeasure := 6000, tolerance := 2, fibreCode := 4 }

/-- The test state after device reset (R113). -/
def TestState.reset : TestState :=
  { mode := .single, pattern := BitVec.allOnes 15, reference := none, locked := false, cleanRun := 0, history := [],
    checked := 0, errored := 0, wraps := 0, stopped := false, snapshot := none }

/-- A head link record after device reset (R86); the receiver's and framer's flags by log entry 9. -/
def HeadLink.reset : HeadLink :=
  { state := .off, capability := .unknown, latency := none, delay := none, fibre := none, report := none,
    lockedCount := 0, reportSeen := false, attempt := 0, markers := none, remeasureCount := 0, reportTimer := none,
    lightTimer := none, blipFrames := 0, blips := 0, errorFrames := 0, errors := 0, degradedCount := 0,
    holdOffCount := 0, held := [], settings := HeadSettings.reset, test := TestState.reset, lightAbsent := false,
    framerLock := false, lockWhole := false, latePassed := false, watched := false }

/-- The load monitor's state for a head after device reset (R123). -/
def LoadHead.reset : LoadHead := { activity := 1048576, present := 0, busy := 0, whole := false }

/-- A trigger after device reset and after RESTART (R134). -/
def Trigger.reset : Trigger :=
  { armed := false, sector := 0, direction := .above, mark := 100, windows := 1, slot := 0, mode := .single, count := 0,
    deferred := false, awaiting := false }

/-- The load monitor after device reset (R123). -/
def LoadMonitor.reset : LoadMonitor :=
  { window := 500, windowStart := 0, windowFrames := 0, runWhole := false, linkWhole := Vector.replicate 4 false,
    heads := Vector.replicate 16 LoadHead.reset, published := none, triggers := Vector.replicate 8 Trigger.reset }

/-- The plan controller after device reset (R139, R140). -/
def PlanController.reset : PlanController :=
  { slots := Vector.replicate 4 .empty, counter := 0, consentTime := 3000, modes := Vector.replicate 4 .required,
    last := none }

/-- The alarm log after device reset (R162). -/
def AlarmLog.reset : AlarmLog :=
  { slots := Vector.replicate 64 none, dropped := 0, full := false, evicted := Vector.replicate 5 false,
    masks := Vector.replicate 5 (BitVec.allOnes 16) }

/-- A port after device reset (R185, R188). -/
def PortRecord.reset : PortRecord := { queue := [], inService := none, outgoing := [], lostRefusals := 0 }

/-- The wires right after the release of the reset: every head is in OFF and dark (R88), nothing is sent. -/
def Wires.reset : Wires :=
  { heads := Vector.replicate 16 .dark, uplink := Vector.replicate 16 [], subChannel := Vector.replicate 4 none, spi := [] }

/-- The part right after the release of the device reset (R193, R194 and the reset clause of every owner). -/
def State.reset : State :=
  { mode := .hold
    timing := { state := .held, period := Config.periodReset, lastBoundary := 0, candidate := none, frame := 0, now := 0 }
    carriers := Vector.replicate 16 CarrierRecord.reset
    sectorMap := Vector.replicate 16 none
    lanes := Vector.replicate 16 (Vector.replicate 8 .free)
    placements := []
    power := Vector.replicate 16 PowerHead.reset
    weights := Vector.replicate 4 1
    uplinks := Vector.replicate 16 UplinkHead.reset
    monitors := Vector.replicate 16 SaturationMonitor.reset
    satFrames := 0
    heads := Vector.replicate 16 HeadLink.reset
    load := LoadMonitor.reset
    plans := PlanController.reset
    log := AlarmLog.reset
    inboxes := Vector.replicate 5 none
    ports := Vector.replicate 5 PortRecord.reset
    arbiter := { granted := none, last := 4 }
    links := Vector.replicate 4 { up := false, cause := none, alignment := none }
    wires := Wires.reset
    due := []
    pending := [] }

/-! ## Why a step can stop -/

/-- Faults: none. No command stops the part: a request is answered, an event is taken or finds nothing to
do (log entry 7). A closed inductive without constructors says so. -/
inductive Fault where
  deriving DecidableEq, Repr

/-- Refusals. -/
inductive Refusal where
  /-- Raised by exec's arm of a command that has no meaning yet. Safe: the model stops where the part goes on. -/
  | notModelled (mnemonic : String)
  deriving DecidableEq, Repr

end Sys2Proof.Machine
end

