-- ==== Sys2Proof/Machine/Flags.lean ====
section
/-!
DEFINITION. What the manual derives from the state: in service, downlink state, eligibility, head set, the
orphan condition, the attention composites, and the lines ATTN_N and MSG_N.
-/

namespace Sys2Proof

/-- H0 to H15, ascending. -/
def allHeads : List Head := List.finRange 16

/-- C0 to C15, ascending. -/
def allCarriers : List Carrier := List.finRange 16

/-- OL0 to OL3, ascending. -/
def allLinks : List Link := List.finRange 4

/-- S0 to S11, ascending. -/
def allSectors : List Sector := List.finRange 12

/-- OL0, OL1, OL2, OL3, MP: the cyclic order of the arbiter (R187). -/
def allPorts : List Port := List.finRange 5

/-- The management port. -/
def Port.mp : Port := 4

/-- The port of an operator link. -/
def Port.ofLink (l : Link) : Port := l.castSucc

/-- The operator link behind a port; none for MP. -/
def Port.link? (p : Port) : Option Link := if h : p.val < 4 then some ⟨p.val, h⟩ else none

/-- The operator of carrier C(4i + j) is OLi (R1). -/
def Carrier.owner (c : Carrier) : Link := ⟨c.val / 4, by have h : c.val < 16 := c.isLt; omega⟩

/-- The 32 bits of a lane word: I from its most significant bit down, then Q (R115). -/
def Sample.word (x : Sample) : Word := x.i ++ x.q

namespace Machine

/-- Lane units that a carrier of a width class occupies on a head (R27). -/
def WidthClass.units : WidthClass → Nat
  | .narrow => 1
  | .medium => 2
  | .wide => 4

/-- Permitted start units of a width class, ascending (R27). -/
def WidthClass.starts : WidthClass → List LaneIndex
  | .narrow => [0, 1, 2, 3, 4, 5, 6, 7]
  | .medium => [0, 2, 4, 6]
  | .wide => [0, 4]

/-- A link state is in service when it is UP or DEGRADED (R86). -/
def LinkState.inService : LinkState → Bool
  | .up => true
  | .degraded => true
  | .off => false
  | .seek => false
  | .measure => false
  | .failed => false
  | .test => false

/-- Head h is in service (R86). -/
def State.inService (s : State) (h : Head) : Bool := s.heads[h].state.inService

/-- The head's last report carries the PA-off flag (R29). -/
def State.paOff (s : State) (h : Head) : Bool :=
  match s.heads[h].report with
  | none => false
  | some r => r.paOff

/-- Operator link l is UP (R179). -/
def State.linkUp (s : State) (l : Link) : Bool := s.links[l].up

/-- The port takes and sends messages now: an operator link while it is UP (R179), the management port always,
and none while the reset is asserted (R182, R194). -/
def State.portOpen (s : State) (p : Port) : Bool :=
  match s.mode, p.link? with
  | .reset, _ => false
  | _, none => true
  | _, some l => s.linkUp l

/-- The current frame number. -/
def State.frame (s : State) : Frame := s.timing.frame

/-- Frames elapsed from f to the current frame, modulo 2^32: the older of two frames has more (R162). -/
def State.elapsed (s : State) (f : Frame) : Nat := (s.frame - f).toNat

/-! ## Placements -/

/-- The seven downlink states (R28). -/
inductive DownlinkState where
  | excluded
  | held
  | headOut
  | idle
  | new
  | starved
  | radiating
  deriving DecidableEq, Repr

/-- The downlink state of a placement: the first condition of R29's table that holds. -/
def State.downlinkState (s : State) (p : Placement) : DownlinkState :=
  if p.exclusion ≠ .none then .excluded
  else if s.mode ≠ .run then .held
  else if !s.inService p.head || s.paOff p.head then .headOut
  else if !s.linkUp p.carrier.owner then .idle
  else
    match p.outcome with
    | .none => .new
    | .starved => .starved
    | .radiating => .radiating

/-- NEW, STARVED and RADIATING are the eligible states (R29). -/
def DownlinkState.eligible : DownlinkState → Bool
  | .new => true
  | .starved => true
  | .radiating => true
  | .excluded => false
  | .held => false
  | .headOut => false
  | .idle => false

/-- A placement takes part in the division of its head's power (R29). -/
def State.eligible (s : State) (p : Placement) : Bool := (s.downlinkState p).eligible

/-- The placement of carrier c on head h, where there is one (R28). -/
def State.placement (s : State) (h : Head) (c : Carrier) : Option Placement :=
  s.placements.find? (fun p => p.head = h ∧ p.carrier = c)

/-- The placements on head h, ascending by carrier. -/
def State.placementsOn (s : State) (h : Head) : List Placement := s.placements.filter (fun p => p.head = h)

/-- The placements of carrier c, ascending by head. -/
def State.placementsOf (s : State) (c : Carrier) : List Placement := s.placements.filter (fun p => p.carrier = c)

/-- The heads whose sector in a map is in a sector set (R5, R143). -/
def headSetUnder (map : SectorMap) (sectors : List Sector) : List Head :=
  allHeads.filter fun h =>
    match map[h] with
    | none => false
    | some sector => sectors.contains sector

/-- The head set of a carrier (R5). -/
def State.headSet (s : State) (c : Carrier) : List Head := headSetUnder s.sectorMap s.carriers[c].active

/-- A carrier is bound while its active binding is non-empty or a pending binding is present (R7). -/
def CarrierRecord.bound (r : CarrierRecord) : Bool := !r.active.isEmpty || r.pending.isSome

/-- Some carrier has a pending binding (R145, R148). -/
def State.bindingPending (s : State) : Bool := allCarriers.any fun c => s.carriers[c].pending.isSome

/-- The orphan condition of a carrier (R22). -/
def State.orphanCondition (s : State) (c : Carrier) : Bool :=
  !s.carriers[c].active.isEmpty && s.linkUp c.owner && decide (s.mode = .run) &&
    !(s.placementsOf c).any (fun p => s.inService p.head && decide (p.exclusion = .none))

/-! ## Delay spread -/

/-- The largest less the smallest of a list of delays, 0 for fewer than two (R35). -/
def spread (delays : List Nat) : Nat :=
  match delays with
  | [] => 0
  | d :: rest => rest.foldl max d - rest.foldl min d

/-- The spread over a carrier's non-excluded placements with known delay, the placement on h counted in even
while it is excluded (R39, R40). -/
def State.spreadWith (s : State) (c : Carrier) (h : Head) : Nat :=
  spread (((s.placementsOf c).filter fun p => decide (p.exclusion = .none) || decide (p.head = h)).filterMap
    fun p => s.heads[p.head].delay)

/-! ## Plan controller -/

/-- The offer of a slot in CONSENT or COMMIT_WAIT (R139). -/
def PlanSlot.offer? : PlanSlot → Option Offer
  | .consent _ o _ => some o
  | .commitWait _ o => some o
  | .empty => none
  | .draft _ => none
  | .valid _ _ _ _ => none
  | .invalid _ _ _ => none

/-- The staged map of a slot, absent in EMPTY alone (R139). -/
def PlanSlot.map? : PlanSlot → Option SectorMap
  | .empty => none
  | .draft m => some m
  | .valid m _ _ _ => some m
  | .invalid m _ _ => some m
  | .consent m _ _ => some m
  | .commitWait m _ => some m

/-- P0 to P3, ascending. -/
def allSlots : List SlotIndex := List.finRange 4

/-- The pending plan: the slot in CONSENT or COMMIT_WAIT with its offer (R139). -/
def State.pendingPlan (s : State) : Option (SlotIndex × Offer) :=
  allSlots.findSome? fun k => (s.plans.slots[k].offer?).map fun o => (k, o)

/-- A plan slot is in CONSENT or COMMIT_WAIT (R7, R13, R146). -/
def State.planPending (s : State) : Bool := s.pendingPlan.isSome

/-! ## Alarm kinds and attention -/

/-- The number of a kind (R161). -/
def AlarmKind.number : AlarmKind → Fin 16
  | .headLinkLost => 0
  | .headFailed => 1
  | .headDegraded => 2
  | .linkBlips => 3
  | .reportLate => 4
  | .reportFast => 5
  | .delayUnstable => 6
  | .delayShift => 7
  | .headFault => 8
  | .uplinkNoise => 9
  | .bufferSlip => 10
  | .carrierExcluded => 11
  | .carrierStarved => 12
  | .carrierOrphaned => 13
  | .uplinkSaturation => 14
  | .operatorLinkLost => 15

/-- The class of a kind is EVENT (R161). -/
def AlarmKind.isEvent : AlarmKind → Bool
  | .linkBlips => true
  | .reportFast => true
  | .delayUnstable => true
  | .delayShift => true
  | .bufferSlip => true
  | .uplinkSaturation => true
  | .headLinkLost => false
  | .headFailed => false
  | .headDegraded => false
  | .reportLate => false
  | .headFault => false
  | .uplinkNoise => false
  | .carrierExcluded => false
  | .carrierStarved => false
  | .carrierOrphaned => false
  | .operatorLinkLost => false

/-- A record is ACTIVE while its clear frame is absent, CLEARED otherwise (R162). -/
def AlarmRecord.active (r : AlarmRecord) : Bool := r.clearFrame.isNone

/-- The last-change frame of a record (R162). -/
def AlarmRecord.lastChange (r : AlarmRecord) : Frame := r.clearFrame.getD r.lastFrame

/-- The record slots 0 to 63. -/
def allRecordSlots : List (Fin 64) := List.finRange 64

/-- The record is pending for the reader. -/
def AlarmRecord.pendingFor (r : AlarmRecord) (p : Port) : Bool := r.notices[p].pending

/-- The record counts for the reader's attention: pending, of a kind that the mask enables (R174). -/
def AlarmRecord.enabledFor (r : AlarmRecord) (mask : BitVec 16) (p : Port) : Bool :=
  r.pendingFor p && mask.getLsbD r.kind.number.val

/-- The number of records pending for a reader whose kinds its mask enables (R175). -/
def AlarmLog.enabledPending (log : AlarmLog) (p : Port) : Nat :=
  log.slots.toList.countP fun slot =>
    match slot with
    | none => false
    | some r => r.enabledFor log.masks[p] p

/-- The reader's attention composite as far as the records go (R174). -/
def AlarmLog.composite (log : AlarmLog) (p : Port) : Bool := decide (0 < log.enabledPending p)

/-- MP's attention composite, which its full inbox makes true as well (R174). -/
def State.mpComposite (s : State) : Bool := s.log.composite Port.mp || s.inboxes[Port.mp].isSome

/-- The level of ATTN_N: low (false) while MP's composite is true (R174). -/
def State.attnN (s : State) : Bool := !s.mpComposite

/-- The level of MSG_N: low (false) while MP's outgoing queue holds a message (R182). -/
def State.msgN (s : State) : Bool := s.ports[Port.mp].outgoing.isEmpty

/-! ## Uplink gate -/

/-- The head's part of the uplink gate: in service, not muted, slip gate open (R75, R196). -/
def State.headGateOpen (s : State) (h : Head) : Bool :=
  s.inService h && !s.uplinks[h].muted && decide (s.uplinks[h].slipGate = 0)

/-- Head h of placement p contributes to the uplink sum of its carrier (R75). -/
def State.contributes (s : State) (p : Placement) : Bool :=
  decide (s.mode = .run) && s.headGateOpen p.head && decide (p.exclusion = .none)

/-! ## The parity of lane words -/

/-- The parity bit of a byte (R107): with it the number of ones is odd or even, as the part's parity has it. -/
def byteParity (b : Byte) : Bool := (List.range 8).foldl (fun p i => p ^^ b.getLsbD i) Config.oddParity

/-- The parity bits of the four bytes of a word, bit j for the byte of bits 8j to 8j + 7 (R107). -/
def parityBits (w : Word) : BitVec 4 :=
  BitVec.ofBool (byteParity (w.extractLsb' 24 8)) ++ BitVec.ofBool (byteParity (w.extractLsb' 16 8)) ++
    BitVec.ofBool (byteParity (w.extractLsb' 8 8)) ++ BitVec.ofBool (byteParity (w.extractLsb' 0 8))

/-- Some byte of a word as received fails its parity (R107, R116). -/
def parityFails (w : Word) (parity : BitVec 4) : Bool := decide (parity ≠ parityBits w)

/-! ## Timers -/

/-- The milliseconds a timer started at `start` has run, stopping at `limit` (R86). -/
def State.timerMs (s : State) (start limit : Nat) : Nat := min limit ((s.timing.now - start) / Config.duPerMs)

/-- The fibre length in metres of a delay under a fibre code (R102). -/
def fibreLength (code : Nat) (delay : Nat) : Nat := 4 * delay * 100 / (470 + 5 * code)

/-- The lock hysteresis in frames (R87). -/
def HeadSettings.lockFrames (x : HeadSettings) : Nat := 2 ^ (x.hysteresis + 1)

end Machine
end Sys2Proof
end

