-- ==== Sys2Proof/Machine/Operands.lean ====
section
/-!
DEFINITION. The operand forms of the commands: message bytes, the request types with their fields, reading a
request from a message and writing one as a message, status codes and reply messages (R183, R184, R191, R192).
-/

namespace Sys2Proof.Machine

/-! ## Bytes: multi-byte numbers are sent most significant byte first (R183) -/

/-- A number as one byte. -/
def byte1 (n : Nat) : List Byte := [BitVec.ofNat 8 n]

/-- A number as two bytes. -/
def byte2 (n : Nat) : List Byte := [BitVec.ofNat 8 (n / 256), BitVec.ofNat 8 n]

/-- A number as four bytes. -/
def byte4 (n : Nat) : List Byte :=
  [BitVec.ofNat 8 (n / 16777216), BitVec.ofNat 8 (n / 65536), BitVec.ofNat 8 (n / 256), BitVec.ofNat 8 n]

/-- A flag as one byte: 0 no, 1 yes. -/
def byteFlag (b : Bool) : List Byte := byte1 (if b then 1 else 0)

/-- A field with an unknown or absent indication: a flag byte, then the value's bytes, zeros where there is
none (log entry 10). -/
def byteOption (bytes : Nat → List Byte) : Option Nat → List Byte
  | none => byteFlag false ++ bytes 0
  | some n => byteFlag true ++ bytes n

/-- A list field that does not end its message: its length as one byte, then its entries (log entry 10). -/
def byteList {α : Type} (entry : α → List Byte) (l : List α) : List Byte :=
  byte1 l.length ++ (l.map entry).flatten

/-- A two-byte field, its high byte first. -/
def half (hi lo : Byte) : Half := hi ++ lo

/-- A four-byte field, its highest byte first. -/
def word (b3 b2 b1 b0 : Byte) : Word := b3 ++ b2 ++ b1 ++ b0

/-- The two bytes of a two-byte field. -/
def halfBytes (x : Half) : List Byte := [x.extractLsb' 8 8, x.extractLsb' 0 8]

/-- The four bytes of a four-byte field. -/
def wordBytes (x : Word) : List Byte :=
  [x.extractLsb' 24 8, x.extractLsb' 16 8, x.extractLsb' 8 8, x.extractLsb' 0 8]

/-! ## Requests -/

/-- A request as its owner receives it: its type and its fields as the message holds them (R191). A payload too
short or too long for the fields of its type is a misfit of that type (R184). -/
inductive Request where
  | declare (carrier width : Byte) (power : Half) (shift : Byte)
  | withdraw (carrier : Byte)
  | bind (carrier : Byte) (sectors : List Byte)
  | status (target : Byte) (number : Option Byte)
  | setBudget (head : Byte) (budget : Half)
  | setWeight (link weight : Byte)
  | setUplink (fields : UplinkFields)
  | setSaturation (carrier : Byte) (threshold : Half)
  | setHeadLink (fields : HeadLinkFields)
  | headEnable (head : Byte)
  | headDisable (head : Byte)
  | testStart (head mode : Byte)
  | testSnapshot (head clear : Byte)
  | testRead (head : Byte)
  | testStop (head : Byte)
  | setLoadWindow (length : Half)
  | setActivity (head : Byte) (threshold : Word)
  | triggerSet (fields : TriggerFields)
  | triggerRead (trigger : Byte)
  | loadReport
  | planEdit (slot base : Byte) (entries : List (Byte × Byte))
  | planValidate (slot : Byte)
  | planPropose (slot : Byte)
  | planCancel (number : Byte)
  | consent (number answer : Byte)
  | planQuery
  | planRead (slot : Byte)
  | setConsent (time : Half) (modes : Vector Byte 4)
  | alarmSummary
  | alarmRead (slot : Byte)
  | alarmMask (enables : Half)
  | post (destination : Byte) (payload : List Byte)
  | take
  | start
  | hold
  | restart
  | misfit (type : Nat)
  deriving DecidableEq, Repr

/-- The type numbers of R191's table. -/
def Request.type : Request → Nat
  | .declare _ _ _ _ => 1
  | .withdraw _ => 2
  | .bind _ _ => 3
  | .status _ _ => 4
  | .setBudget _ _ => 8
  | .setWeight _ _ => 9
  | .setUplink _ => 12
  | .setSaturation _ _ => 13
  | .setHeadLink _ => 16
  | .headEnable _ => 17
  | .headDisable _ => 18
  | .testStart _ _ => 20
  | .testSnapshot _ _ => 21
  | .testRead _ => 22
  | .testStop _ => 23
  | .setLoadWindow _ => 24
  | .setActivity _ _ => 25
  | .triggerSet _ => 26
  | .triggerRead _ => 27
  | .loadReport => 28
  | .planEdit _ _ _ => 32
  | .planValidate _ => 33
  | .planPropose _ => 34
  | .planCancel _ => 35
  | .consent _ _ => 36
  | .planQuery => 37
  | .planRead _ => 38
  | .setConsent _ _ => 39
  | .alarmSummary => 40
  | .alarmRead _ => 41
  | .alarmMask _ => 42
  | .post _ _ => 44
  | .take => 45
  | .start => 48
  | .hold => 49
  | .restart => 50
  | .misfit t => t

/-- The request types of R191's table. -/
def requestTypes : List Nat :=
  [1, 2, 3, 4, 8, 9, 12, 13, 16, 17, 18, 20, 21, 22, 23, 24, 25, 26, 27, 28, 32, 33, 34, 35, 36, 37, 38, 39,
   40, 41, 42, 44, 45, 48, 49, 50]

/-- The request types that pass through the configuration arbiter (R187, R191). -/
def arbiterTypes : List Nat := [1, 2, 3, 32, 33, 34, 35, 36]

/-- The head and sector bytes of a PLAN_EDIT list, in pairs; none for an odd number of bytes (R142, R183). The list ends
with the payload and has no length byte: the model's choice (log entry 10). -/
def pairs : List Byte → Option (List (Byte × Byte))
  | [] => some []
  | [_] => none
  | a :: b :: rest => (pairs rest).map fun l => (a, b) :: l

/-- The fields of a request type, each in the smallest whole number of bytes that holds its range, in the
order its rule gives (R183). A payload that does not fit them is a misfit. The list of a PLAN_EDIT and the payload of a POST
have no length byte and end with the message, as R183 lays out BIND's list: the model's choice (log entry 10). -/
def readFields (type : Nat) (payload : List Byte) : Request :=
  match type with
  | 1 => match payload with
    | [c, w, p1, p0, k] => .declare c w (half p1 p0) k
    | _ => .misfit 1
  | 2 => match payload with
    | [c] => .withdraw c
    | _ => .misfit 2
  | 3 => match payload with
    | c :: sectors => .bind c sectors
    | _ => .misfit 3
  | 4 => match payload with
    | [t] => .status t none
    | [t, n] => .status t (some n)
    | _ => .misfit 4
  | 8 => match payload with
    | [h, b1, b0] => .setBudget h (half b1 b0)
    | _ => .misfit 8
  | 9 => match payload with
    | [l, w] => .setWeight l w
    | _ => .misfit 9
  | 12 => match payload with
    | [h, g, q, p, c3, c2, c1, c0, o1, o0, r1, r0] =>
      .setUplink { head := h, gain := g, almostEmpty := q, almostFull := p, ceiling := word c3 c2 c1 c0,
                   onset := half o1 o0, release := half r1 r0 }
    | _ => .misfit 12
  | 13 => match payload with
    | [c, t1, t0] => .setSaturation c (half t1 t0)
    | _ => .misfit 13
  | 16 => match payload with
    | [h, y, n1, n0, x1, x0, l1, l0, b, d1, d0, c1, c0, f, o1, o0, r1, r0, t, k] =>
      .setHeadLink { head := h, hysteresis := y, reportMin := half n1 n0, reportMax := half x1 x0,
                     lostLimit := half l1 l0, blipLimit := b, degradeThreshold := half d1 d0,
                     clearThreshold := half c1 c0, failCount := f, holdOff := half o1 o0, remeasure := half r1 r0,
                     tolerance := t, fibreCode := k }
    | _ => .misfit 16
  | 17 => match payload with
    | [h] => .headEnable h
    | _ => .misfit 17
  | 18 => match payload with
    | [h] => .headDisable h
    | _ => .misfit 18
  | 20 => match payload with
    | [h, m] => .testStart h m
    | _ => .misfit 20
  | 21 => match payload with
    | [h, c] => .testSnapshot h c
    | _ => .misfit 21
  | 22 => match payload with
    | [h] => .testRead h
    | _ => .misfit 22
  | 23 => match payload with
    | [h] => .testStop h
    | _ => .misfit 23
  | 24 => match payload with
    | [l1, l0] => .setLoadWindow (half l1 l0)
    | _ => .misfit 24
  | 25 => match payload with
    | [h, a3, a2, a1, a0] => .setActivity h (word a3 a2 a1 a0)
    | _ => .misfit 25
  | 26 => match payload with
    | [t, a, s, d, m, k, p, o] =>
      .triggerSet { trigger := t, armed := a, sector := s, direction := d, mark := m, windows := k, slot := p, mode := o }
    | _ => .misfit 26
  | 27 => match payload with
    | [t] => .triggerRead t
    | _ => .misfit 27
  | 28 => match payload with
    | [] => .loadReport
    | _ => .misfit 28
  | 32 => match payload with
    | k :: b :: rest =>
      match pairs rest with
      | some entries => .planEdit k b entries
      | none => .misfit 32
    | _ => .misfit 32
  | 33 => match payload with
    | [k] => .planValidate k
    | _ => .misfit 33
  | 34 => match payload with
    | [k] => .planPropose k
    | _ => .misfit 34
  | 35 => match payload with
    | [n] => .planCancel n
    | _ => .misfit 35
  | 36 => match payload with
    | [n, a] => .consent n a
    | _ => .misfit 36
  | 37 => match payload with
    | [] => .planQuery
    | _ => .misfit 37
  | 38 => match payload with
    | [k] => .planRead k
    | _ => .misfit 38
  | 39 => match payload with
    | [t1, t0, m0, m1, m2, m3] => .setConsent (half t1 t0) ⟨#[m0, m1, m2, m3], rfl⟩
    | _ => .misfit 39
  | 40 => match payload with
    | [] => .alarmSummary
    | _ => .misfit 40
  | 41 => match payload with
    | [k] => .alarmRead k
    | _ => .misfit 41
  | 42 => match payload with
    | [e1, e0] => .alarmMask (half e1 e0)
    | _ => .misfit 42
  | 44 => match payload with
    | d :: rest => .post d rest
    | _ => .misfit 44
  | 45 => match payload with
    | [] => .take
    | _ => .misfit 45
  | 48 => match payload with
    | [] => .start
    | _ => .misfit 48
  | 49 => match payload with
    | [] => .hold
    | _ => .misfit 49
  | 50 => match payload with
    | [] => .restart
    | _ => .misfit 50
  | t => .misfit t

/-- The payload of a request with these fields (R183). -/
def Request.payload : Request → List Byte
  | .declare c w p k => [c, w] ++ halfBytes p ++ [k]
  | .withdraw c => [c]
  | .bind c sectors => c :: sectors
  | .status t n => t :: n.toList
  | .setBudget h b => h :: halfBytes b
  | .setWeight l w => [l, w]
  | .setUplink f =>
    [f.head, f.gain, f.almostEmpty, f.almostFull] ++ wordBytes f.ceiling ++ halfBytes f.onset ++ halfBytes f.release
  | .setSaturation c t => c :: halfBytes t
  | .setHeadLink f =>
    [f.head, f.hysteresis] ++ halfBytes f.reportMin ++ halfBytes f.reportMax ++ halfBytes f.lostLimit ++ [f.blipLimit] ++
      halfBytes f.degradeThreshold ++ halfBytes f.clearThreshold ++ [f.failCount] ++ halfBytes f.holdOff ++
      halfBytes f.remeasure ++ [f.tolerance, f.fibreCode]
  | .headEnable h => [h]
  | .headDisable h => [h]
  | .testStart h m => [h, m]
  | .testSnapshot h c => [h, c]
  | .testRead h => [h]
  | .testStop h => [h]
  | .setLoadWindow l => halfBytes l
  | .setActivity h a => h :: wordBytes a
  | .triggerSet f => [f.trigger, f.armed, f.sector, f.direction, f.mark, f.windows, f.slot, f.mode]
  | .triggerRead t => [t]
  | .loadReport => []
  | .planEdit k b entries => k :: b :: (entries.map fun e => [e.1, e.2]).flatten
  | .planValidate k => [k]
  | .planPropose k => [k]
  | .planCancel n => [n]
  | .consent n a => [n, a]
  | .planQuery => []
  | .planRead k => [k]
  | .setConsent t m => halfBytes t ++ m.toList
  | .alarmSummary => []
  | .alarmRead k => [k]
  | .alarmMask e => halfBytes e
  | .post d payload => d :: payload
  | .take => []
  | .start => []
  | .hold => []
  | .restart => []
  | .misfit _ => []

/-- A request as a message: its type number with the reply flag clear, its payload length and its payload (R183). -/
def Request.toMessage (r : Request) : Message :=
  { typeByte := BitVec.ofNat 8 r.type, lengthByte := BitVec.ofNat 8 r.payload.length, payload := r.payload }

/-- The type number of a message: bits 6 to 0 of the type byte (R183). -/
def Message.type (m : Message) : Nat := m.typeByte.toNat % 128

/-- Malformed at the header: an unknown type, the reply flag set, or a length byte above 62 (R184). -/
def Message.malformed (m : Message) : Bool :=
  decide (m.typeByte.toNat ≥ 128) || !requestTypes.contains (Message.type m) || decide (m.lengthByte.toNat > Config.payloadMax)

/-- The message is a configuration or plan request with a sound header: it waits for a grant (R186, R187). -/
def Message.usesArbiter (m : Message) : Bool := !Message.malformed m && arbiterTypes.contains (Message.type m)

/-- The request that a message with a sound header carries (R184). -/
def Message.request (m : Message) : Request := readFields (Message.type m) m.payload

/-! ## Status codes and replies -/

/-- The status codes (R192). -/
inductive Status where
  | ok
  | badRequest
  | notPermitted
  | badCarrier
  | carrierBound
  | bindPending
  | planPending
  | laneFull
  | laneFragmented
  | incapable
  | delaySpread
  | slotBusy
  | stalePlan
  | notAffected
  | alreadyAnswered
  | headState
  | noRecord
  | inboxFull
  | inboxEmpty
  | queueFull
  | notRunning
  deriving DecidableEq, Repr

/-- The code of a status (R192). -/
def Status.code : Status → Nat
  | .ok => 0
  | .badRequest => 1
  | .notPermitted => 2
  | .badCarrier => 3
  | .carrierBound => 4
  | .bindPending => 5
  | .planPending => 6
  | .laneFull => 7
  | .laneFragmented => 8
  | .incapable => 9
  | .delaySpread => 10
  | .slotBusy => 11
  | .stalePlan => 12
  | .notAffected => 13
  | .alreadyAnswered => 14
  | .headState => 15
  | .noRecord => 16
  | .inboxFull => 17
  | .inboxEmpty => 18
  | .queueFull => 19
  | .notRunning => 20

/-- The status that names a failure reason of admission (R15, R192); EMPTY is never a reply status. -/
def FailureReason.status : FailureReason → Status
  | .incapable => .incapable
  | .laneFull => .laneFull
  | .laneFragmented => .laneFragmented
  | .delaySpread => .delaySpread
  | .empty => .ok

/-- What an owner answers: one reply with its contents, a reply whose type carries a segment byte (R184), or
no reply until the carrier's binding is applied (R16). -/
inductive Answer where
  | reply (status : Status) (contents : List Byte)
  | segmented (contents : List Byte)
  | waits (carrier : Carrier)
  deriving DecidableEq, Repr

/-- A refusal: the status byte alone (R184). -/
def refusal (x : Status) : Answer := .reply x []

/-- A message of the part: a type byte and a payload (R183). -/
def mkMessage (typeByte : Byte) (payload : List Byte) : Message :=
  { typeByte := typeByte, lengthByte := BitVec.ofNat 8 payload.length, payload := payload }

/-- The type byte of the reply to a message: the same type number with the reply flag set (R183). -/
def replyType (m : Message) : Byte := BitVec.ofNat 8 (Message.type m + 128)

/-- A list cut into pieces of at most n + 1; fuel bounds the number of pieces. -/
def chunks (n : Nat) : Nat → List Byte → List (List Byte)
  | 0, _ => []
  | fuel + 1, l => if l.length ≤ n + 1 then [l] else l.take (n + 1) :: chunks n fuel (l.drop (n + 1))

/-- The segment byte: bits 3 to 0 the index, bit 7 the last segment (R184). -/
def segmentByte (index total : Nat) : Byte := BitVec.ofNat 8 (index + if index + 1 = total then 128 else 0)

/-- The messages of an answer to a message, all its segments together (R183, R184). A segmented reply has a
status byte and a segment byte in each segment. A long reply of another type continues in further messages that
repeat type and status (log entry 10). -/
def replyMessages (m : Message) : Answer → List Message
  | .reply x contents =>
    (chunks 60 16 contents).map fun piece => mkMessage (replyType m) (byte1 x.code ++ piece)
  | .segmented contents =>
    let pieces := chunks 59 16 contents
    pieces.mapIdx fun i piece => mkMessage (replyType m) (byte1 Status.ok.code ++ [segmentByte i pieces.length] ++ piece)
  | .waits _ => []

/-! ## Ranges of request fields -/

/-- A byte that names one of n things; none outside the range. -/
def indexOf (n : Nat) (b : Byte) : Option (Fin n) := if h : b.toNat < n then some ⟨b.toNat, h⟩ else none

/-- The width class encoding of DECLARE (R183). -/
def widthOf (b : Byte) : Option WidthClass :=
  match b.toNat with
  | 0 => some .narrow
  | 1 => some .medium
  | 2 => some .wide
  | _ => none

/-- The number of a width class (R183). -/
def WidthClass.code : WidthClass → Nat
  | .narrow => 0
  | .medium => 1
  | .wide => 2

/-- A yes or no field: 0 no, 1 yes (R183). -/
def flagOf (b : Byte) : Option Bool :=
  match b.toNat with
  | 0 => some false
  | 1 => some true
  | _ => none

/-- Clamping: the nearest end of the range (Chapter 0, Outcomes of a request). -/
def clamp (lo hi n : Nat) : Nat := max lo (min hi n)

/-- A sector list as a set: ascending, each sector once; none if an entry is out of range (R1, R13). -/
def sectorSet (l : List Byte) : Option (List Sector) :=
  if l.all (fun b => decide (b.toNat < 12)) then
    some (allSectors.filter fun x => l.any fun b => decide (b.toNat = x.val))
  else none

/-- A PLAN_EDIT sector: 0 to 11, or 255 for NONE (R183). -/
def editSector (b : Byte) : Option (Option Sector) :=
  if h : b.toNat < 12 then some (some ⟨b.toNat, h⟩) else if b.toNat = 255 then some none else none

end Sys2Proof.Machine
end

