-- ==== Sys2Proof/Machine/Ops.lean ====
section
/-!
DEFINITION. The named operations that the commands share: updates of one record, the outgoing queues, raising
and clearing alarms, recompute requests, and the placement operations of the configuration controller.
-/

namespace Sys2Proof.Machine

/-! ## Updates of one record -/

/-- An operation made for each element of a list in order. -/
def forAll {α : Type} (l : List α) (f : α → State → State) (s : State) : State := l.foldl (fun t a => f a t) s

def State.setMode (s : State) (m : Mode) : State := { s with mode := m }
def State.setTiming (s : State) (t : Timing) : State := { s with timing := t }
def State.setDue (s : State) (d : List Due) : State := { s with due := d }
def State.setWires (s : State) (w : Wires) : State := { s with wires := w }
def State.setPlacements (s : State) (l : List Placement) : State := { s with placements := l }
def State.setSectorMap (s : State) (m : SectorMap) : State := { s with sectorMap := m }
def State.setPlans (s : State) (p : PlanController) : State := { s with plans := p }
def State.setLoad (s : State) (l : LoadMonitor) : State := { s with load := l }
def State.setLog (s : State) (l : AlarmLog) : State := { s with log := l }
def State.setArbiter (s : State) (a : Arbiter) : State := { s with arbiter := a }
def State.setSatFrames (s : State) (n : Nat) : State := { s with satFrames := n }
def State.setInbox (s : State) (p : Port) (m : Option Mail) : State := { s with inboxes := s.inboxes.set p m }
def State.setWeight (s : State) (l : Link) (w : Nat) : State := { s with weights := s.weights.set l w }

def State.modCarrier (s : State) (c : Carrier) (f : CarrierRecord → CarrierRecord) : State :=
  { s with carriers := s.carriers.set c (f s.carriers[c]) }

def State.modLanes (s : State) (h : Head) (f : Vector LaneUnit 8 → Vector LaneUnit 8) : State :=
  { s with lanes := s.lanes.set h (f s.lanes[h]) }

def State.modPower (s : State) (h : Head) (f : PowerHead → PowerHead) : State :=
  { s with power := s.power.set h (f s.power[h]) }

def State.modUplink (s : State) (h : Head) (f : UplinkHead → UplinkHead) : State :=
  { s with uplinks := s.uplinks.set h (f s.uplinks[h]) }

def State.modMonitor (s : State) (c : Carrier) (f : SaturationMonitor → SaturationMonitor) : State :=
  { s with monitors := s.monitors.set c (f s.monitors[c]) }

def State.modHead (s : State) (h : Head) (f : HeadLink → HeadLink) : State :=
  { s with heads := s.heads.set h (f s.heads[h]) }

def State.modPort (s : State) (p : Port) (f : PortRecord → PortRecord) : State :=
  { s with ports := s.ports.set p (f s.ports[p]) }

def State.modLink (s : State) (l : Link) (f : LinkRecord → LinkRecord) : State :=
  { s with links := s.links.set l (f s.links[l]) }

/-- The placement of carrier c on head h, where there is one, is changed by f. -/
def State.modPlacement (s : State) (h : Head) (c : Carrier) (f : Placement → Placement) : State :=
  s.setPlacements (s.placements.map fun p => if p.head = h ∧ p.carrier = c then f p else p)

def State.modTest (s : State) (h : Head) (f : TestState → TestState) : State :=
  s.modHead h fun x => { x with test := f x.test }

def State.modLoadHead (s : State) (h : Head) (f : LoadHead → LoadHead) : State :=
  s.setLoad { s.load with heads := s.load.heads.set h (f s.load.heads[h]) }

def State.modTrigger (s : State) (t : TriggerIndex) (f : Trigger → Trigger) : State :=
  s.setLoad { s.load with triggers := s.load.triggers.set t (f s.load.triggers[t]) }

def State.setSlot (s : State) (k : SlotIndex) (x : PlanSlot) : State :=
  s.setPlans { s.plans with slots := s.plans.slots.set k x }

/-- Something falls due (log entry 6): it joins what is due unless it is due already. -/
def State.addDue (s : State) (d : Due) : State := if s.due.contains d then s else s.setDue (s.due ++ [d])

/-! ## Outgoing queues (R188) -/

/-- The outgoing queue of the port has room for n more messages. -/
def State.room (s : State) (p : Port) (n : Nat) : Bool :=
  decide (s.ports[p].outgoing.length + n ≤ Config.outgoingQueueDepth)

/-- Messages join the tail of a port's outgoing queue. -/
def State.enqueue (s : State) (p : Port) (ms : List Message) : State :=
  s.modPort p fun x => { x with outgoing := x.outgoing ++ ms }

/-- An unsolicited message is handed to an open port's queue, and dropped when the queue is full (R188). -/
def State.sendUnsolicited (s : State) (p : Port) (m : Message) : State :=
  if s.portOpen p && s.room p 1 then s.enqueue p [m] else s

/-! ## The alarm log (Chapter 9) -/

/-- ATTENTION: the number of enabled pending records (R175, R188). -/
def attentionMessage (log : AlarmLog) (p : Port) : Message := mkMessage 98 (byte1 (log.enabledPending p))

/-- The log changes, and each operator whose composite it takes from false to true is sent ATTENTION, apart
from the one whose link is just coming UP (R175, R181). -/
def State.withLog (s : State) (log : AlarmLog) (quiet : Option Link := none) : State :=
  forAll allLinks
    (fun l t =>
      let p := Port.ofLink l
      if !s.log.composite p && log.composite p && decide (quiet ≠ some l) then t.sendUnsolicited p (attentionMessage log p)
      else t)
    (s.setLog log)

/-- The operators that a raise adds to the audience (R167). -/
def State.raiseAudience (s : State) : Subject → Link → Bool
  | .head h, l => s.placements.any fun p => decide (p.head = h) && decide (p.carrier.owner = l)
  | .carrier c, l => decide (c.owner = l)
  | .carrierHead c _, l => decide (c.owner = l)
  | .link k, l => decide (k = l)

/-- The readers that a raise about a subject names: MP and the operators of R167. -/
def State.raiseReaders (s : State) (subject : Subject) : Vector Bool 5 :=
  Vector.ofFn fun p =>
    match Port.link? p with
    | none => true
    | some l => s.raiseAudience subject l

/-- Every reader in the audience is pending and not seen, every other neither (R163, R164, R166, R169). -/
def freshNotices (audience : Vector Bool 5) : Vector Notice 5 :=
  Vector.ofFn fun p => { pending := audience[p], seen := false }

/-- The record of a kind and subject with its slot, where there is one (R162). -/
def AlarmLog.find (log : AlarmLog) (k : AlarmKind) (subject : Subject) : Option (Fin 64 × AlarmRecord) :=
  allRecordSlots.findSome? fun i =>
    match log.slots[i] with
    | none => none
    | some r => if r.kind = k ∧ r.subject = subject then some (i, r) else none

/-- The lowest-numbered free slot (R164). -/
def AlarmLog.freeSlot (log : AlarmLog) : Option (Fin 64) := allRecordSlots.find? fun i => log.slots[i].isNone

/-- The CLEARED record whose clear frame is oldest, the lowest-numbered among equals (R164). -/
def State.oldestCleared (s : State) : Option (Fin 64) :=
  (allRecordSlots.foldl
    (fun best i =>
      match s.log.slots[i] with
      | none => best
      | some r =>
        match r.clearFrame, best with
        | none, _ => best
        | some f, none => some (i, s.elapsed f)
        | some f, some (j, e) => if e < s.elapsed f then some (i, s.elapsed f) else some (j, e))
    none).map (·.1)

/-- A raise merged into the record it finds (R163). -/
def State.merged (s : State) (r : AlarmRecord) (detail : Nat) : AlarmRecord :=
  let named := s.raiseReaders r.subject
  let audience : Vector Bool 5 := Vector.ofFn fun p => r.audience[p] || named[p]
  { r with count := min 255 (r.count + 1), lastFrame := s.frame, detail := BitVec.ofNat 32 detail,
           clearFrame := if r.kind.isEvent then some s.frame else none,
           audience := audience, notices := freshNotices audience }

/-- The record that a raise creates (R164). -/
def State.created (s : State) (k : AlarmKind) (subject : Subject) (detail : Nat) : AlarmRecord :=
  { kind := k, subject := subject, firstFrame := s.frame, lastFrame := s.frame,
    clearFrame := if k.isEvent then some s.frame else none, count := 1, detail := BitVec.ofNat 32 detail,
    audience := s.raiseReaders subject, notices := freshNotices (s.raiseReaders subject) }

/-- The log with a record put into a slot. -/
def AlarmLog.put (log : AlarmLog) (i : Fin 64) (r : AlarmRecord) : AlarmLog := { log with slots := log.slots.set i (some r) }

/-- Eviction: the record and its notices are discarded, and every reader still pending on it has its EVICTED
flag set (R172). -/
def AlarmLog.evict (log : AlarmLog) (i : Fin 64) : AlarmLog :=
  match log.slots[i] with
  | none => log
  | some r =>
    { log with slots := log.slots.set i none,
               evicted := Vector.ofFn fun p => log.evicted[p] || r.pendingFor p }

/-- Taking a raise (R163, R164, R165, R172). -/
def State.raise (s : State) (k : AlarmKind) (subject : Subject) (detail : Nat) : State :=
  match s.log.find k subject with
  | some (i, r) => s.withLog (s.log.put i (s.merged r detail))
  | none =>
    match s.log.freeSlot with
    | some i => s.withLog (s.log.put i (s.created k subject detail))
    | none =>
      match s.oldestCleared with
      | some i =>
        let t := s.withLog (s.log.evict i)
        t.withLog (t.log.put i (s.created k subject detail))
      | none => s.setLog { s.log with dropped := min 255 (s.log.dropped + 1), full := true }

/-- Taking a clear (R166): it acts on an ACTIVE CONDITION record alone, and clears FULL (R165). -/
def State.clear (s : State) (k : AlarmKind) (subject : Subject) (quiet : Option Link := none) : State :=
  match s.log.find k subject with
  | none => s
  | some (i, r) =>
    if r.active && !r.kind.isEvent then
      let r' := { r with clearFrame := some s.frame, notices := freshNotices r.audience }
      s.withLog { s.log.put i r' with full := false } quiet
    else s

/-! ## Recompute requests (R49, R50, R51) -/

/-- The snapshot of a recompute of head h (R50). -/
def State.snapshot (s : State) (h : Head) : Snapshot :=
  let entries := ((s.placementsOn h).filter s.eligible).map fun p => (p.carrier, s.carriers[p.carrier].power)
  { entries := entries, writable := entries.map (·.1), weights := s.weights, nominal := s.power[h].nominal,
    derate := match s.heads[h].report with
      | none => 0
      | some r => r.derate
    paOff := s.paOff h, inService := s.inService h }

/-- A recompute of head h starts with a snapshot (R50). -/
def State.startRecompute (s : State) (h : Head) : State :=
  let x := s.snapshot h
  s.modPower h fun q => { q with running := some x, aged := false, snapDerate := x.derate, snapPaOff := x.paOff }

/-- A recompute request: it starts a recompute in IDLE and sets the again mark in RUNNING (R50, R51). -/
def State.requestRecompute (s : State) (h : Head) : State :=
  if s.power[h].running.isSome then s.modPower h fun q => { q with again := true } else s.startRecompute h

/-- A further recompute request of an event that began in state s0. Where an earlier request of the same event has
started the recompute, with the snapshot that this one would take, the two collapse into that one recompute (R48,
R51). -/
def State.requestOnce (s s0 : State) (h : Head) : State :=
  if s0.power[h].running.isNone && decide (s.power[h].running = some (s.snapshot h)) then s else s.requestRecompute h

/-- The placement of carrier c on head h is no longer one that the running recompute may write (R31, R52). -/
def State.withdrawWritable (s : State) (h : Head) (c : Carrier) : State :=
  s.modPower h fun q =>
    { q with running := q.running.map fun x => { x with writable := x.writable.filter fun d => d ≠ c } }

/-! ## Orphaned carriers (R22, R23) -/

/-- The orphan flag of a carrier is evaluated; a change raises or clears CARRIER_ORPHANED (R22). -/
def State.evalOrphan (s : State) (c : Carrier) : State :=
  let flag := s.orphanCondition c
  if flag = s.carriers[c].orphan then s
  else
    let t := s.modCarrier c fun r => { r with orphan := flag }
    if flag then t.raise .carrierOrphaned (.carrier c) 0 else t.clear .carrierOrphaned (.carrier c)

/-- The orphan flag of every carrier is evaluated, in ascending carrier order, which no rule gives (R22, R30; log entry 36). -/
def State.evalOrphans (s : State) : State := forAll allCarriers (fun c t => t.evalOrphan c) s

/-! ## Eligibility (R30, R31) -/

/-- A placement leaves eligibility: power outcome none, grant 0, step 31 (R31), attenuation in use 31 (R67),
installed basis none (R44); CARRIER_STARVED is cleared where it was STARVED (R62). -/
def State.loseEligibility (s : State) (p : Placement) : State :=
  let t := (s.modPlacement p.head p.carrier fun x =>
    { x with outcome := .none, grant := 0, step := 31, basis := none, inUse := 31 }).withdrawWritable p.head p.carrier
  if p.outcome = .starved then t.clear .carrierStarved (.carrierHead p.carrier p.head) else t

/-- The placements present both in s0 and in s1 whose eligibility differs. -/
def changedEligibility (s0 s1 : State) : List Placement :=
  s1.placements.filter fun p =>
    match s0.placement p.head p.carrier with
    | none => false
    | some q => s0.eligible q != s1.eligible p

/-- What follows a change of an input of R29 from s0 to s1: R31 for each placement that has left eligibility, a
recompute request for each head on which one has entered or left it, and the orphan flags (R30). R30 leaves the order open
(log entry 36): the placements leave eligibility in ascending head and carrier order with their clears of CARRIER_STARVED,
then the requests are made in ascending head order, and the orphan flags come last. -/
def settle (s0 s1 : State) : State :=
  let changed := changedEligibility s0 s1
  let left := changed.filter fun p => !s1.eligible p
  let heads := allHeads.filter fun h => changed.any fun p => p.head = h
  (forAll heads (fun h t => t.requestRecompute h) (forAll left (fun p t => t.loseEligibility p) s1)).evalOrphans

/-! ## Exclusion (2.5) -/

/-- The detail of CARRIER_EXCLUDED (R161). -/
def Exclusion.detail : Exclusion → Nat
  | .none => 0
  | .incapable => 1
  | .window => 2

/-- A placement's exclusion reason takes a value; a change is handed on (R42). -/
def State.setExclusion (s : State) (h : Head) (c : Carrier) (x : Exclusion) : State :=
  match s.placement h c with
  | none => s
  | some p =>
    if p.exclusion = x then s
    else
      let t := settle s (s.modPlacement h c fun q => { q with exclusion := x })
      if x = .none then t.clear .carrierExcluded (.carrierHead c h)
      else t.raise .carrierExcluded (.carrierHead c h) x.detail

/-- The spread test of a placement that is excluded for its delay or about to be: WINDOW when the spread
including it exceeds 1023 du (R39, R40, R41). -/
def State.windowTest (s : State) (h : Head) (c : Carrier) : Exclusion :=
  if Config.spreadLimit < s.spreadWith c h then .window else .none

/-- R39 for one placement on a head whose delay has become known or changed: INCAPABLE is skipped, a spread
beyond the limit excludes, one within it changes nothing. -/
def State.testDelay (s : State) (h : Head) (c : Carrier) : State :=
  match s.placement h c with
  | none => s
  | some p =>
    if p.exclusion = .incapable then s
    else if s.windowTest h c = .window then s.setExclusion h c .window
    else s

/-- The retry of one placement: a WINDOW-excluded one is re-admitted when its spread is within the limit (R40). -/
def State.retryPlacement (s : State) (h : Head) (c : Carrier) : State :=
  match s.placement h c with
  | none => s
  | some p => if p.exclusion = .window then s.setExclusion h c (s.windowTest h c) else s

/-- The retry pass: every placement in ascending head and carrier order (R40). -/
def State.retryPass (s : State) : State :=
  forAll s.placements (fun p t => t.retryPlacement p.head p.carrier) s

/-- The delay of head h has become known, has changed or has become unknown (R39, R40). -/
def State.delayChanged (s : State) (h : Head) : State :=
  let t := if s.heads[h].delay.isSome then forAll (s.placementsOn h) (fun p t => t.testDelay h p.carrier) s else s
  t.retryPass

/-- R38 for one placement of a WIDE carrier on h. -/
def State.testCapability (s : State) (h : Head) (c : Carrier) : State :=
  match s.placement h c with
  | none => s
  | some p =>
    if s.carriers[c].width ≠ .wide then s
    else if s.heads[h].capability = .no then s.setExclusion h c .incapable
    else if p.exclusion = .incapable then s.setExclusion h c (s.windowTest h c)
    else s

/-- The capability of head h has changed: its placements are evaluated in ascending carrier order, which R38 leaves open
(R38; log entry 36). -/
def State.capabilityChanged (s : State) (h : Head) : State :=
  forAll (s.placementsOn h) (fun p t => t.testCapability h p.carrier) s

/-- The exclusion reason of a placement just created is evaluated (R41). -/
def State.evalCreated (s : State) (h : Head) (c : Carrier) : State :=
  if s.carriers[c].width = .wide ∧ s.heads[h].capability = .no then s.setExclusion h c .incapable
  else if s.heads[h].delay.isSome then s.setExclusion h c (s.windowTest h c)
  else s

/-! ## Creating and removing placements (R18, R26, R28, R156) -/

/-- The units of a lane table from a start on take a value (R27). -/
def fillLanes (lanes : Vector LaneUnit 8) (first units : Nat) (x : LaneUnit) : Vector LaneUnit 8 :=
  Vector.ofFn fun i => if first ≤ i.val ∧ i.val < first + units then x else lanes[i]

/-- The units of a lane table that hold one value take another. -/
def replaceLanes (lanes : Vector LaneUnit 8) (old new : LaneUnit) : Vector LaneUnit 8 :=
  Vector.ofFn fun i => if lanes[i] = old then new else lanes[i]

/-- A placement as it is created (R28). Until its first frame has closed its frame mean reads 0 and its complete flag no,
which R78 and R79 leave open (log entry 38). -/
def newPlacement (h : Head) (c : Carrier) (first : LaneIndex) (units : Nat) : Placement :=
  { head := h, carrier := c, first := first, units := units, exclusion := .none, outcome := .none, grant := 0, step := 31,
    offset := 0, basis := none, inUse := 31, downHeld := [], upHeld := [],
    meter := { sum := 0, count := 0, lastMean := 0, lastComplete := false } }

/-- The placement list stays ascending by head and then by carrier. -/
def insertPlacement (p : Placement) : List Placement → List Placement
  | [] => [p]
  | q :: rest =>
    if p.head < q.head ∨ (p.head = q.head ∧ p.carrier < q.carrier) then p :: q :: rest else q :: insertPlacement p rest

/-- Carrier c comes onto head h at a start unit: it owns the units there and its placement is created. -/
def State.createPlacement (s : State) (h : Head) (c : Carrier) (first : LaneIndex) : State :=
  let units := s.carriers[c].width.units
  (s.modLanes h fun lanes => fillLanes lanes first.val units (.owned c)).setPlacements
    (insertPlacement (newPlacement h c first units) s.placements)

/-- Carrier c leaves head h: its placement is removed, the units it owned become FREE, and the alarm log is
handed the removal (R18, R26, R168). -/
def State.removePlacement (s : State) (h : Head) (c : Carrier) : State :=
  let t := ((s.modLanes h fun lanes => replaceLanes lanes (.owned c) .free).setPlacements
    (s.placements.filter fun p => !(decide (p.head = h) && decide (p.carrier = c)))).withdrawWritable h c
  (t.clear .carrierExcluded (.carrierHead c h)).clear .carrierStarved (.carrierHead c h)

/-! ## Device time -/

/-- A command tells the part a moment: device time never runs back (log entry 3). -/
def State.atMoment (s : State) (m : Nat) : State := s.setTiming { s.timing with now := max s.timing.now m }

end Sys2Proof.Machine
end

