-- ==== Sys2Proof/Machine/Ports.lean ====
section
/-!
DEFINITION. The queues of the ports: arrival of a message (R185), the hand-over of a reply (R186, R188), and the
commands that move messages (R182, R185, R188).
-/

namespace Sys2Proof.Machine

/-- The QUEUE_FULL reply to a message: it carries the request's type number (R185). -/
def queueFullReply (m : Message) : Message := mkMessage (replyType m) (byte1 Status.queueFull.code)

/-- A message arrives whole on a port that takes messages: it joins the request queue, or is answered QUEUE_FULL
at once, or is lost and counted where that reply finds no room (R185). -/
def State.arrive (s : State) (p : Port) (m : Message) : State :=
  if s.ports[p].queue.length < Config.requestQueueDepth then
    s.modPort p fun x => { x with queue := x.queue ++ [m] }
  else if s.room p 1 then s.enqueue p [queueFullReply m]
  else s.modPort p fun x => { x with lostRefusals := min 255 (x.lostRefusals + 1) }

/-- The request in service leaves service. -/
def State.endService (s : State) (p : Port) : State := s.modPort p fun x => { x with inService := none }

/-- The request in service reaches a phase. -/
def State.setPhase (s : State) (p : Port) (ph : Phase) : State :=
  s.modPort p fun x => { x with inService := x.inService.map fun y => { y with phase := ph } }

/-- The answer of a request's owner is handed on. A reply enters the outgoing queue with all its segments and its
request leaves service; it waits where the queue lacks room; it is discarded where it is so marked (R180, R186,
R188). An accepted BIND stays in service (R16). -/
def State.deliver (s : State) (p : Port) (a : Answer) : State :=
  match s.ports[p].inService with
  | none => s
  | some x =>
    match a with
    | .waits c => s.setPhase p (.awaitingBoundary c)
    | .reply _ _ | .segmented _ =>
      if x.discarded then s.endService p
      else
        let ms := replyMessages x.message a
        if s.room p ms.length then (s.enqueue p ms).endService p else s.setPhase p (.awaitingRoom ms)

/-! ## Meanings -/

/-- REQUEST_ARRIVAL (R179, R185): a message arrives whole. A closed port receives none, and a message that fails
an operator link's integrity check is discarded. -/
def execRequestArrival (port : Port) (message : Message) (intact : Bool) (s : State) :
    Host.Outcome State Fault Refusal :=
  .next (if s.portOpen port && (intact || (Port.link? port).isNone) then s.arrive port message else s)

/-- The message of an SPI write: its header and as many payload bytes as the length byte gives; none when the
write ends before (R182). -/
def spiMessage : List Byte → Option Message
  | t :: n :: rest =>
    if n.toNat ≤ rest.length then some { typeByte := t, lengthByte := n, payload := rest.take n.toNat } else none
  | [_] => none
  | [] => none

/-- A message write: the message passes to the request controller when it has been received whole; a short write is
discarded and further bytes are ignored (R182). -/
def State.spiWrite (s : State) (bytes : List Byte) : State :=
  match spiMessage bytes with
  | none => s
  | some m => s.arrive Port.mp m

/-- The bytes of a message on the wire (R183). -/
def Message.bytes (m : Message) : List Byte := m.typeByte :: m.lengthByte :: m.payload

/-- A message read of so many bytes: the oldest outgoing message of MP is transferred, and leaves the queue when its last
byte has been; a read from an empty queue returns a header of type 0 and length 0 (R182). What a read that goes on past the
last byte returns there is open: the wires show the message's bytes alone (log entry 33). -/
def State.spiRead (s : State) (count : Nat) : State :=
  match s.ports[Port.mp].outgoing with
  | [] => s.setWires { s.wires with spi := List.take count [0, 0] }
  | m :: rest =>
    let t := s.setWires { s.wires with spi := (Message.bytes m).take count }
    if (Message.bytes m).length ≤ count then t.modPort Port.mp fun x => { x with outgoing := rest } else t

/-- An SPI transaction, given by the bytes that the master sends: the first chooses its kind, 1 a message write and 2 a
message read of as many bytes as follow (R182, R183). The spec has no other kind, and one of another kind changes nothing
(log entry 33). -/
def State.spiTransaction (s : State) (bytes : List Byte) : State :=
  match bytes with
  | [] => s
  | kind :: rest =>
    if !s.portOpen Port.mp then s
    else if kind = 1 then s.spiWrite rest
    else if kind = 2 then s.spiRead rest.length
    else s

/-- SPI_MESSAGE_WRITE (R182): the bytes of the transaction, its kind byte first. -/
def execSpiMessageWrite (bytes : List Byte) (s : State) : Host.Outcome State Fault Refusal := .next (s.spiTransaction bytes)

/-- SPI_MESSAGE_READ (R182): the bytes that the master sends in the transaction, its kind byte first; in a read those after
it are not looked at, and only their number counts. -/
def execSpiMessageRead (bytes : List Byte) (s : State) : Host.Outcome State Fault Refusal := .next (s.spiTransaction bytes)

/-- REPLY_ENQUEUE (R188): a reply that waited for room enters the outgoing queue whole, and its request leaves
service. -/
def execReplyEnqueue (port : Port) (s : State) : Host.Outcome State Fault Refusal :=
  .next (match s.mode, s.ports[port].inService with
    | .reset, _ => s
    | _, none => s
    | _, some x =>
      match x.phase with
      | .awaitingRoom ms => if s.room port ms.length then (s.enqueue port ms).endService port else s
      | .awaitingGrant => s
      | .awaitingBoundary _ => s)

/-- OUTGOING_MESSAGE_SENT (R188): the oldest outgoing message of an UP operator link is sent on its control
sub-channel and leaves the queue. -/
def execOutgoingMessageSent (link : Link) (s : State) : Host.Outcome State Fault Refusal :=
  .next (if s.portOpen (Port.ofLink link) then
      match s.ports[Port.ofLink link].outgoing with
      | [] => s
      | m :: rest =>
        (s.setWires { s.wires with subChannel := s.wires.subChannel.set link (some m) }).modPort (Port.ofLink link)
          fun x => { x with outgoing := rest }
    else s)

end Sys2Proof.Machine
end

