-- ==== Sys2Proof/Machine/Admission.lean ====
section
/-!
DEFINITION. Admission (2.3): whether newcomer carriers can be placed on a head, and on which lane units.
-/

namespace Sys2Proof.Machine

/-- Every unit from a start on is FREE (R33). -/
def unitsFree (lanes : Vector LaneUnit 8) (first units : Nat) : Bool :=
  (List.finRange 8).all fun i => !(decide (first ≤ i.val) && decide (i.val < first + units)) || decide (lanes[i] = .free)

/-- The count of FREE units (R34). -/
def freeUnits (lanes : Vector LaneUnit 8) : Nat := lanes.toList.countP fun x => decide (x = .free)

/-- The delays that the delay check of a carrier considers over a new head set: the known ones, without those of
heads where the carrier already holds an EXCLUDED placement (R35). -/
def State.consideredDelays (s : State) (c : Carrier) (newHeads : List Head) : List Nat :=
  newHeads.filterMap fun h =>
    match s.placement h c with
    | none => s.heads[h].delay
    | some p => if p.exclusion = .none then s.heads[h].delay else none

/-- The gaining head with the largest known delay, the lowest-numbered when several share it (R35). -/
def State.farthest (s : State) (gaining : List Head) : Option Head :=
  (gaining.foldl
    (fun best h =>
      match s.heads[h].delay, best with
      | none, _ => best
      | some d, none => some (h, d)
      | some d, some (g, e) => if e < d then some (h, d) else some (g, e))
    none).map (·.1)

/-- The delay check of a carrier over its new head set: the head it fails on, if it fails (R35). -/
def State.delayFailure (s : State) (c : Carrier) (newHeads : List Head) : Option Head :=
  if spread (s.consideredDelays c newHeads) ≤ Config.spreadLimit then none
  else s.farthest (newHeads.filter fun h => !(s.headSet c).contains h)

/-- The verdict of admission on one head (R36). -/
inductive HeadVerdict where
  | admitted (starts : List (Carrier × LaneIndex))
  | failed (reason : FailureReason) (carrier : Carrier)
  deriving DecidableEq, Repr

/-- Newcomers in the order of R33: all WIDE, then all MEDIUM, then all NARROW, each class ascending. -/
def State.newcomerOrder (s : State) (newcomers : List Carrier) : List Carrier :=
  (newcomers.filter fun c => decide (s.carriers[c].width = .wide)) ++
  (newcomers.filter fun c => decide (s.carriers[c].width = .medium)) ++
  (newcomers.filter fun c => decide (s.carriers[c].width = .narrow))

/-- The newcomers placed into the copy of h's lane table one at a time; the first that fails fails the head. Each
is checked for capability, lane fit and delay, in this order (R33, R34). -/
def State.admitInOrder (s : State) (h : Head) (newHeads : Carrier → List Head) :
    List Carrier → Vector LaneUnit 8 → HeadVerdict
  | [], _ => .admitted []
  | c :: rest, lanes =>
    let width := s.carriers[c].width
    if width = .wide ∧ s.heads[h].capability ≠ .yes then .failed .incapable c
    else
      match width.starts.find? fun u => unitsFree lanes u.val width.units with
      | none => if width.units ≤ freeUnits lanes then .failed .laneFragmented c else .failed .laneFull c
      | some u =>
        if s.delayFailure c (newHeads c) = some h then .failed .delaySpread c
        else
          match s.admitInOrder h newHeads rest (fillLanes lanes u.val width.units (.owned c)) with
          | .failed r d => .failed r d
          | .admitted starts => .admitted ((c, u) :: starts)

/-- Admission on head h: the departing carriers' units are freed in a copy of its lane table, and the newcomers
are placed into the copy (R32). -/
def State.admission (s : State) (h : Head) (departing newcomers : List Carrier) (newHeads : Carrier → List Head) :
    HeadVerdict :=
  s.admitInOrder h newHeads (s.newcomerOrder newcomers)
    (departing.foldl (fun lanes c => replaceLanes lanes (.owned c) .free) s.lanes[h])

end Sys2Proof.Machine
end

