-- ==== Sys2Proof/Machine/Power.lean ====
section
/-!
DEFINITION. The power sharing unit (Chapter 3): the division of a head's power, its installation, and the requests
that set budgets and weights.
-/

namespace Sys2Proof.Machine

/-- The attenuation table F of R59. -/
def powerFactors : List Nat :=
  [65536, 58409, 52057, 46396, 41350, 36854, 32846, 29274, 26090, 23253, 20724, 18471, 16462, 14672, 13076, 11654,
   10387, 9257, 8250, 7353, 6554, 5841, 5206, 4640, 4135, 3685, 3285, 2927, 2609, 2325, 2072, 1847]

/-- F[k] (R59). -/
def powerFactor (k : Fin 32) : Nat := powerFactors.getD k.val 0

/-- The effective budget that a snapshot gives (R47). -/
def Snapshot.budget (x : Snapshot) : Nat :=
  if x.inService && !x.paOff then x.nominal * (8 - x.derate) / 8 else 0

/-- The power requests of the entries that an operator owns, added up: D_p (R55). -/
def demand (entries : List (Carrier × Nat)) (l : Link) : Nat :=
  ((entries.filter fun e => decide (Carrier.owner e.1 = l)).map (·.2)).sum

/-- The present operators (R55). -/
def presentOperators (entries : List (Carrier × Nat)) : List Link :=
  allLinks.filter fun l => entries.any fun e => decide (Carrier.owner e.1 = l)

/-- The guaranteed portion G_p (R57). -/
def guaranteed (budget : Nat) (entries : List (Carrier × Nat)) (weights : Vector Nat 4) (l : Link) : Nat :=
  let total := ((presentOperators entries).map fun k => weights[k]).sum
  if total = 0 then 0 else budget * weights[l] / total

/-- The allotment of the first pass (R57). -/
def firstPass (budget : Nat) (entries : List (Carrier × Nat)) (weights : Vector Nat 4) (l : Link) : Nat :=
  min (demand entries l) (guaranteed budget entries weights l)

/-- The surplus S (R57). -/
def surplus (budget : Nat) (entries : List (Carrier × Nat)) (weights : Vector Nat 4) : Nat :=
  budget - ((presentOperators entries).map fun l => firstPass budget entries weights l).sum

/-- The excess E_p (R58). -/
def excess (budget : Nat) (entries : List (Carrier × Nat)) (weights : Vector Nat 4) (l : Link) : Nat :=
  demand entries l - firstPass budget entries weights l

/-- The final allotment of an operator (R58). -/
def allotment (budget : Nat) (entries : List (Carrier × Nat)) (weights : Vector Nat 4) (l : Link) : Nat :=
  firstPass budget entries weights l +
    surplus budget entries weights * excess budget entries weights l /
      ((presentOperators entries).map fun k => excess budget entries weights k).sum

/-- The grant of one entry (R56, R57, R58). -/
def grantOf (budget : Nat) (entries : List (Carrier × Nat)) (weights : Vector Nat 4) (e : Carrier × Nat) : Nat :=
  if (entries.map (·.2)).sum ≤ budget then e.2
  else e.2 * allotment budget entries weights (Carrier.owner e.1) / demand entries (Carrier.owner e.1)

/-- The smallest step whose power is at most the grant; none for a starved placement (R60). -/
def chooseStep (request grant : Nat) : Option (Fin 32) :=
  (List.finRange 32).find? fun k => decide (request * powerFactor k ≤ grant * 65536)

/-- The installation of one entry on head h: grant, step, outcome, installed basis and attenuation in use, with
the raise or clear of CARRIER_STARVED (R31, R52, R60, R62, R67). An entry that has left eligibility is not written. -/
def State.installEntry (s : State) (h : Head) (x : Snapshot) (e : Carrier × Nat) : State :=
  match s.placement h e.1 with
  | none => s
  | some p =>
    if x.writable.contains e.1 && s.eligible p then
      let grant := grantOf x.budget x.entries x.weights e
      let step := chooseStep e.2 grant
      let outcome : PowerOutcome := if step.isSome then .radiating else .starved
      let t := s.modPlacement h e.1 fun q =>
        { q with grant := grant, step := step.getD 31, outcome := outcome, basis := some e.2, inUse := step.getD 31 }
      if outcome = .starved ∧ p.outcome ≠ .starved then t.raise .carrierStarved (.carrierHead e.1 h) grant
      else if outcome ≠ .starved ∧ p.outcome = .starved then t.clear .carrierStarved (.carrierHead e.1 h)
      else t
    else s

/-- The running recompute of head h completes and installs its results, its entries in ascending carrier order (log
entry 36); a set again mark starts a fresh one (R52). A head in IDLE has none to complete. -/
def State.completeRecompute (s : State) (h : Head) : State :=
  match s.power[h].running with
  | none => s
  | some x =>
    let t := forAll x.entries (fun e u => u.installEntry h x e)
      (s.modPower h fun q => { q with effective := x.budget, running := none })
    if t.power[h].again then (t.modPower h fun q => { q with again := false }).startRecompute h else t

/-- The derate and PA-off flag of head h are handed to the power sharing unit; a difference from the last values
requests a recompute (R48). s0 is the state before the event that hands them. -/
def State.handPower (s s0 : State) (h : Head) (derate : Nat) (paOff : Bool) : State :=
  if s.power[h].handedDerate = derate ∧ s.power[h].handedPaOff = paOff then s
  else (s.modPower h fun q => { q with handedDerate := derate, handedPaOff := paOff }).requestOnce s0 h

/-! ## Requests of the owner -/

/-- SET_BUDGET (R45). -/
def serveSetBudget (p : Port) (head : Byte) (budget : Half) (s : State) : State × Answer :=
  match indexOf 16 head with
  | none => (s, refusal .badRequest)
  | some h =>
    if p ≠ Port.mp then (s, refusal .notPermitted)
    else
      let b := min 8000 budget.toNat
      let t := if s.power[h].nominal = b then s else (s.modPower h fun q => { q with nominal := b }).requestRecompute h
      (t, .reply .ok (byte1 h.val ++ byte2 b))

/-- SET_WEIGHT (R46). -/
def serveSetWeight (p : Port) (link weight : Byte) (s : State) : State × Answer :=
  match indexOf 4 link with
  | none => (s, refusal .badRequest)
  | some l =>
    if p ≠ Port.mp then (s, refusal .notPermitted)
    else
      let w := min 255 weight.toNat
      let heads := allHeads.filter fun h => (s.placementsOn h).any fun q => decide (q.carrier.owner = l)
      let t := if s.weights[l] = w then s else forAll heads (fun h u => u.requestRecompute h) (s.setWeight l w)
      (t, .reply .ok (byte1 l.val ++ byte1 w))

/-! ## Meanings -/

/-- RECOMPUTE_COMPLETE (R52). -/
def execRecomputeComplete (head : Head) (s : State) : Host.Outcome State Fault Refusal :=
  .next (if s.mode = .reset then s else s.completeRecompute head)

end Sys2Proof.Machine
end

