-- ==== Sys2Proof/Machine/Carriers.lean ====
section
/-!
DEFINITION. The configuration controller's requests DECLARE, WITHDRAW and BIND, and the application of bindings at
a frame boundary (Chapter 1).
-/

namespace Sys2Proof.Machine

/-- The request arrived on the operator link that owns the carrier (R7, R12, R13). -/
def ownedBy (p : Port) (c : Carrier) : Bool := decide (Port.link? p = some (Carrier.owner c))

/-- DECLARE (R7 to R11). -/
def serveDeclare (p : Port) (carrier width : Byte) (power : Half) (shift : Byte) (s : State) : State × Answer :=
  match indexOf 16 carrier, widthOf width with
  | some c, some w =>
    let r := s.carriers[c]
    if !ownedBy p c then (s, refusal .notPermitted)
    else if r.declared && decide (w ≠ r.width) && r.bound then (s, refusal .carrierBound)
    else if r.declared && decide (w ≠ r.width) && s.planPending then (s, refusal .planPending)
    else
      let pw := clamp 1 8000 power.toNat
      let k := min 4 shift.toNat
      let t := s.modCarrier c fun x => { x with declared := true, width := w, power := pw, shift := k }
      let u :=
        if r.declared && decide (pw ≠ r.power) then forAll (t.placementsOf c) (fun q v => v.requestRecompute q.head) t
        else t
      (u, .reply .ok (byte1 c.val ++ byte1 w.code ++ byte2 pw ++ byte1 k))
  | _, _ => (s, refusal .badRequest)

/-- WITHDRAW (R12). -/
def serveWithdraw (p : Port) (carrier : Byte) (s : State) : State × Answer :=
  match indexOf 16 carrier with
  | none => (s, refusal .badRequest)
  | some c =>
    let r := s.carriers[c]
    if !ownedBy p c then (s, refusal .notPermitted)
    else if !r.declared then (s, refusal .badCarrier)
    else if r.bound then (s, refusal .carrierBound)
    else if s.planPending then (s, refusal .planPending)
    else (s.modCarrier c fun _ => CarrierRecord.reset, .reply .ok (byte1 c.val))

/-- The heads that carrier c would gain under a new head set, ascending (R15). -/
def State.gainingHeads (s : State) (c : Carrier) (newHeads : List Head) : List Head :=
  newHeads.filter fun h => !(s.headSet c).contains h

/-- The heads that carrier c would lose under a new head set, ascending (R15). -/
def State.losingHeads (s : State) (c : Carrier) (newHeads : List Head) : List Head :=
  (s.headSet c).filter fun h => !newHeads.contains h

/-- Admission of carrier c alone on a gaining head: its start unit, or the reason it fails (R15). -/
def State.admitBinding (s : State) (c : Carrier) (newHeads : List Head) (h : Head) : LaneIndex ⊕ FailureReason :=
  match s.admission h [] [c] (fun _ => newHeads) with
  | .failed r _ => .inr r
  | .admitted ((_, u) :: _) => .inl u
  | .admitted [] => .inr .laneFull

/-- The first gaining head that fails admission, with its reason (R15). -/
def State.bindFailure (s : State) (c : Carrier) (newHeads : List Head) : Option (Head × FailureReason) :=
  (s.gainingHeads c newHeads).findSome? fun h =>
    match s.admitBinding c newHeads h with
    | .inl _ => none
    | .inr r => some (h, r)

/-- The reservations of an accepted BIND: the units that admission chose on each gaining head (R16). -/
def State.bindReservations (s : State) (c : Carrier) (newHeads : List Head) : List Reservation :=
  (s.gainingHeads c newHeads).filterMap fun h =>
    match s.admitBinding c newHeads h with
    | .inl u => some { head := h, first := u }
    | .inr _ => none

/-- An accepted BIND: the units are marked RESERVED and the pending binding is stored (R16). -/
def State.acceptBinding (s : State) (c : Carrier) (sectors : List Sector) (reserved : List Reservation) : State :=
  (forAll reserved
    (fun r t => t.modLanes r.head fun lanes => fillLanes lanes r.first.val s.carriers[c].width.units (.reserved c)) s).modCarrier c
      fun x => { x with pending := some { sectors := sectors, reserved := reserved } }

/-- BIND (R13 to R16). -/
def serveBind (p : Port) (carrier : Byte) (list : List Byte) (s : State) : State × Answer :=
  match indexOf 16 carrier, (if list.length ≤ 12 then sectorSet list else none) with
  | some c, some sectors =>
    let r := s.carriers[c]
    if !ownedBy p c then (s, refusal .notPermitted)
    else if !r.declared then (s, refusal .badCarrier)
    else if s.planPending then (s, refusal .planPending)
    else if r.pending.isSome then (s, refusal .bindPending)
    else if sectors = r.active then (s, .reply .ok (byte4 s.frame.toNat))
    else
      let newHeads := headSetUnder s.sectorMap sectors
      match s.bindFailure c newHeads with
      | some (h, reason) => (s, .reply reason.status (byte1 h.val))
      | none => (s.acceptBinding c sectors (s.bindReservations c newHeads), .waits c)
  | _, _ => (s, refusal .badRequest)

/-- One pending binding is applied: losing heads lose the placement and its units, reserved units become owned and
carry new placements, and the pending set becomes the active binding (R18). -/
def State.applyOne (s : State) (c : Carrier) (b : PendingBinding) : State :=
  let t := forAll (s.losingHeads c (headSetUnder s.sectorMap b.sectors)) (fun h u => u.removePlacement h c) s
  let v := forAll b.reserved
    (fun r u => (u.modLanes r.head fun lanes => replaceLanes lanes (.reserved c) .free).createPlacement r.head c r.first) t
  v.modCarrier c fun x => { x with active := b.sectors, pending := none }

/-- The changes of one applied binding are handed on: exclusion of each new placement, recomputes of gaining and
losing heads, the orphan flag, and the reply of the BIND still in service (R19, R20, R21). The reply comes last, behind
any ATTENTION that the hand-ons bring: log entry 36. s0 is the state before the boundary's bindings were applied. -/
def State.handOnBinding (s s0 : State) (c : Carrier) (losing gaining : List Head) : State :=
  let t := forAll gaining (fun h u => u.evalCreated h c) s
  let u := forAll (allHeads.filter fun h => losing.contains h || gaining.contains h) (fun h v => v.requestOnce s0 h) t
  let v := u.evalOrphan c
  let p := Port.ofLink c.owner
  match v.ports[p].inService with
  | none => v
  | some x => if x.phase = .awaitingBoundary c then v.deliver p (.reply .ok (byte4 v.frame.toNat)) else v

/-- The pending bindings of the carriers named are applied and handed on (R18, R19). -/
def State.applyBindings (s : State) (carriers : List Carrier) : State :=
  let work := carriers.filterMap fun c =>
    s.carriers[c].pending.map fun b =>
      (c, b, s.losingHeads c (headSetUnder s.sectorMap b.sectors), b.reserved.map (·.head))
  let t := forAll work (fun w u => u.applyOne w.1 w.2.1) s
  forAll work (fun w u => u.handOnBinding s w.1 w.2.2.1 w.2.2.2) t

end Sys2Proof.Machine
end

