-- ==== Sys2Proof/Machine/Load.lean ====
section
/-!
DEFINITION. The load monitor (Chapter 7): marks, counting, the load window, publication, and the requests that set
and read load settings and triggers. Trigger firing and SET_LOAD_WINDOW stand in Machine/Triggers.lean.
-/

namespace Sys2Proof.Machine

/-- T0 to T7, ascending. -/
def allTriggers : List TriggerIndex := List.finRange 8

/-- The service mark of a head is broken for the frame in progress (R124). -/
def State.breakService (s : State) (h : Head) : State := s.modLoadHead h fun x => { x with whole := false }

/-- The link mark of an operator link is broken for the frame in progress (R124). -/
def State.breakLink (s : State) (l : Link) : State :=
  s.setLoad { s.load with linkWhole := s.load.linkWhole.set l false }

/-- The run mark is broken for the frame in progress (R124). -/
def State.breakRun (s : State) : State := s.setLoad { s.load with runWhole := false }

/-- The marks are set for the frame that begins (R124). -/
def State.freshMarks (s : State) : State :=
  s.setLoad { s.load with
    runWhole := decide (s.mode = .run)
    linkWhole := Vector.ofFn fun l => s.linkUp l
    heads := Vector.ofFn fun h => { s.load.heads[h] with whole := s.inService h } }

/-- The placement is counted in the frame just closed (R125). -/
def State.counted (s : State) (p : Placement) : Bool :=
  s.load.runWhole && s.load.heads[p.head].whole && p.meter.lastComplete && !s.uplinks[p.head].muted &&
    s.load.linkWhole[p.carrier.owner]

/-- The results of one placement are counted for its head (R125). -/
def State.countPlacement (s : State) (p : Placement) : State :=
  if s.counted p then
    s.modLoadHead p.head fun x =>
      { x with present := x.present + 1, busy := x.busy + if x.activity ≤ p.meter.lastMean then 1 else 0 }
  else s

/-- The load monitor's part of a frame boundary, after the frame number has risen and the meters have closed the
frame: results of a frame below the window start are discarded, others are counted; the window end falls due at
W_L frames; the marks are set afresh (R124, R125, R126). -/
def State.loadBoundary (s : State) : State :=
  let closed := s.frame - 1
  let t :=
    if s.elapsed s.load.windowStart < s.elapsed closed then s
    else
      let u := forAll s.placements (fun p v => v.countPlacement p) s
      let w := u.setLoad { u.load with windowFrames := u.load.windowFrames + 1 }
      if w.load.windowFrames = w.load.window then w.addDue .loadWindow else w
  t.freshMarks

/-- A load as a ratio of carrier-frames (R127, R128). -/
def loadOf (busy present : Nat) : Load :=
  if present = 0 then { load := 0, measured := false } else { load := 100 * busy / present, measured := true }

/-- The loads of the window that ends (R127). -/
def State.report (s : State) : LoadReport :=
  { frame := s.frame, window := s.load.window
    heads := Vector.ofFn fun h => loadOf s.load.heads[h].busy s.load.heads[h].present
    sectors := Vector.ofFn fun x =>
      let members := allHeads.filter fun h => decide (s.sectorMap[h] = some x)
      loadOf (members.map fun h => s.load.heads[h].busy).sum (members.map fun h => s.load.heads[h].present).sum }

/-- The accumulators and the frame count of the window return to 0 and the window starts at a frame. -/
def LoadMonitor.clearWindow (x : LoadMonitor) (start : Frame) : LoadMonitor :=
  { x with windowStart := start, windowFrames := 0,
           heads := Vector.ofFn fun h => { x.heads[h] with present := 0, busy := 0 } }

/-- The running window is discarded and a new one started: every trigger's count becomes 0 and its deferred flag
no (R129). -/
def State.restartWindow (s : State) (start : Frame) : State :=
  s.setLoad { s.load.clearWindow start with
    triggers := Vector.ofFn fun t => { s.load.triggers[t] with count := 0, deferred := false } }

/-- The ending window is published and the next one starts (R126, steps 1 and 2). -/
def State.publish (s : State) : State :=
  s.setLoad { s.load.clearWindow s.frame with published := some s.report }

/-! ## Requests of the owner -/

/-- SET_ACTIVITY (R130). -/
def serveSetActivity (p : Port) (head : Byte) (threshold : Word) (s : State) : State × Answer :=
  match indexOf 16 head with
  | none => (s, refusal .badRequest)
  | some h =>
    if p ≠ Port.mp then (s, refusal .notPermitted)
    else (s.modLoadHead h fun x => { x with activity := threshold.toNat }, .reply .ok (byte1 h.val ++ byte4 threshold.toNat))

/-- Direction and mode as numbers (R183). -/
def Direction.code : Direction → Nat
  | .above => 0
  | .below => 1

def TriggerMode.code : TriggerMode → Nat
  | .single => 0
  | .repeating => 1

/-- A trigger record as bytes, its fields in R134's order. -/
def Trigger.bytes (t : Trigger) : List Byte :=
  byteFlag t.armed ++ byte1 t.sector.val ++ byte1 t.direction.code ++ byte1 t.mark ++ byte1 t.windows ++ byte1 t.slot.val ++
    byte1 t.mode.code ++ byte1 t.count ++ byteFlag t.deferred ++ byteFlag t.awaiting

/-- The trigger record that a TRIGGER_SET writes; none if a field is out of its encoding (R135). -/
def TriggerFields.record (f : TriggerFields) : Option (TriggerIndex × Trigger) :=
  match indexOf 8 f.trigger, flagOf f.armed, indexOf 12 f.sector, flagOf f.direction, indexOf 4 f.slot, flagOf f.mode with
  | some t, some armed, some sector, some below, some slot, some repeating =>
    some (t, { armed := armed, sector := sector, direction := if below then .below else .above,
               mark := min 100 f.mark.toNat, windows := clamp 1 16 f.windows.toNat, slot := slot,
               mode := if repeating then .repeating else .single, count := 0, deferred := false, awaiting := false })
  | _, _, _, _, _, _ => none

/-- TRIGGER_SET (R133, R135). -/
def serveTriggerSet (p : Port) (f : TriggerFields) (s : State) : State × Answer :=
  match TriggerFields.record f with
  | none => (s, refusal .badRequest)
  | some (t, x) =>
    if p ≠ Port.mp then (s, refusal .notPermitted)
    else (s.modTrigger t fun _ => x, .reply .ok x.bytes)

/-- TRIGGER_READ (R137). -/
def serveTriggerRead (p : Port) (trigger : Byte) (s : State) : State × Answer :=
  match indexOf 8 trigger with
  | none => (s, refusal .badRequest)
  | some t =>
    if p ≠ Port.mp then (s, refusal .notPermitted)
    else (s, .reply .ok s.load.triggers[t].bytes)

/-- A load with its measured flag in one byte: bit 7 measured, bits 6 to 0 load (R183). -/
def Load.byte (x : Load) : List Byte := byte1 (x.load % 128 + if x.measured then 128 else 0)

/-- A trigger in one byte of LOAD_REPORT: bit 7 armed, bit 6 deferred, bit 5 awaiting, bits 4 to 0 count (R183). -/
def Trigger.summaryByte (t : Trigger) : List Byte :=
  byte1 (t.count % 32 + (if t.armed then 128 else 0) + (if t.deferred then 64 else 0) + (if t.awaiting then 32 else 0))

/-- The contents of a LOAD_REPORT reply after its status byte (R136, R183). -/
def State.loadReportBytes (s : State) : List Byte :=
  (match s.load.published with
    | none => byteFlag false ++ List.replicate 34 0
    | some r =>
      byteFlag true ++ byte4 r.frame.toNat ++ byte2 r.window ++ (r.heads.toList.map Load.byte).flatten ++
        (r.sectors.toList.map Load.byte).flatten) ++
    byte4 s.load.windowStart.toNat ++ byte2 s.load.windowFrames ++ (s.load.triggers.toList.map Trigger.summaryByte).flatten

/-- LOAD_REPORT (R136). -/
def serveLoadReport (p : Port) (s : State) : State × Answer :=
  if p ≠ Port.mp then (s, refusal .notPermitted) else (s, .reply .ok s.loadReportBytes)

end Sys2Proof.Machine
end

