-- ==== Sys2Proof/Machine/Plans.lean ====
section
/-!
DEFINITION. The plan controller (Chapter 8): editing, validation, proposal, consent, expiry, revalidation and
commit, outcomes, and its requests.
-/

namespace Sys2Proof.Machine

/-! ## Validation (8.3) -/

/-- A carrier's new head set under a staged map (R143). -/
def State.newHeadSet (s : State) (map : SectorMap) (c : Carrier) : List Head :=
  if s.carriers[c].declared then headSetUnder map s.carriers[c].active else []

/-- The changed carriers of a staged map, ascending (R143). -/
def State.changedCarriers (s : State) (map : SectorMap) : List Carrier :=
  allCarriers.filter fun c => s.carriers[c].declared && decide (s.newHeadSet map c ≠ s.headSet c)

/-- The affected set of a staged map, ascending (R143). -/
def State.affectedSet (s : State) (map : SectorMap) : List Link :=
  allLinks.filter fun l => (s.changedCarriers map).any fun c => decide (Carrier.owner c = l)

/-- The carriers that leave head h under a staged map, ascending (R143). -/
def State.departing (s : State) (map : SectorMap) (h : Head) : List Carrier :=
  allCarriers.filter fun c => (s.placement h c).isSome && !(s.newHeadSet map c).contains h

/-- The carriers that arrive on head h under a staged map, ascending (R143). -/
def State.newcomers (s : State) (map : SectorMap) (h : Head) : List Carrier :=
  allCarriers.filter fun c => (s.placement h c).isNone && (s.newHeadSet map c).contains h

/-- The changed heads of a staged map, ascending (R143). -/
def State.changedHeads (s : State) (map : SectorMap) : List Head :=
  allHeads.filter fun h => !(s.departing map h).isEmpty || !(s.newcomers map h).isEmpty

/-- Admission on one changed head of a staged map (R144). -/
def State.admitMap (s : State) (map : SectorMap) (h : Head) : HeadVerdict :=
  s.admission h (s.departing map h) (s.newcomers map h) (s.newHeadSet map)

/-- A validation's verdict (R144). -/
inductive Verdict where
  | valid (layout : List HeadLayout)
  | invalid (failure : Failure)
  deriving DecidableEq, Repr

/-- The failure of the lowest-numbered failing head (R144). -/
def State.mapFailure (s : State) (map : SectorMap) : Option Failure :=
  (s.changedHeads map).findSome? fun h =>
    match s.admitMap map h with
    | .admitted _ => none
    | .failed r c => some { reason := r, head := some h, carrier := some c }

/-- The layout of a staged map whose changed heads are all admitted (R144). -/
def State.mapLayout (s : State) (map : SectorMap) : List HeadLayout :=
  (s.changedHeads map).filterMap fun h =>
    match s.admitMap map h with
    | .admitted starts => some { head := h, departing := s.departing map h, newcomers := starts }
    | .failed _ _ => none

/-- Validation of a staged map against the state (R143, R144). -/
def State.validateMap (s : State) (map : SectorMap) : Verdict :=
  match s.mapFailure map with
  | some f => .invalid f
  | none => .valid (s.mapLayout map)

/-- The failure of a slot in EMPTY: no head and no carrier (R144). -/
def emptyFailure : Failure := { reason := .empty, head := none, carrier := none }

/-! ## Outcomes (8.7) -/

/-- The number of a result in PLAN_OUTCOME, in R158's order (log entry 10). -/
def PlanResult.code : PlanResult → Nat
  | .committed => 0
  | .refused => 1
  | .expired => 2
  | .cancelled => 3
  | .revalidate => 4
  | .invalid => 5

/-- PLAN_OUTCOME: plan number, slot, result and frame (R159, R188). An absent plan number is a byte 0, the model's choice
(log entry 10). -/
def outcomeMessage (o : Outcome) : Message :=
  mkMessage 97 (byte1 (o.number.getD 0) ++ byte1 o.slot.val ++ byte1 o.result.code ++ byte4 o.frame.toNat)

/-- PLAN_OFFER: plan number and slot (R149, R188). -/
def offerMessage (number : Nat) (slot : SlotIndex) : Message := mkMessage 96 (byte1 number ++ byte1 slot.val)

/-- An outcome is recorded and sent to MP and to every operator of its affected set whose link is UP (R158, R159);
its slot takes the value given. -/
def State.recordOutcome (s : State) (o : Outcome) (slot : PlanSlot) : State :=
  let t := (s.setPlans { s.plans with last := some o }).setSlot o.slot slot
  forAll (Port.mp :: o.affected.map Port.ofLink) (fun p u => u.sendUnsolicited p (outcomeMessage o)) t

/-- A pending plan ends: its outcome is recorded and its slot returns to DRAFT with its staged map (R158). -/
def State.endPlan (s : State) (k : SlotIndex) (map : SectorMap) (o : Offer) (result : PlanResult)
    (refusing : Option Link) (failure : Option Failure) : State :=
  s.recordOutcome
    { number := some o.number, slot := k, source := o.source, result := result, frame := s.frame, affected := o.affected,
      answers := o.answers, refusing := refusing, failure := failure }
    (.draft map)

/-! ## Proposal and offer (8.4) -/

/-- The plan number counter advances by one and wraps from 255 to 1 (R140). -/
def nextNumber (n : Nat) : Nat := if n < 255 then n + 1 else 1

/-- A slot whose proposal validates VALID is offered (R147). -/
def State.offerSlot (s : State) (k : SlotIndex) (map : SectorMap) (layout : List HeadLayout) (source : PlanSource) :
    State :=
  let number := nextNumber s.plans.counter
  let affected := s.affectedSet map
  let offer : Offer :=
    { verdictFrame := s.frame, layout := layout, affected := affected, number := number, source := source,
      answers := Vector.replicate 4 .none }
  let t := s.setPlans { s.plans with counter := number }
  if affected.isEmpty then t.setSlot k (.commitWait map offer)
  else
    forAll affected (fun l u => u.sendUnsolicited (Port.ofLink l) (offerMessage number k))
      (t.setSlot k (.consent map offer s.plans.consentTime))

/-- A proposal that validates INVALID: the slot holds the verdict, or stays EMPTY, and the outcome INVALID is
recorded (R146, R158). -/
def State.failProposal (s : State) (k : SlotIndex) (slot : PlanSlot) (f : Failure) (source : PlanSource) : State :=
  s.recordOutcome
    { number := none, slot := k, source := source, result := .invalid, frame := s.frame, affected := [],
      answers := Vector.replicate 4 .none, refusing := none, failure := some f }
    slot

/-- A taken proposal of a slot: it validates the slot afresh and offers it or records INVALID (R146). -/
def State.propose (s : State) (k : SlotIndex) (source : PlanSource) : State :=
  match s.plans.slots[k].map? with
  | none => s.failProposal k .empty emptyFailure source
  | some map =>
    match s.validateMap map with
    | .valid layout => s.offerSlot k map layout source
    | .invalid f => s.failProposal k (.invalid map s.frame f) f source

/-! ## Commit (8.6) -/

/-- The layout of one changed head is applied: departing placements are removed, then the newcomers take their
units and placements (R156). -/
def State.applyLayout (s : State) (x : HeadLayout) : State :=
  forAll x.newcomers (fun n t => t.createPlacement x.head n.1 n.2)
    (forAll x.departing (fun c t => t.removePlacement x.head c) s)

/-- A plan commits (R156), and its changes are handed on (R157). R41 orders the new placements of one carrier; those of
different carriers are evaluated head by head ascending, on each head in the order of admission (log entry 36). -/
def State.commitPlan (s : State) (k : SlotIndex) (map : SectorMap) (o : Offer) (layout : List HeadLayout) : State :=
  let changed := s.changedCarriers map
  let t := forAll layout (fun x u => u.applyLayout x) (s.setSectorMap map)
  let u := forAll layout (fun x v => forAll x.newcomers (fun n w => w.evalCreated x.head n.1) v) t
  let v := forAll layout (fun x w => w.requestOnce s x.head) u
  let w := forAll changed (fun c y => y.evalOrphan c) v
  (w.restartWindow w.frame).endPlan k map o .committed none none

/-- The revalidation of a slot in COMMIT_WAIT: it commits or is aborted REVALIDATE (R155). -/
def State.revalidate (s : State) (k : SlotIndex) (number : Nat) : State :=
  match s.plans.slots[k] with
  | .commitWait map o =>
    if o.number = number then
      match s.validateMap map with
      | .valid layout => s.commitPlan k map o layout
      | .invalid f => s.endPlan k map o .revalidate none (some f)
    else s
  | _ => s

/-! ## Expiry (R152) -/

/-- Some affected operator in REQUIRED mode has answered NONE (R152). -/
def State.requiredSilent (s : State) (o : Offer) : Bool :=
  o.affected.any fun l => decide (o.answers[l] = .none) && decide (s.plans.modes[l] = .required)

/-- The expiry of a slot in CONSENT whose frames remaining are 0 (R152). -/
def State.expireSlot (s : State) (k : SlotIndex) : State :=
  match s.plans.slots[k] with
  | .consent map o 0 => if s.requiredSilent o then s.endPlan k map o .expired none none else s.setSlot k (.commitWait map o)
  | _ => s

/-- The expiry of the plan whose frames remaining are 0, if there is one (R152). -/
def State.expire (s : State) : State := forAll allSlots (fun k t => t.expireSlot k) s

/-- The plan controller's part of a frame boundary: the frames remaining of a slot in CONSENT fall by one, and at
0 the expiry falls due (R152); a slot in COMMIT_WAIT falls due for revalidation (R155). -/
def State.slotBoundary (s : State) (k : SlotIndex) : State :=
  match s.plans.slots[k] with
  | .consent map o remaining =>
    let t := s.setSlot k (.consent map o (remaining - 1))
    if remaining ≤ 1 then t.addDue .consentExpiry else t
  | .commitWait _ o => s.addDue (.planRevalidate k o.number)
  | _ => s

/-! ## Requests of the owner -/

/-- A sector map as bytes: one sector number a head, 255 for NONE (R183). -/
def mapBytes (map : SectorMap) : List Byte :=
  (map.toList.map fun x => match x with
    | none => byte1 255
    | some n => byte1 n.val).flatten

/-- The affected set as one byte, bit i for OLi (log entry 10). -/
def affectedByte (l : List Link) : List Byte := byte1 ((l.map fun x => 2 ^ x.val).sum)

/-- The layout of a head as bytes (log entry 10). -/
def HeadLayout.bytes (x : HeadLayout) : List Byte :=
  byte1 x.head.val ++ byteList (fun c => byte1 c.val) x.departing ++
    byteList (fun n => byte1 n.1.val ++ byte1 n.2.val) x.newcomers

def layoutBytes (l : List HeadLayout) : List Byte := byteList HeadLayout.bytes l

/-- The number of a failure reason in a reply: its status code, 0 for EMPTY (log entry 10). -/
def failureBytes (f : Failure) : List Byte :=
  byte1 f.reason.status.code ++ byte1 (match f.head with
    | none => 255
    | some h => h.val) ++ byte1 (match f.carrier with
    | none => 255
    | some c => c.val)

/-- The entries of a PLAN_EDIT; none if a head or a sector is out of range (R142). -/
def editEntries : List (Byte × Byte) → Option (List (Head × Option Sector))
  | [] => some []
  | (h, x) :: rest =>
    match indexOf 16 h, editSector x, editEntries rest with
    | some h, some x, some l => some ((h, x) :: l)
    | _, _, _ => none

/-- The entries written into a map in list order (R142). -/
def writeEntries (map : SectorMap) (l : List (Head × Option Sector)) : SectorMap :=
  l.foldl (fun m e => m.set e.1 e.2) map

/-- PLAN_EDIT (R142). -/
def servePlanEdit (p : Port) (slot base : Byte) (list : List (Byte × Byte)) (s : State) : State × Answer :=
  match indexOf 4 slot, flagOf base, (if 1 ≤ list.length ∧ list.length ≤ 16 then editEntries list else none) with
  | some k, some active, some entries =>
    if p ≠ Port.mp then (s, refusal .notPermitted)
    else if s.plans.slots[k].offer?.isSome then (s, refusal .slotBusy)
    else
      let start := if active then s.sectorMap else s.plans.slots[k].map?.getD s.sectorMap
      let map := writeEntries start entries
      (s.setSlot k (.draft map), .reply .ok (byte1 k.val ++ mapBytes map))
  | _, _, _ => (s, refusal .badRequest)

/-- PLAN_VALIDATE (R145). The verdict is one byte, 1 for VALID and 0 for INVALID, which is the model's choice (log
entry 10). -/
def servePlanValidate (p : Port) (slot : Byte) (s : State) : State × Answer :=
  match indexOf 4 slot with
  | none => (s, refusal .badRequest)
  | some k =>
    if p ≠ Port.mp then (s, refusal .notPermitted)
    else if s.plans.slots[k].offer?.isSome then (s, refusal .slotBusy)
    else if s.bindingPending then (s, refusal .bindPending)
    else
      match s.plans.slots[k].map? with
      | none => (s, .reply .ok (byteFlag false ++ affectedByte [] ++ failureBytes emptyFailure))
      | some map =>
        let affected := s.affectedSet map
        match s.validateMap map with
        | .valid layout =>
          (s.setSlot k (.valid map s.frame layout affected),
            .reply .ok (byteFlag true ++ affectedByte affected ++ layoutBytes layout))
        | .invalid f =>
          (s.setSlot k (.invalid map s.frame f), .reply .ok (byteFlag false ++ affectedByte affected ++ failureBytes f))

/-- The contents of a PLAN_PROPOSE reply, read from the slot the proposal has left (R146): the plan number with
the affected set and whether it went directly to COMMIT_WAIT, or the result INVALID with its failure. A byte that tells the
two apart stands ahead, 1 for an offer and 0 for INVALID, which is the model's choice (log entry 10). -/
def proposeReply : PlanSlot → List Byte
  | .consent _ o _ => byteFlag true ++ byte1 o.number ++ affectedByte o.affected ++ byteFlag false
  | .commitWait _ o => byteFlag true ++ byte1 o.number ++ affectedByte o.affected ++ byteFlag true
  | .invalid _ _ f => byteFlag false ++ failureBytes f
  | .empty => byteFlag false ++ failureBytes emptyFailure
  | .draft _ => []
  | .valid _ _ _ _ => []

/-- PLAN_PROPOSE (R146). -/
def servePlanPropose (p : Port) (slot : Byte) (s : State) : State × Answer :=
  match indexOf 4 slot with
  | none => (s, refusal .badRequest)
  | some k =>
    if p ≠ Port.mp then (s, refusal .notPermitted)
    else if s.planPending then (s, refusal .planPending)
    else if s.bindingPending then (s, refusal .bindPending)
    else
      let t := s.propose k .mp
      (t, .reply .ok (proposeReply t.plans.slots[k]))

/-- CONSENT (R151). -/
def serveConsent (p : Port) (number answer : Byte) (s : State) : State × Answer :=
  if number = 0 ∨ (answer ≠ 1 ∧ answer ≠ 2) then (s, refusal .badRequest)
  else
    match Port.link? p with
    | none => (s, refusal .notPermitted)
    | some l =>
      match s.pendingPlan with
      | none => (s, refusal .stalePlan)
      | some (k, _) =>
        match s.plans.slots[k] with
        | .consent map o remaining =>
          if o.number ≠ number.toNat then (s, refusal .stalePlan)
          else if !o.affected.contains l then (s, refusal .notAffected)
          else if o.answers[l] ≠ .none then (s, refusal .alreadyAnswered)
          else
            let reply : Answer := .reply .ok (byte1 o.number ++ byte1 answer.toNat)
            if answer = 2 then
              let o' := { o with answers := o.answers.set l .refuse }
              (s.endPlan k map o' .refused (some l) none, reply)
            else
              let o' := { o with answers := o.answers.set l .accept }
              if o'.affected.all fun j => decide (o'.answers[j] = .accept) then (s.setSlot k (.commitWait map o'), reply)
              else (s.setSlot k (.consent map o' remaining), reply)
        | _ => (s, refusal .stalePlan)

/-- PLAN_CANCEL (R153). -/
def servePlanCancel (p : Port) (number : Byte) (s : State) : State × Answer :=
  if number = 0 then (s, refusal .badRequest)
  else if p ≠ Port.mp then (s, refusal .notPermitted)
  else
    match s.pendingPlan with
    | none => (s, refusal .stalePlan)
    | some (k, o) =>
      if o.number ≠ number.toNat then (s, refusal .stalePlan)
      else
        match s.plans.slots[k].map? with
        | none => (s, refusal .stalePlan)
        | some map => (s.endPlan k map o .cancelled none none, .reply .ok (byte1 o.number))

/-- Answers, modes and sources as numbers (R183, log entry 10). -/
def ConsentAnswer.code : ConsentAnswer → Nat
  | .none => 0
  | .accept => 1
  | .refuse => 2

def ConsentMode.code : ConsentMode → Nat
  | .required => 0
  | .presumed => 1

/-- MP is 255, a trigger its number. -/
def PlanSource.code : PlanSource → Nat
  | .mp => 255
  | .trigger t => t.val

/-- The number of a slot state, in R139's order (log entry 10). -/
def PlanSlot.code : PlanSlot → Nat
  | .empty => 0
  | .draft _ => 1
  | .valid _ _ _ _ => 2
  | .invalid _ _ _ => 3
  | .consent _ _ _ => 4
  | .commitWait _ _ => 5

/-- The frames remaining, in CONSENT alone. -/
def PlanSlot.remaining? : PlanSlot → Option Nat
  | .consent _ _ n => some n
  | .empty => none
  | .draft _ => none
  | .valid _ _ _ _ => none
  | .invalid _ _ _ => none
  | .commitWait _ _ => none

/-- Each affected operator with its answer (R139). -/
def answersBytes (affected : List Link) (answers : Vector ConsentAnswer 4) : List Byte :=
  byteList (fun l => byte1 l.val ++ byte1 answers[l].code) affected

/-- The complete last outcome (R150, R158). The absent plan number of an INVALID one is a byte 0, which no plan number is:
the model's choice (log entry 10). -/
def Outcome.bytes (o : Outcome) : List Byte :=
  byte1 (o.number.getD 0) ++ byte1 o.slot.val ++ byte1 o.source.code ++ byte1 o.result.code ++ byte4 o.frame.toNat ++
    affectedByte o.affected ++ answersBytes o.affected o.answers ++
    byteOption byte1 (o.refusing.map (·.val)) ++
    (match o.failure with
      | none => byteFlag false
      | some f => byteFlag true ++ failureBytes f)

/-- What an operator reads of a last outcome addressed to it (R150, R159), an absent plan number as a byte 0 (log
entry 10). -/
def Outcome.operatorBytes (o : Outcome) : List Byte :=
  byte1 (o.number.getD 0) ++ byte1 o.slot.val ++ byte1 o.result.code ++ byte4 o.frame.toNat

/-- The pending plan as it concerns one operator (R150). -/
def State.operatorPlanBytes (s : State) (l : Link) : List Byte :=
  match s.pendingPlan with
  | none => byteFlag false
  | some (k, o) =>
    if o.affected.contains l then
      let map := s.plans.slots[k].map?.getD s.sectorMap
      let mine := (s.changedCarriers map).filter fun c => decide (Carrier.owner c = l)
      byteFlag true ++ byte1 o.number ++ byte1 k.val ++ byte1 s.plans.slots[k].code ++ byte1 o.answers[l].code ++
        byte1 s.plans.modes[l].code ++ byteOption byte2 s.plans.slots[k].remaining? ++
        byteList (fun c => byte1 c.val ++
          byteList (fun h => byte1 (Fin.val h)) (s.gainingHeads c (s.newHeadSet map c)) ++
          byteList (fun h => byte1 (Fin.val h)) (s.losingHeads c (s.newHeadSet map c))) mine
    else byteFlag false

/-- PLAN_QUERY (R150). -/
def servePlanQuery (p : Port) (s : State) : State × Answer :=
  match Port.link? p with
  | some l =>
    let last := match s.plans.last with
      | none => byteFlag false
      | some o => if o.affected.contains l then byteFlag true ++ o.operatorBytes else byteFlag false
    (s, .segmented (s.operatorPlanBytes l ++ last))
  | none =>
    let plan := match s.pendingPlan with
      | none => byteFlag false
      | some (k, o) =>
        byteFlag true ++ byte1 o.number ++ byte1 k.val ++ byte1 s.plans.slots[k].code ++ byte1 o.source.code ++
          byteOption byte2 s.plans.slots[k].remaining? ++
          byteList (fun l => byte1 (Fin.val l) ++ byte1 o.answers[l].code ++ byte1 s.plans.modes[l].code) o.affected
    let last := match s.plans.last with
      | none => byteFlag false
      | some o => byteFlag true ++ o.bytes
    (s, .segmented (plan ++ last ++ byte2 s.plans.consentTime))

/-- The fields of a slot record that its state holds, in R139's order. -/
def PlanSlot.bytes (x : PlanSlot) : List Byte :=
  let offerBytes (map : SectorMap) (o : Offer) : List Byte :=
    mapBytes map ++ byte4 o.verdictFrame.toNat ++ layoutBytes o.layout ++ affectedByte o.affected ++ byte1 o.number ++
      byte1 o.source.code ++ answersBytes o.affected o.answers
  byte1 x.code ++
    match x with
    | .empty => []
    | .draft map => mapBytes map
    | .valid map v layout affected => mapBytes map ++ byte4 v.toNat ++ layoutBytes layout ++ affectedByte affected
    | .invalid map v f => mapBytes map ++ byte4 v.toNat ++ failureBytes f
    | .consent map o n => offerBytes map o ++ byte2 n
    | .commitWait map o => offerBytes map o

/-- PLAN_READ (R160). -/
def servePlanRead (p : Port) (slot : Byte) (s : State) : State × Answer :=
  match indexOf 4 slot with
  | none => (s, refusal .badRequest)
  | some k =>
    if p ≠ Port.mp then (s, refusal .notPermitted) else (s, .segmented s.plans.slots[k].bytes)

/-- The consent mode encoding (R183). -/
def consentModeOf (b : Byte) : Option ConsentMode :=
  match b.toNat with
  | 0 => some .required
  | 1 => some .presumed
  | _ => none

/-- SET_CONSENT (R141). -/
def serveSetConsent (p : Port) (time : Half) (modes : Vector Byte 4) (s : State) : State × Answer :=
  match consentModeOf modes[0], consentModeOf modes[1], consentModeOf modes[2], consentModeOf modes[3] with
  | some m0, some m1, some m2, some m3 =>
    if p ≠ Port.mp then (s, refusal .notPermitted)
    else
      let n := clamp 1 60000 time.toNat
      (s.setPlans { s.plans with consentTime := n, modes := ⟨#[m0, m1, m2, m3], rfl⟩ },
        .reply .ok (byte2 n ++ byte1 m0.code ++ byte1 m1.code ++ byte1 m2.code ++ byte1 m3.code))
  | _, _, _, _ => (s, refusal .badRequest)

end Sys2Proof.Machine
end

