-- ==== Sys2Proof/Machine/Triggers.lean ====
section
/-!
DEFINITION. The trigger table's evaluation, the end of a load window and SET_LOAD_WINDOW (R126, R129 to R133, R148).
-/

namespace Sys2Proof.Machine

/-- The test of a trigger on a published load (R131). -/
def Trigger.holds (t : Trigger) (x : Load) : Bool :=
  x.measured &&
    match t.direction with
    | .above => decide (t.mark ≤ x.load)
    | .below => decide (x.load ≤ t.mark)

/-- The plan controller answers a firing deferred: a plan is pending or a binding is (R132, R148). -/
def State.defersTrigger (s : State) : Bool := s.planPending || s.bindingPending

/-- A trigger's record after the answer to its firing: the table of R133. A deferred one stands at K whatever has become
of its count since it fired. -/
def Trigger.answered (t : Trigger) (deferred : Bool) : Trigger :=
  if deferred then { t with count := t.windows, deferred := true, awaiting := false }
  else { t with armed := t.armed && decide (t.mode = .repeating), count := 0, deferred := false, awaiting := false }

/-- A trigger fires: the plan controller takes the proposal of its slot, or defers it, and the trigger awaits the
answer, which falls due ahead of whatever else is (R132, R148; log entry 29). -/
def State.fireTrigger (s : State) (loads : Vector Load 12) (t : TriggerIndex) : State :=
  let waiting := s.modTrigger t fun x => { x with awaiting := true }
  let taken := if s.defersTrigger then waiting else waiting.propose s.load.triggers[t].slot (.trigger t)
  taken.setDue (.triggerAnswer t s.defersTrigger loads :: taken.due)

/-- The triggers are evaluated on the published loads in turn, up to the first that fires: the next one is evaluated when
that one has been answered (R131). -/
def State.evalTriggers (s : State) (loads : Vector Load 12) : List TriggerIndex → State
  | [] => s
  | t :: rest =>
    let x := s.load.triggers[t]
    if !x.armed || x.awaiting then s.evalTriggers loads rest
    else if x.holds loads[x.sector] then
      let n := min x.windows (x.count + 1)
      let u := s.modTrigger t fun y => { y with count := n }
      if n = x.windows then u.fireTrigger loads t else u.evalTriggers loads rest
    else (s.modTrigger t fun y => { y with count := 0, deferred := false }).evalTriggers loads rest

/-- The end of the load window: publication, a fresh window, then the trigger table (R126). It is taken only while
the window frame count stands at W_L. -/
def State.endWindow (s : State) : State :=
  if s.load.windowFrames = s.load.window then s.publish.evalTriggers s.report.sectors allTriggers else s

/-- The plan controller's answer reaches a trigger: it is written where the trigger still awaits it, and the triggers
after it are evaluated on that window end's loads, as they stand by now: one that a TRIGGER_SET has armed since the firing
is evaluated there too (R131, R133, R135; log entry 29). -/
def State.answerTrigger (s : State) (t : TriggerIndex) (deferred : Bool) (loads : Vector Load 12) : State :=
  let u := if s.load.triggers[t].awaiting then s.modTrigger t fun x => x.answered deferred else s
  u.evalTriggers loads (allTriggers.filter fun j => decide (t < j))

/-- A window end that is due is taken (R129): the frame that the boundary closed has gone into the old window. -/
def State.takeWindowEnd (s : State) : State :=
  if s.due.contains .loadWindow then (s.setDue (s.due.erase .loadWindow)).endWindow else s

/-- SET_LOAD_WINDOW (R129, R130): a new length restarts the window; a window end that the last boundary has left due
comes first, up to its first firing. The triggers behind a firing that awaits its answer are evaluated after the restart,
on the old window's loads (log entry 29). -/
def serveSetLoadWindow (p : Port) (length : Half) (s : State) : State × Answer :=
  if p ≠ Port.mp then (s, refusal .notPermitted)
  else
    let n := clamp 10 6000 length.toNat
    let t :=
      if s.load.window = n then s
      else
        let u := s.takeWindowEnd
        (u.setLoad { u.load with window := n }).restartWindow (s.frame + 1)
    (t, .reply .ok (byte2 n))

end Sys2Proof.Machine
end

