-- ==== Sys2Proof/Machine/HeadLinks.lean ====
section
/-!
DEFINITION. The head link controllers (Chapter 5): conditions, entering and leaving service, bring-up, reports,
delay measurement, supervision, and the requests that set, enable and disable a head link.
-/

namespace Sys2Proof.Machine

/-! ## Held conditions (R86) -/

/-- The controller raises a condition of its head and holds it (R86). -/
def State.raiseHeld (s : State) (h : Head) (k : AlarmKind) (detail : Nat) : State :=
  (s.modHead h fun x => { x with held := if x.held.contains k then x.held else x.held ++ [k] }).raise k (.head h) detail

/-- The controller clears a condition of its head, where it holds it (R86). -/
def State.clearHeld (s : State) (h : Head) (k : AlarmKind) : State :=
  if s.heads[h].held.contains k then
    (s.modHead h fun x => { x with held := x.held.filter fun j => j ≠ k }).clear k (.head h)
  else s

/-! ## The sample switch's part of service changes -/

/-- A head's noise guard returns to its reset values and its UPLINK_NOISE is cleared (R80, R81). -/
def State.resetGuard (s : State) (h : Head) : State :=
  (s.modUplink h fun x => { x with muted := false, loud := 0, quiet := 0 }).clear .uplinkNoise (.head h)

/-- A head's buffer becomes STOPPED and empty (R70, R71). -/
def State.stopBuffer (s : State) (h : Head) : State := s.modUplink h fun x => { x with running := false, groups := [] }

/-- The sample group of zeros. -/
def zeroSample : Sample := { i := 0, q := 0 }

def zeroGroup : Group := Vector.replicate 8 zeroSample

/-- A head's buffer becomes RUNNING with 32 groups of zeros and its slip gate is closed (R71). -/
def State.startBuffer (s : State) (h : Head) : State :=
  s.modUplink h fun x => { x with running := true, groups := List.replicate Config.bufferCentre zeroGroup, slipGate := 2 }

/-! ## Leaving and entering service (5.6) -/

/-- The hand-ons of leaving service, from the state s0 before the departure (R99). -/
def State.handOnLeave (s : State) (s0 : State) (h : Head) : State :=
  ((((settle s0 s).delayChanged h).requestOnce s0 h).stopBuffer h).breakService h

/-- An in-service head leaves service to a link state: a running re-measure is abandoned, delay and fibre length
become unknown, HEAD_DEGRADED is cleared where the head was DEGRADED, and the departure is handed on (R99). -/
def State.leaveService (s : State) (h : Head) (x : LinkState) : State :=
  let t := if s.heads[h].state = .degraded then s.clearHeld h .headDegraded else s
  let u := t.modHead h fun y => { y with state := x, markers := none, delay := none, fibre := none }
  u.handOnLeave s h

/-- A head leaves its state for another, with the hand-ons of leaving service where it was in service. -/
def State.leaveFor (s : State) (h : Head) (x : LinkState) : State :=
  if s.inService h then s.leaveService h x else s.modHead h fun y => { y with state := x, markers := none }

/-- A head in MEASURE enters UP with a measured delay, and its entry into service is handed on (R97, R98). -/
def State.enterService (s : State) (h : Head) (delay : Nat) : State :=
  let t := s.modHead h fun x =>
    { x with state := .up, delay := some delay, fibre := some (fibreLength x.settings.fibreCode delay), attempt := 0,
             markers := none, degradedCount := 0, errorFrames := 0, errors := 0, remeasureCount := x.settings.remeasure }
  let u := (((settle s t).delayChanged h).requestOnce s h).startBuffer h
  ((u.breakService h).clearHeld h .headLinkLost).clearHeld h .headFailed

/-! ## Entering SEEK, MEASURE, FAILED and OFF -/

/-- On entry to SEEK from an enabled state: locked frame count 0, report seen since lock no, attempt number 0,
report timer stopped (R97, R109, R110, R111; log entry 12). -/
def State.seekEntry (s : State) (h : Head) : State :=
  s.modHead h fun x => { x with lockedCount := 0, reportSeen := false, attempt := 0, reportTimer := none }

/-- A head in UP or DEGRADED drops to SEEK and HEAD_LINK_LOST is raised with its cause (R110). -/
def State.loseLink (s : State) (h : Head) (cause : Nat) : State :=
  ((s.leaveService h .seek).raiseHeld h .headLinkLost cause).seekEntry h

/-- A head in MEASURE drops to SEEK (R97). -/
def State.leaveMeasure (s : State) (h : Head) : State := (s.leaveFor h .seek).seekEntry h

/-- A head in SEEK enters MEASURE: the report timer starts from 0 at the moment since which the conditions hold (R92,
R103). -/
def State.enterMeasure (s : State) (h : Head) (moment : Nat) : State :=
  s.modHead h fun x =>
    { x with state := .measure, attempt := 0, markers := none, reportTimer := some moment, latePassed := false,
             watched := false }

/-- The conditions of R92 for entering MEASURE. -/
def HeadLink.seekDone (x : HeadLink) : Bool :=
  decide (x.state = .seek) && decide (x.settings.lockFrames ≤ x.lockedCount) && x.reportSeen

/-- The head enters MEASURE if the conditions of R92 hold, as of a moment. -/
def State.completeSeek (s : State) (h : Head) (moment : Nat) : State :=
  if s.heads[h].seekDone then s.enterMeasure h moment else s

/-- Entering FAILED: HEAD_FAILED is raised with its cause, the hold-off countdown starts from 0, and a departure
from service is handed on (R109). -/
def State.enterFailed (s : State) (h : Head) (cause : Nat) : State :=
  let t := s.raiseHeld h .headFailed cause
  let u := t.modHead h fun x => { x with holdOffCount := 0, reportTimer := none }
  u.leaveFor h .failed

/-- The five held conditions of a head link (R86). -/
def headConditions : List AlarmKind := [.headLinkLost, .headFailed, .headDegraded, .reportLate, .headFault]

/-- The record of a head as it enters OFF (R90): what is measured becomes unknown, the last report is discarded,
every count and countdown is 0, timers and windows stop. Settings, snapshot and count mode are kept (R121). -/
def HeadLink.toOff (x : HeadLink) : HeadLink :=
  { x with state := .off, capability := .unknown, latency := none, delay := none, fibre := none, report := none,
           lockedCount := 0, reportSeen := false, attempt := 0, markers := none, remeasureCount := 0, reportTimer := none,
           lightTimer := none, blipFrames := 0, blips := 0, errorFrames := 0, errors := 0, degradedCount := 0,
           holdOffCount := 0, latePassed := false, watched := false,
           test := { TestState.reset with mode := x.test.mode, snapshot := x.test.snapshot } }

/-- A head enters OFF from another state (R90). -/
def State.enterOff (s : State) (h : Head) : State :=
  let t := forAll headConditions (fun k u => u.clearHeld h k) (s.modHead h HeadLink.toOff)
  let u := if s.inService h then t.handOnLeave s h else t
  let v := ((u.handPower s h 0 false).stopBuffer h).resetGuard h
  (v.delayChanged h).capabilityChanged h

/-! ## Light (R105) and lock (R91, R92, R97, R110) -/

/-- A loss of light for the state machine (R105). -/
def State.loseLight (s : State) (h : Head) : State :=
  let t := s.modHead h fun x => { x with lightTimer := none }
  match s.heads[h].state with
  | .measure => t.leaveMeasure h
  | .up => t.loseLink h 1
  | .degraded => t.loseLink h 1
  | .seek => t.modHead h fun x => { x with lockedCount := 0, reportSeen := false }
  | .failed => t
  | .test => t
  | .off => t

/-- Frame lock is lost (R91, R92, R97, R110). -/
def State.loseLock (s : State) (h : Head) : State :=
  let t := s.modHead h fun x => { x with framerLock := false, lockWhole := false }
  match s.heads[h].state with
  | .measure => t.leaveMeasure h
  | .up => t.loseLink h 2
  | .degraded => t.loseLink h 2
  | .seek => t.modHead h fun x => { x with lockedCount := 0, reportSeen := false }
  | .failed => t
  | .test => t
  | .off => t

/-- Frame lock is found: a new locked run begins from 0 in SEEK (R92). -/
def State.findLock (s : State) (h : Head) : State :=
  s.modHead h fun x =>
    { x with framerLock := true, lockWhole := false, lockedCount := if x.state = .seek then 0 else x.lockedCount }

/-! ## Reports (5.4, R103, R104) -/

/-- The value of the running report timer, 0 to 65535 ms (R86, R103). -/
def State.reportMs (s : State) (start : Nat) : Nat := s.timerMs start 65535

/-- The value of the running light timer, 0 to 255 ms (R86, R105). -/
def State.lightMs (s : State) (start : Nat) : Nat := s.timerMs start 255

/-- The report watch runs in MEASURE, UP and DEGRADED (R103). -/
def LinkState.watched : LinkState → Bool
  | .measure => true
  | .up => true
  | .degraded => true
  | .off => false
  | .seek => false
  | .failed => false
  | .test => false

/-- The detail of HEAD_FAULT (R161). -/
def ReportRecord.faultDetail (r : ReportRecord) : Nat :=
  r.derate + (if r.paOff then 8 else 0) + (if r.overTemp then 16 else 0) + (if r.supply then 32 else 0) +
    (if r.paFault then 64 else 0)

/-- HEAD_FAULT follows a report: detail 0 is a clean one (R95). -/
def State.followFault (s : State) (h : Head) (before : Option ReportRecord) (now : ReportRecord) : State :=
  if now.faultDetail = 0 then s.clearHeld h .headFault
  else if !s.heads[h].held.contains .headFault || decide (before.map ReportRecord.faultDetail ≠ some now.faultDetail) then
    s.raiseHeld h .headFault now.faultDetail
  else s

/-- The capability and loop latency of an accepted report are taken (R94). -/
def State.takeCapability (s : State) (h : Head) (r : HeadReport) : State :=
  let c : Capability := if r.wide then .yes else .no
  let t := s.modHead h fun x => { x with capability := c, latency := some r.latency.val }
  if s.heads[h].capability = c then t else t.capabilityChanged h

/-- The derate, PA-off flag and alarm bits of an accepted report are taken (R95, R30, R48). -/
def State.takeReport (s : State) (h : Head) (r : HeadReport) : State :=
  let now : ReportRecord :=
    { derate := r.derate.val, paOff := r.paOff, overTemp := r.overTemp, supply := r.supply, paFault := r.paFault }
  let t := s.modHead h fun x => { x with report := some now }
  let u := if s.paOff h = r.paOff then t else settle s t
  (u.handPower s h r.derate.val r.paOff).followFault h s.heads[h].report now

/-- The period of an accepted report is judged, except of the first in MEASURE (R103). -/
def State.judgePeriod (s : State) (h : Head) : State :=
  let x := s.heads[h]
  match x.reportTimer with
  | none => s
  | some start =>
    let period := s.reportMs start
    if x.state = .measure ∧ !x.watched then s
    else if period < x.settings.reportMin then s.raise .reportFast (.head h) period
    else if period ≤ x.settings.reportMax then s.clearHeld h .reportLate
    else s

/-- The conditions of R92 have come to hold at a moment: the entry into MEASURE falls due, once. -/
def State.seekFallsDue (s : State) (h : Head) (moment : Nat) : State :=
  let waits := s.due.any fun d => match d with
    | .seekLock g _ => decide (g = h)
    | _ => false
  if waits then s else s.setDue (s.due ++ [.seekLock h moment])

/-- The arrival of an accepted report: the report watch judges it and restarts; in SEEK report seen since lock
becomes yes and may complete the conditions of R92 (R92, R103). -/
def State.reportArrived (s : State) (h : Head) : State :=
  if s.heads[h].state.watched then
    (s.judgePeriod h).modHead h fun x =>
      { x with reportTimer := some s.timing.now, latePassed := false, watched := true }
  else
    let t := s.modHead h fun x => { x with reportSeen := true }
    if t.heads[h].seekDone then t.seekFallsDue h s.timing.now else t

/-- A report is accepted in SEEK while lock is held, and in MEASURE, UP and DEGRADED (R93). -/
def HeadLink.acceptsReport (x : HeadLink) : Bool := x.state.watched || (decide (x.state = .seek) && x.framerLock)

/-- A report timer at a value has passed the maximum (R103). A lost limit that is not above the maximum has taken the head
out before (R104). -/
def HeadSettings.passedBy (x : HeadSettings) (ms : Nat) : Bool := decide (x.reportMax < ms) && decide (x.reportMax < x.lostLimit)

/-- The report timer has passed the maximum: REPORT_LATE is raised with the maximum as detail (R103). -/
def State.passMaximum (s : State) (h : Head) : State :=
  (s.modHead h fun x => { x with latePassed := true }).raiseHeld h .reportLate s.heads[h].settings.reportMax

/-- The head has lost its reports (R104). -/
def State.loseReports (s : State) (h : Head) : State :=
  match s.heads[h].state with
  | .up => s.loseLink h 3
  | .degraded => s.loseLink h 3
  | .measure => s.leaveMeasure h
  | .off => s
  | .seek => s
  | .failed => s
  | .test => s

/-! ## Delay measurement (5.5, 5.7) -/

/-- The judgement of four round trips with the loop latency held: the delay, or the reason code (R96). Where several
conditions fail, the reason is the one that R96 lists first (log entry 36). -/
def judgeAttempt (trips : List Nat) (latency : Option Nat) : Nat ⊕ Nat :=
  let mean := trips.sum / 4
  if 2 < spread trips then .inr 1
  else
    match latency with
    | none => .inr 2
    | some l =>
      if mean < l then .inr 2
      else if 4095 < (mean - l) / 2 then .inr 3
      else .inl ((mean - l) / 2)

/-- An attempt fails: DELAY_UNSTABLE is raised; a third failure in MEASURE fails the head, a re-measure reloads its
countdown (R97, R100, R101). -/
def State.failAttempt (s : State) (h : Head) (reason : Nat) : State :=
  let x := s.heads[h]
  let t := (s.modHead h fun y => { y with markers := none }).raise .delayUnstable (.head h) reason
  if x.state = .measure then if 3 ≤ x.attempt then t.enterFailed h 2 else t
  else t.modHead h fun y => { y with remeasureCount := y.settings.remeasure }

/-- A re-measure is accepted: within the tolerance the held delay is kept, beyond it the new one is installed and
DELAY_SHIFT is raised (R101). The countdown is reloaded (R100). -/
def State.acceptRemeasure (s : State) (h : Head) (delay : Nat) : State :=
  let t := s.modHead h fun y => { y with markers := none, remeasureCount := y.settings.remeasure }
  let d := s.heads[h].delay.getD 0
  if max d delay - min d delay ≤ s.heads[h].settings.tolerance then t
  else
    ((t.modHead h fun y => { y with delay := some delay, fibre := some (fibreLength y.settings.fibreCode delay) }).raise
      .delayShift (.head h) delay).delayChanged h

/-- The fourth marker has returned: the attempt completes and is judged (R96, R97, R101). -/
def State.completeAttempt (s : State) (h : Head) (trips : List Nat) : State :=
  match judgeAttempt trips s.heads[h].latency with
  | .inr reason => s.failAttempt h reason
  | .inl delay => if s.heads[h].state = .measure then s.enterService h delay else s.acceptRemeasure h delay

/-- The round trip of a marker of the running attempt is recorded; the return of any other, or of one recorded
already, changes nothing (R96). -/
def recordReturn (frame : Frame) (trip : Nat) : List Marker → List Marker
  | [] => []
  | m :: rest =>
    if m.sentFrame = frame ∧ m.roundTrip = none then { m with roundTrip := some (min 65535 trip) } :: rest
    else m :: recordReturn frame trip rest

/-- A marker returns to the controller of head h (R96). An attempt that a boundary has found lacking a marker has
failed there, and its returns are discarded. -/
def State.returnMarker (s : State) (h : Head) (frame : Frame) (trip : Nat) : State :=
  match s.heads[h].markers with
  | none => s
  | some ms =>
    if s.due.contains (.markerLost h) then s
    else
      let ms' := recordReturn frame trip ms
      let trips := ms'.filterMap (·.roundTrip)
      let t := s.modHead h fun x => { x with markers := some ms' }
      if ms'.length = 4 ∧ trips.length = 4 ∧ ms' ≠ ms then t.completeAttempt h trips else t

/-- A measurement attempt begins and its first marker is sent (R96, R97). -/
def State.beginAttempt (s : State) (h : Head) : State :=
  if s.heads[h].state = .measure ∧ s.heads[h].markers = none then
    s.modHead h fun x => { x with attempt := x.attempt + 1, markers := some [{ sentFrame := s.frame, roundTrip := none }] }
  else s

/-- A re-measure attempt begins where the remeasure countdown has reached 0 (R100). -/
def State.beginRemeasure (s : State) (h : Head) : State :=
  let x := s.heads[h]
  if s.inService h ∧ x.markers = none ∧ x.remeasureCount = 0 ∧ 0 < x.settings.remeasure then
    s.modHead h fun y => { y with markers := some [{ sentFrame := s.frame, roundTrip := none }] }
  else s

/-- A marker was not back by the boundary: the attempt fails with reason 4 (R96). -/
def State.loseMarker (s : State) (h : Head) : State :=
  if s.heads[h].markers.isSome then s.failAttempt h 4 else s

/-! ## Windows (R106 to R109) -/

/-- The blip window of a head ends (R106). -/
def State.endBlipWindow (s : State) (h : Head) : State :=
  if s.heads[h].state = .off then s
  else
    let n := s.heads[h].blips
    let t := if 5 ≤ n then s.raise .linkBlips (.head h) n else s
    t.modHead h fun x => { x with blipFrames := 0, blips := 0 }

/-- The error window of an in-service head ends and its count is judged (R107, R108). -/
def State.endErrorWindow (s : State) (h : Head) : State :=
  let x := s.heads[h]
  let t := s.modHead h fun y => { y with errorFrames := 0, errors := 0 }
  match x.state with
  | .up =>
    if x.settings.degradeThreshold ≤ x.errors then
      (t.modHead h fun y => { y with state := .degraded, degradedCount := 0 }).raiseHeld h .headDegraded x.errors
    else t
  | .degraded =>
    if x.errors < x.settings.clearThreshold then
      (t.modHead h fun y => { y with state := .up, degradedCount := 0 }).clearHeld h .headDegraded
    else
      let n := min 255 (x.degradedCount + 1)
      let u := t.modHead h fun y => { y with degradedCount := n }
      if x.settings.failCount ≤ n then (u.clearHeld h .headDegraded).enterFailed h 1 else u
  | .off => s
  | .seek => s
  | .measure => s
  | .failed => s
  | .test => s

/-- The hold-off of a failed head expires and the head enters SEEK (R109). What the countdown reads from then on is left
open: it keeps its value (log entry 21). -/
def State.expireHoldOff (s : State) (h : Head) : State :=
  if s.heads[h].state = .failed then
    s.modHead h fun x => { x with state := .seek, lockedCount := 0, reportSeen := false }
  else s

/-! ## A head link's part of a frame boundary -/

/-- The markers of a running attempt at a boundary: the next is sent where the last has returned, and the attempt
falls due to fail where it has not (R96). -/
def State.markerBoundary (s : State) (h : Head) : State :=
  match s.heads[h].markers with
  | none => if s.heads[h].state = .measure then s.addDue (.attemptBegin h) else s
  | some ms =>
    if ms.any fun m => m.roundTrip.isNone then s.addDue (.markerLost h)
    else s.modHead h fun x => { x with markers := some (ms ++ [{ sentFrame := s.frame, roundTrip := none }]) }

/-- The remeasure countdown of an in-service head falls by one; at 0 a re-measure falls due (R100). -/
def State.remeasureBoundary (s : State) (h : Head) : State :=
  let x := s.heads[h]
  if s.inService h ∧ 0 < x.settings.remeasure ∧ 0 < x.remeasureCount then
    let t := s.modHead h fun y => { y with remeasureCount := y.remeasureCount - 1 }
    if x.remeasureCount = 1 then t.addDue (.remeasureBegin h) else t
  else s

/-- The locked frame count in SEEK rises where the framer held lock throughout the frame (R92). -/
def State.lockBoundary (s : State) (h : Head) : State :=
  let x := s.heads[h]
  let t := s.modHead h fun y =>
    { y with lockWhole := y.framerLock,
             lockedCount := if y.state = .seek ∧ y.framerLock ∧ y.lockWhole then min 16 (y.lockedCount + 1) else y.lockedCount }
  if x.state = .seek ∧ t.heads[h].seekDone then t.seekFallsDue h s.timing.lastBoundary else t

/-- The blip window counts the boundary, in every state but OFF (R106). -/
def State.blipBoundary (s : State) (h : Head) : State :=
  if s.heads[h].state = .off then s
  else if 99 ≤ s.heads[h].blipFrames then s.addDue (.blipWindow h)
  else s.modHead h fun x => { x with blipFrames := x.blipFrames + 1 }

/-- The error window counts the boundary while the head is in service (R107). -/
def State.errorBoundary (s : State) (h : Head) : State :=
  if !s.inService h then s
  else if 99 ≤ s.heads[h].errorFrames then s.addDue (.errorWindow h)
  else s.modHead h fun x => { x with errorFrames := x.errorFrames + 1 }

/-- The hold-off countdown of a failed head rises (R109). -/
def State.holdOffBoundary (s : State) (h : Head) : State :=
  if s.heads[h].state = .failed then
    let t := s.modHead h fun x => { x with holdOffCount := min 65535 (x.holdOffCount + 1) }
    if t.heads[h].settings.holdOff ≤ t.heads[h].holdOffCount then t.addDue (.holdOff h) else t
  else s

/-- A head link controller's part of a frame boundary. -/
def State.headBoundary (s : State) (h : Head) : State :=
  (((((s.markerBoundary h).remeasureBoundary h).lockBoundary h).blipBoundary h).errorBoundary h).holdOffBoundary h

/-! ## Requests of the owner -/

/-- The settings of a SET_HEAD_LINK, every value clamped (R87). -/
def HeadLinkFields.settings (f : HeadLinkFields) : HeadSettings :=
  let reportMax := clamp 20 5000 f.reportMax.toNat
  let degrade := clamp 1 65535 f.degradeThreshold.toNat
  { hysteresis := min 3 f.hysteresis.toNat
    reportMin := min (clamp 10 1000 f.reportMin.toNat) reportMax
    reportMax := reportMax
    lostLimit := clamp 100 10000 f.lostLimit.toNat
    blipLimit := clamp 1 255 f.blipLimit.toNat
    degradeThreshold := degrade
    clearThreshold := min f.clearThreshold.toNat degrade
    failCount := clamp 1 255 f.failCount.toNat
    holdOff := clamp 1 65535 f.holdOff.toNat
    remeasure := f.remeasure.toNat
    tolerance := min 15 f.tolerance.toNat
    fibreCode := min 11 f.fibreCode.toNat }

/-- The settings as bytes, in R87's order. -/
def HeadSettings.bytes (x : HeadSettings) : List Byte :=
  byte1 x.hysteresis ++ byte2 x.reportMin ++ byte2 x.reportMax ++ byte2 x.lostLimit ++ byte1 x.blipLimit ++
    byte2 x.degradeThreshold ++ byte2 x.clearThreshold ++ byte1 x.failCount ++ byte2 x.holdOff ++ byte2 x.remeasure ++
    byte1 x.tolerance ++ byte1 x.fibreCode

/-- New settings are stored: a new fibre code recomputes the fibre length, a new remeasure interval reloads the
countdown of an in-service head whose re-measure is not running (R87, R100, R102). An interval stored with its old value
is not a new one (log entry 27). -/
def State.storeSettings (s : State) (h : Head) (y : HeadSettings) : State :=
  s.modHead h fun x =>
    { x with settings := y
             fibre := x.delay.map (fibreLength y.fibreCode)
             remeasureCount :=
               if y.remeasure ≠ x.settings.remeasure ∧ x.state.inService ∧ x.markers = none then y.remeasure
               else x.remeasureCount }

/-- The running report timer is held against the maximum: where it has passed it, and has not since it last started,
REPORT_LATE is raised (R103). -/
def State.watchMaximum (s : State) (h : Head) : State :=
  match s.heads[h].reportTimer with
  | none => s
  | some start => if s.heads[h].settings.passedBy (s.reportMs start) && !s.heads[h].latePassed then s.passMaximum h else s

/-- The running report timer is held against the report lost limit (R104). -/
def State.watchLost (s : State) (h : Head) : State :=
  match s.heads[h].reportTimer with
  | none => s
  | some start => if s.heads[h].settings.lostLimit ≤ s.reportMs start then s.loseReports h else s

/-- The running light timer is held against the blip limit (R105). -/
def State.watchLight (s : State) (h : Head) : State :=
  match s.heads[h].lightTimer with
  | none => s
  | some start => if s.heads[h].settings.blipLimit ≤ s.lightMs start then s.loseLight h else s

/-- A running count or timer that already meets a new limit acts as though it had just reached it: the lock
hysteresis, the report period maximum, the report lost limit, the blip limit, in this order (R87; log entry 27). A new
maximum is one that the timer has yet to pass (R103). -/
def State.compareLimits (s : State) (h : Head) (old : HeadSettings) : State :=
  let y := s.heads[h].settings
  let t := if y.hysteresis ≠ old.hysteresis then s.completeSeek h s.timing.now else s
  let u := if y.reportMax ≠ old.reportMax then (t.modHead h fun x => { x with latePassed := false }).watchMaximum h else t
  let v := if y.lostLimit ≠ old.lostLimit then u.watchLost h else u
  if y.blipLimit ≠ old.blipLimit then v.watchLight h else v

/-- SET_HEAD_LINK (R87). -/
def serveSetHeadLink (p : Port) (f : HeadLinkFields) (s : State) : State × Answer :=
  match indexOf 16 f.head with
  | none => (s, refusal .badRequest)
  | some h =>
    if p ≠ Port.mp then (s, refusal .notPermitted)
    else
      let y := HeadLinkFields.settings f
      ((s.storeSettings h y).compareLimits h s.heads[h].settings, .reply .ok (byte1 h.val ++ y.bytes))

/-- HEAD_ENABLE (R89): from OFF into SEEK. -/
def serveHeadEnable (p : Port) (head : Byte) (s : State) : State × Answer :=
  match indexOf 16 head with
  | none => (s, refusal .badRequest)
  | some h =>
    if p ≠ Port.mp then (s, refusal .notPermitted)
    else if s.heads[h].state = .off then
      (s.modHead h fun x =>
        { x with state := .seek, lockedCount := 0, reportSeen := false, blipFrames := 0, blips := 0, lightTimer := none },
        .reply .ok [])
    else (s, .reply .ok [])

/-- HEAD_DISABLE (R89, R90). -/
def serveHeadDisable (p : Port) (head : Byte) (s : State) : State × Answer :=
  match indexOf 16 head with
  | none => (s, refusal .badRequest)
  | some h =>
    if p ≠ Port.mp then (s, refusal .notPermitted)
    else if s.heads[h].state = .off then (s, .reply .ok [])
    else (s.enterOff h, .reply .ok [])

/-! ## Meanings -/

/-- An event of the head links: none is taken while the reset is asserted (R194). -/
def headEvent (s : State) (f : State → State) : Host.Outcome State Fault Refusal :=
  .next (if s.mode = .reset then s else f s)

/-- LIGHT_LOST (R105): the light timer starts from 0 in every state except OFF. A second one while light is absent
cannot occur. -/
def execLightLost (head : Head) (moment : Nat) (s : State) : Host.Outcome State Fault Refusal :=
  headEvent s fun s =>
    let t := s.atMoment moment
    if t.heads[head].lightAbsent then t
    else
      t.modHead head fun x =>
        { x with lightAbsent := true, lightTimer := if x.state = .off then none else some t.timing.now }

/-- LIGHT_RESTORED (R105): while the light timer runs, the interval is a blip. -/
def execLightRestored (head : Head) (moment : Nat) (s : State) : Host.Outcome State Fault Refusal :=
  headEvent s fun s =>
    (s.atMoment moment).modHead head fun x =>
      if x.lightAbsent then
        { x with lightAbsent := false, lightTimer := none,
                 blips := if x.lightTimer.isSome then min 255 (x.blips + 1) else x.blips }
      else x

/-- BLIP_LIMIT_REACHED (R105): the running light timer stands at the blip limit or beyond. -/
def execBlipLimitReached (head : Head) (moment : Nat) (s : State) : Host.Outcome State Fault Refusal :=
  headEvent s fun s => (s.atMoment moment).watchLight head

/-- LOCK_FOUND (R91, R92). -/
def execLockFound (head : Head) (s : State) : Host.Outcome State Fault Refusal :=
  headEvent s fun s => if s.heads[head].framerLock then s else s.findLock head

/-- LOCK_LOST (R91): while light is absent the framer reports none. -/
def execLockLost (head : Head) (s : State) : Host.Outcome State Fault Refusal :=
  headEvent s fun s => if s.heads[head].lightAbsent then s else s.loseLock head

/-- HEAD_REPORT (R93 to R95, R103): a report whose integrity check fails, or that is not accepted in the head's
state, is discarded. Its contents are taken before its arrival is judged, an order that R93 leaves open (log entry 36). -/
def execHeadReport (head : Head) (moment : Nat) (report : HeadReport) (intact : Bool) (s : State) :
    Host.Outcome State Fault Refusal :=
  headEvent s fun s =>
    let t := s.atMoment moment
    if intact && t.heads[head].acceptsReport then
      ((t.takeCapability head report).takeReport head report).reportArrived head
    else t

/-- REPORT_LATE (R103, R104): the running report timer passes the report period maximum, once an interval. -/
def execReportLate (head : Head) (moment : Nat) (s : State) : Host.Outcome State Fault Refusal :=
  headEvent s fun s => (s.atMoment moment).watchMaximum head

/-- REPORT_LOST_LIMIT (R104): the running report timer reaches the report lost limit. -/
def execReportLostLimit (head : Head) (moment : Nat) (s : State) : Host.Outcome State Fault Refusal :=
  headEvent s fun s => (s.atMoment moment).watchLost head

/-- MARKER_RETURN (R96). -/
def execMarkerReturn (head : Head) (sentFrame : Frame) (roundTrip : Nat) (s : State) :
    Host.Outcome State Fault Refusal :=
  headEvent s fun s => s.returnMarker head sentFrame roundTrip

end Sys2Proof.Machine
end

