-- ==== Sys2Proof/Machine/LinkTest.lean ====
section
/-!
DEFINITION. The link pattern test (Chapter 6): the pattern, the checker, the counters and the test requests.
-/

namespace Sys2Proof.Machine

/-! ## The pattern (R115) -/

/-- One step of the generator of x^15 + x^14 + 1: the last fifteen bits, the newest least significant (R115). -/
def patternStep (g : BitVec 15) : BitVec 15 := (g <<< 1) ||| BitVec.setWidth 15 (BitVec.ofBool (g.getLsbD 14 ^^ g.getLsbD 13))

/-- The next n bits of the sequence shifted into a word from the right, and the generator after them. -/
def patternBits : Nat → BitVec 15 → Word → Word × BitVec 15
  | 0, g, w => (w, g)
  | n + 1, g, w =>
    let g' := patternStep g
    patternBits n g' ((w <<< 1) ||| BitVec.setWidth 32 (BitVec.ofBool (g'.getLsbD 0)))

/-- The next 32 bits of the sequence, the first most significant, and the generator after them (R115). -/
def patternWord (g : BitVec 15) : Word × BitVec 15 := patternBits 32 g 0

/-- The next n words of the sequence in unit order, and the generator after them (R115). -/
def patternWords : Nat → BitVec 15 → List Word × BitVec 15
  | 0, g => ([], g)
  | n + 1, g =>
    let w := patternWord g
    let rest := patternWords n w.2
    (w.1 :: rest.1, rest.2)

/-- A word of the pattern as it is sent, its four parity bits set to match (R115). -/
def testWord (w : Word) : TestWord := { data := w, parity := parityBits w }

/-! ## The checker (R116, R117, R118) -/

/-- A returned word is clean: the reference is loaded, all bits equal its prediction, all four parity bits are correct
(R116). -/
def TestState.clean (x : TestState) (w : Word) (parity : BitVec 4) : Bool :=
  !parityFails w parity &&
    match x.reference with
    | none => false
    | some g => decide ((patternWord g).1 = w)

/-- The reference after a word: in SEARCH an errored word reloads it from its last fifteen bits, otherwise it
advances by 32 bits (R116). -/
def TestState.nextReference (x : TestState) (w : Word) (clean : Bool) : Option (BitVec 15) :=
  if !x.locked && !clean then some (w.setWidth 15) else x.reference.map fun g => (patternWord g).2

/-- Counting a word checked in LOCKED while counting stopped is no, and what a counter at its maximum does (R118). -/
def TestState.countWord (x : TestState) (errored : Bool) : TestState :=
  if x.stopped then x
  else
    let checked := x.checked + 1
    let bad := min 65535 (x.errored + if errored then 1 else 0)
    match x.mode with
    | .single =>
      { x with checked := checked, errored := bad, stopped := decide (4294967295 ≤ checked) || decide (65535 ≤ bad) }
    | .continuous =>
      if 4294967295 ≤ checked then { x with checked := 0, errored := 0, wraps := min 255 (x.wraps + 1) }
      else { x with checked := checked, errored := bad }

/-- The lock history with one more outcome, the oldest dropped when 64 are held (R117). -/
def appendHistory (l : List Bool) (errored : Bool) : List Bool := if l.length < 64 then l ++ [errored] else l.drop 1 ++ [errored]

/-- One returned word is checked (R116, R117, R118). -/
def TestState.checkWord (x : TestState) (w : Word) (parity : BitVec 4) : TestState :=
  let clean := x.clean w parity
  let next := x.nextReference w clean
  if x.locked then
    let y := x.countWord (!clean)
    let history := appendHistory x.history (!clean)
    if 16 ≤ history.countP id then { y with reference := next, locked := false, cleanRun := 0, history := [] }
    else { y with reference := next, history := history }
  else if clean then
    if 64 ≤ x.cleanRun + 1 then { x with reference := next, locked := true, cleanRun := 64, history := [] }
    else { x with reference := next, cleanRun := x.cleanRun + 1 }
  else { x with reference := next, cleanRun := 0 }

/-- Counters cleared by a TEST_START or a snapshot with clear (R114, R119). -/
def TestState.clearCounters (x : TestState) : TestState := { x with checked := 0, errored := 0, wraps := 0, stopped := false }

/-! ## Requests of the owner -/

/-- The count mode encoding (R183). -/
def countModeOf (b : Byte) : Option CountMode :=
  match b.toNat with
  | 0 => some .single
  | 1 => some .continuous
  | _ => none

def CountMode.code : CountMode → Nat
  | .single => 0
  | .continuous => 1

/-- A snapshot as bytes, its fields in R119's order. -/
def TestRecord.bytes (x : TestRecord) : List Byte :=
  byte4 x.frame.toNat ++ byte1 x.mode.code ++ byteFlag x.locked ++ byte4 x.checked ++ byte2 x.errored ++ byte1 x.wraps ++
    byteFlag x.stopped

/-- The entry of R111 into TEST, for a head in any state but OFF and TEST. -/
def State.enterTest (s : State) (h : Head) : State :=
  let t := s.modHead h fun x => { x with reportTimer := none, attempt := 0, degradedCount := 0, holdOffCount := 0 }
  t.leaveFor h .test

/-- The test state as a TEST_START leaves it: steps 1 to 4 (R114). -/
def TestState.started (m : CountMode) : TestState := { TestState.reset with mode := m }

/-- TEST_START (R111, R114). -/
def serveTestStart (p : Port) (head mode : Byte) (s : State) : State × Answer :=
  match indexOf 16 head, countModeOf mode with
  | some h, some m =>
    if p ≠ Port.mp then (s, refusal .notPermitted)
    else if s.heads[h].state = .off then (s, refusal .headState)
    else
      let t := s.modTest h fun _ => TestState.started m
      (if s.heads[h].state = .test then t else t.enterTest h, .reply .ok (byte1 h.val ++ byte1 m.code))
  | _, _ => (s, refusal .badRequest)

/-- The snapshot that the live test state gives (R119). -/
def State.takeSnapshot (s : State) (h : Head) : TestRecord :=
  let x := s.heads[h].test
  { frame := s.frame, mode := x.mode, locked := x.locked, checked := x.checked, errored := x.errored, wraps := x.wraps,
    stopped := x.stopped }

/-- TEST_SNAPSHOT (R119). -/
def serveTestSnapshot (p : Port) (head clear : Byte) (s : State) : State × Answer :=
  match indexOf 16 head, flagOf clear with
  | some h, some c =>
    if p ≠ Port.mp then (s, refusal .notPermitted)
    else if s.heads[h].state ≠ .test then (s, refusal .headState)
    else
      let r := s.takeSnapshot h
      (s.modTest h fun x => { (if c then x.clearCounters else x) with snapshot := some r }, .reply .ok r.bytes)
  | _, _ => (s, refusal .badRequest)

/-- The live checker state: 0 SEARCH or 1 LOCKED in TEST, 2 NONE in every other state (R120, log entry 10). -/
def HeadLink.liveChecker (x : HeadLink) : Nat := if x.state = .test then if x.test.locked then 1 else 0 else 2

/-- TEST_READ (R120). Where no snapshot is held, its indication is one byte 0, and no bytes stand for the snapshot (log
entry 10). -/
def serveTestRead (p : Port) (head : Byte) (s : State) : State × Answer :=
  match indexOf 16 head with
  | none => (s, refusal .badRequest)
  | some h =>
    if p ≠ Port.mp then (s, refusal .notPermitted)
    else
      let snapshot := match s.heads[h].test.snapshot with
        | none => byteFlag false
        | some r => byteFlag true ++ r.bytes
      (s, .reply .ok (snapshot ++ byte1 s.heads[h].liveChecker))

/-- TEST_STOP (R111, R121). -/
def serveTestStop (p : Port) (head : Byte) (s : State) : State × Answer :=
  match indexOf 16 head with
  | none => (s, refusal .badRequest)
  | some h =>
    if p ≠ Port.mp then (s, refusal .notPermitted)
    else if s.heads[h].state ≠ .test then (s, refusal .headState)
    else
      (s.modHead h fun x =>
        { x with state := .seek, lockedCount := 0, reportSeen := false,
                 test := { TestState.reset with mode := x.test.mode, snapshot := x.test.snapshot } },
        .reply .ok [])

/-! ## Meanings -/

/-- TEST_WORD_RETURNED (R115, R116): a word is checked in TEST; none arrives while light is absent or the framer
holds no lock. -/
def execTestWordReturned (head : Head) (word : Word) (parity : BitVec 4) (s : State) : Host.Outcome State Fault Refusal :=
  headEvent s fun s =>
    let x := s.heads[head]
    if x.state = .test ∧ x.framerLock ∧ !x.lightAbsent then s.modTest head fun y => y.checkWord word parity else s

end Sys2Proof.Machine
end

