-- ==== Sys2Proof/Machine/Alarms.lean ====
section
/-!
DEFINITION. The requests of the alarm log and of the inboxes (Chapter 9). Raising and clearing stand in
Machine/Ops.lean.
-/

namespace Sys2Proof.Machine

/-! ## Summary (R170) -/

/-- A subject as bytes: its type, the carrier or link number, the head number, as R183 lays them out in the ALARM_READ
reply. That a summary's entries give their subjects alike is the model's choice (log entry 10). -/
def Subject.bytes : Subject → List Byte
  | .head h => byte1 0 ++ byte1 255 ++ byte1 h.val
  | .carrier c => byte1 1 ++ byte1 c.val ++ byte1 255
  | .carrierHead c h => byte1 2 ++ byte1 c.val ++ byte1 h.val
  | .link l => byte1 3 ++ byte1 l.val ++ byte1 255

/-- One more record slot in a summary's order: oldest last-change frame first, then ascending slot (R170). -/
def State.insertByAge (s : State) (x : Fin 64 × AlarmRecord) : List (Fin 64 × AlarmRecord) → List (Fin 64 × AlarmRecord)
  | [] => [x]
  | y :: rest =>
    if s.elapsed y.2.lastChange < s.elapsed x.2.lastChange ∨
        (s.elapsed y.2.lastChange = s.elapsed x.2.lastChange ∧ x.1 < y.1) then x :: y :: rest
    else y :: s.insertByAge x rest

/-- The records pending for a reader, in a summary's order (R170). -/
def State.pendingRecords (s : State) (p : Port) : List (Fin 64 × AlarmRecord) :=
  allRecordSlots.foldl
    (fun l i =>
      match s.log.slots[i] with
      | none => l
      | some r => if r.pendingFor p then s.insertByAge (i, r) l else l)
    []

/-- The entries of a summary: at most 16 (R170). -/
def State.summaryEntries (s : State) (p : Port) : List (Fin 64 × AlarmRecord) := (s.pendingRecords p).take 16

/-- One entry of a summary as bytes: slot, kind, subject, state (R170). The subject's three bytes and the state's one (0
ACTIVE, 1 CLEARED) are the model's choice (log entry 10). -/
def summaryEntry (x : Fin 64 × AlarmRecord) : List Byte :=
  byte1 x.1.val ++ byte1 x.2.kind.number.val ++ x.2.subject.bytes ++ byteFlag (!x.2.active)

/-- A record becomes seen for a reader. -/
def AlarmRecord.seeFor (r : AlarmRecord) (p : Port) : AlarmRecord :=
  { r with notices := r.notices.set p { r.notices[p] with seen := true } }

/-- The log after a reader's summary: the listed records are seen, its EVICTED flag is cleared, and for MP the
dropped-raise count is 0 (R170). -/
def State.summarised (s : State) (p : Port) : AlarmLog :=
  let listed := (s.summaryEntries p).map (·.1)
  { s.log with
    slots := Vector.ofFn fun i => if listed.contains i then (s.log.slots[i]).map fun r => r.seeFor p else s.log.slots[i]
    evicted := s.log.evicted.set p false
    dropped := if p = Port.mp then 0 else s.log.dropped }

/-- The contents of an ALARM_SUMMARY reply (R170). -/
def State.summaryBytes (s : State) (p : Port) : List Byte :=
  byteList summaryEntry (s.summaryEntries p) ++ byteFlag (decide (16 < (s.pendingRecords p).length)) ++
    byteFlag s.log.evicted[p] ++
    (if p = Port.mp then byte1 s.log.dropped ++ byteFlag s.log.full else [])

/-- ALARM_SUMMARY (R170). -/
def serveAlarmSummary (p : Port) (s : State) : State × Answer := (s.setLog (s.summarised p), .segmented (s.summaryBytes p))

/-! ## Read and mask (R171, R173) -/

/-- A notice as a byte: bit 0 pending, bit 1 seen (R183). -/
def Notice.byte (n : Notice) : List Byte := byte1 ((if n.pending then 1 else 0) + if n.seen then 2 else 0)

/-- The contents of an ALARM_READ reply after its status byte, in the layout of R183. -/
def AlarmRecord.bytes (r : AlarmRecord) (i : Fin 64) (p : Port) : List Byte :=
  byte1 i.val ++ byte1 r.kind.number.val ++ r.subject.bytes ++
    byte1 ((if r.kind.isEvent then 1 else 0) + (if r.active then 0 else 2) + if r.clearFrame.isSome then 4 else 0) ++
    byte4 r.firstFrame.toNat ++ byte4 r.lastFrame.toNat ++ byte4 (r.clearFrame.getD 0).toNat ++ byte1 r.count ++
    byte4 r.detail.toNat ++ r.notices[p].byte ++
    (if p = Port.mp then
      byte1 ((allPorts.map fun q => if r.audience[q] then 2 ^ q.val else 0).sum) ++
        (r.notices.toList.map Notice.byte).flatten
    else [])

/-- The record after a read by a reader: pending falls where the record was seen (R171). -/
def AlarmRecord.readBy (r : AlarmRecord) (p : Port) : AlarmRecord :=
  if r.notices[p].seen then { r with notices := r.notices.set p { r.notices[p] with pending := false } } else r

/-- ALARM_READ (R171). -/
def serveAlarmRead (p : Port) (slot : Byte) (s : State) : State × Answer :=
  match indexOf 64 slot with
  | none => (s, refusal .badRequest)
  | some i =>
    match s.log.slots[i] with
    | none => (s, refusal .noRecord)
    | some r =>
      if r.audience[p] then (s.withLog (s.log.put i (r.readBy p)), .reply .ok (r.bytes i p)) else (s, refusal .noRecord)

/-- ALARM_MASK (R173): a mask that takes an operator's composite from false to true brings ATTENTION (R175). -/
def serveAlarmMask (p : Port) (enables : Half) (s : State) : State × Answer :=
  (s.withLog { s.log with masks := s.log.masks.set p enables }, .reply .ok (byte2 enables.toNat))

/-! ## Inboxes (R176 to R178) -/

/-- MAIL: the sender and the payload length (R178, R188). The sender is a byte 0 to 3 for OL0 to OL3 and 4 for MP, as R183
numbers the destination of a POST: the model's choice (log entry 10). -/
def mailMessage (x : Mail) : Message := mkMessage 99 (byte1 x.sender.val ++ byte1 x.payload.length)

/-- An operator posts to MP, or MP posts to an operator (R176). -/
def postPermitted (p destination : Port) : Bool := decide (p = Port.mp) != decide (destination = Port.mp)

/-- POST (R176, R178). -/
def servePost (p : Port) (destination : Byte) (payload : List Byte) (s : State) : State × Answer :=
  match (if 1 ≤ payload.length ∧ payload.length ≤ 48 then indexOf 5 destination else none) with
  | none => (s, refusal .badRequest)
  | some d =>
    if !postPermitted p d then (s, refusal .notPermitted)
    else if s.inboxes[d].isSome then (s, refusal .inboxFull)
    else
      let x : Mail := { sender := p, payload := payload }
      let t := s.setInbox d (some x)
      (if d = Port.mp then t else t.sendUnsolicited d (mailMessage x), .reply .ok [])

/-- TAKE (R177): the sender, numbered as in a POST's destination, and the payload with no length ahead of it, both the
model's choice (log entry 10). -/
def serveTake (p : Port) (s : State) : State × Answer :=
  match s.inboxes[p] with
  | none => (s, refusal .inboxEmpty)
  | some x => (s.setInbox p none, .reply .ok (byte1 x.sender.val ++ x.payload))

end Sys2Proof.Machine
end

