-- ==== Sys2Proof/Machine/Switch.lean ====
section
/-!
DEFINITION. The sample switch (Chapter 4) and the anchor path (11.3): sample arithmetic, the sample period, slips,
the alignment offsets, the energy meters, the noise guard, the saturation monitors and its requests.
-/

namespace Sys2Proof.Machine

/-! ## Sample arithmetic (R67, R76, R196) -/

/-- The amplitude factors A[0] to A[31]: 65536 × 10^(−k/40) to the nearest integer (R67). -/
def amplitudeFactors : List Nat :=
  [65536, 61870, 58409, 55142, 52057, 49145, 46396, 43801, 41350, 39037, 36854, 34792, 32846, 31008, 29274, 27636,
   26090, 24631, 23253, 21952, 20724, 19565, 18471, 17437, 16462, 15541, 14672, 13851, 13076, 12345, 11654, 11002]

/-- A[k] (R67). -/
def amplitudeFactor (k : Fin 32) : Nat := amplitudeFactors.getD k.val 0

/-- Saturation to −32768 to 32767 (R67, R76). -/
def saturate (y : Int) : Int := max (-32768) (min 32767 y)

/-- A component scaled by a step: the product rounded half up, then saturated (R67). -/
def scaleComponent (x : BitVec 16) (k : Fin 32) : BitVec 16 :=
  BitVec.ofInt 16 (saturate ((x.toInt * amplitudeFactor k + 32768) / 65536))

/-- A sample scaled by a step (R67). -/
def Sample.scale (x : Sample) (k : Fin 32) : Sample := { i := scaleComponent x.i k, q := scaleComponent x.q k }

/-- The sum of components times gains divided by 64 × 2^s, rounded half up: the combiner's output before
saturation (R76). -/
def combineRaw (terms : List (BitVec 16 × Nat)) (s : Nat) : Int :=
  ((terms.map fun t => t.1.toInt * (t.2 : Int)).sum + (2 : Int) ^ (5 + s)) / (2 : Int) ^ (6 + s)

/-- A combined component (R76). -/
def combineComponent (terms : List (BitVec 16 × Nat)) (s : Nat) : BitVec 16 := BitVec.ofInt 16 (saturate (combineRaw terms s))

/-- 1 where step 3 of R76 saturates the component (R77). -/
def saturated (terms : List (BitVec 16 × Nat)) (s : Nat) : Nat :=
  if saturate (combineRaw terms s) = combineRaw terms s then 0 else 1

/-- A combined sample (R76). -/
def combineSample (terms : List (Sample × Nat)) (s : Nat) : Sample :=
  { i := combineComponent (terms.map fun t => (t.1.i, t.2)) s, q := combineComponent (terms.map fun t => (t.1.q, t.2)) s }

/-- The components of a combined sample that saturate: 0, 1 or 2 (R77). -/
def sampleSaturations (terms : List (Sample × Nat)) (s : Nat) : Nat :=
  saturated (terms.map fun t => (t.1.i, t.2)) s + saturated (terms.map fun t => (t.1.q, t.2)) s

/-- The energy I² + Q² of a sample (R78). -/
def Sample.energy (x : Sample) : Nat := x.i.toInt.natAbs * x.i.toInt.natAbs + x.q.toInt.natAbs * x.q.toInt.natAbs

/-! ## Elastic buffers and slips (R70 to R73) -/

/-- The fill is near empty or near full (R70). -/
def UplinkHead.nearEnd (x : UplinkHead) : Bool :=
  decide (x.groups.length ≤ x.almostEmpty) || decide (Config.bufferDepth - x.almostFull ≤ x.groups.length)

/-- A buffer's groups re-centred to 32: near full the oldest are discarded, near empty the oldest is repeated ahead
of itself, an empty one is filled with zeros (R73). -/
def recentre (groups : List Group) : List Group :=
  if Config.bufferCentre ≤ groups.length then groups.drop (groups.length - Config.bufferCentre)
  else
    match groups with
    | [] => List.replicate Config.bufferCentre zeroGroup
    | g :: _ => List.replicate (Config.bufferCentre - groups.length) g ++ groups

/-- A slip occurs where a RUNNING buffer is near empty or near full: it is re-centred, the slip gate is closed and
BUFFER_SLIP is raised with the fill (R73, R74). -/
def State.slipCheck (s : State) (h : Head) : State :=
  let x := s.uplinks[h]
  if x.running && x.nearEnd then
    (s.modUplink h fun y => { y with groups := recentre y.groups, slipGate := 2 }).raise .bufferSlip (.head h) x.groups.length
  else s

/-- A complete group is appended to a RUNNING buffer, or discarded from a full one; the fill is then checked
(R71, R72, R73). -/
def State.appendGroup (s : State) (h : Head) (g : Group) : State :=
  if s.uplinks[h].running then
    (s.modUplink h fun x =>
      { x with groups := if x.groups.length < Config.bufferDepth then x.groups ++ [g] else x.groups }).slipCheck h
  else s

/-- The read of a sample period takes the oldest group out of a RUNNING buffer; the fill is then checked (R72, R73). -/
def State.readGroup (s : State) (h : Head) : State :=
  if s.uplinks[h].running then (s.modUplink h fun x => { x with groups := x.groups.drop 1 }).slipCheck h else s

/-- The group that a sample period reads from a head: the oldest, zeros from a RUNNING buffer that is empty, none
from a STOPPED one (R71, R72). -/
def UplinkHead.oldest (x : UplinkHead) : Option Group := if x.running then some (x.groups.headD zeroGroup) else none

/-! ## The sample period (R64 to R69, R75 to R78, R196) -/

/-- The samples of a group on a placement's units, in unit order (R64). -/
def groupSamples (g : Group) (first units : Nat) : List Sample := (g.toList.drop first).take units

/-- The samples of a placement in the group that a period reads; zeros where nothing is read (R64, R72). -/
def State.uplinkSet (s : State) (p : Placement) : List Sample :=
  match s.uplinks[p.head].oldest with
  | none => List.replicate p.units zeroSample
  | some g => groupSamples g p.first.val p.units

/-- The samples of a carrier's stream that are copied for a placement in a period: none are copied unless it is
RADIATING (R66). -/
def State.downlinkSet (s : State) (streams : Streams) (p : Placement) : List Sample :=
  if s.downlinkState p = .radiating then streams[p.carrier].toList.take p.units else List.replicate p.units zeroSample

/-- What leaves a line of held sets when a set enters it: the oldest set held, or the entering one (R69). -/
def lineOut (line : List (List Sample)) (new : List Sample) : List Sample :=
  match line with
  | [] => new
  | x :: _ => x

/-- The line after a set has entered it and one has left (R69). -/
def lineNext (line : List (List Sample)) (new : List Sample) : List (List Sample) :=
  match line with
  | [] => []
  | _ :: rest => rest ++ [new]

/-- What a placement emits in a period: its delayed copy, scaled by the attenuation in use, in RADIATING alone
(R65, R66, R67, R69). -/
def State.emission (s : State) (streams : Streams) (p : Placement) : List Sample :=
  if s.downlinkState p = .radiating then
    (lineOut p.downHeld (s.downlinkSet streams p)).map fun x => Sample.scale x p.inUse
  else List.replicate p.units zeroSample

/-- The samples that a placement's head contributes in a period, taken at its alignment offset (R69, R76). -/
def State.alignedSet (s : State) (p : Placement) : List Sample := lineOut p.upHeld (s.uplinkSet p)

/-- The contributions to sample j of a carrier in a period: each contributing head's sample and gain (R75, R76). -/
def State.contributions (s : State) (c : Carrier) (j : Nat) : List (Sample × Nat) :=
  ((s.placementsOf c).filter s.contributes).map fun p =>
    ((s.alignedSet p).getD j zeroSample, s.uplinks[p.head].gain)

/-- The combined samples of a carrier in a period (R64, R76). -/
def State.combined (s : State) (c : Carrier) : List Sample :=
  (List.range s.carriers[c].width.units).map fun j => combineSample (s.contributions c j) s.carriers[c].shift

/-- The saturated components of a carrier in a period (R77). -/
def State.saturations (s : State) (c : Carrier) : Nat :=
  ((List.range s.carriers[c].width.units).map fun j => sampleSaturations (s.contributions c j) s.carriers[c].shift).sum

/-- The anchor sum's contributions: U0 of every head that is in service, unmuted, with open slip gate, at gain 64
(R196). -/
def State.anchorContributions (s : State) : List (Sample × Nat) :=
  (allHeads.filter s.headGateOpen).map fun h => ((s.uplinks[h].oldest.getD zeroGroup)[0], 64)

/-- The anchor sample of the uplink: shift 4 (R196). -/
def State.anchorUplink (s : State) : Sample := combineSample s.anchorContributions 4

/-- The anchor sample of the downlink: C0's sample at step 20, zero while OL0 is DOWN (R196). -/
def State.anchorDownlink (s : State) (streams : Streams) : Sample :=
  if s.linkUp 0 then Sample.scale (streams[(0 : Carrier)][0]) 20 else zeroSample

/-- The samples that the switch sends on a head's eight units (R65, R66, R196). -/
def State.laneSamples (s : State) (streams : Streams) (h : Head) : List Sample :=
  match s.mode with
  | .run =>
    (List.finRange 8).map fun u =>
      match (s.placementsOn h).find? fun p => decide (p.first.val ≤ u.val) && decide (u.val < p.first.val + p.units) with
      | none => zeroSample
      | some p => (s.emission streams p).getD (u.val - p.first.val) zeroSample
  | .hold => s.anchorDownlink streams :: List.replicate 7 zeroSample
  | .reset => List.replicate 8 zeroSample

/-- What a head link carries in a period, by its link state (R65, R88, R115). -/
def State.transmission (s : State) (streams : Streams) (h : Head) : HeadTransmission :=
  match s.heads[h].state with
  | .off => .dark
  | .seek => .lanes (List.replicate 8 zeroSample)
  | .measure => .lanes (List.replicate 8 zeroSample)
  | .failed => .lanes (List.replicate 8 zeroSample)
  | .up => .lanes (s.laneSamples streams h)
  | .degraded => .lanes (s.laneSamples streams h)
  | .test => .loopback ((patternWords 8 s.heads[h].test.pattern).1.map testWord)

/-- What an operator link carries of a carrier in a period: nothing while it is DOWN (R3, R76, R196). -/
def State.uplinkStream (s : State) (c : Carrier) : List Sample :=
  if !s.linkUp c.owner then []
  else
    match s.mode with
    | .run => s.combined c
    | .hold => if c = 0 then [s.anchorUplink] else List.replicate s.carriers[c].width.units zeroSample
    | .reset => []

/-- A meter takes the samples of a placement that a period reads (R78). -/
def Meter.take (m : Meter) (samples : List Sample) : Meter :=
  { m with sum := m.sum + (samples.map Sample.energy).sum, count := m.count + samples.length }

/-- A placement after a period: its held lines have moved on and its meter has taken what was read (R69, R78). -/
def State.advancePlacement (s : State) (streams : Streams) (p : Placement) : Placement :=
  { p with
    downHeld := lineNext p.downHeld (s.downlinkSet streams p)
    upHeld := lineNext p.upHeld (s.uplinkSet p)
    meter := if s.uplinks[p.head].running then p.meter.take (s.uplinkSet p) else p.meter }

/-- A sample period, with every state, step, gate and setting as it stands at the period's start (R65). The buffers are
read, and slip where their fill calls for it, in ascending head order (R72, R73; log entry 36). -/
def State.samplePeriod (s : State) (streams : Streams) : State :=
  let wires := { s.wires with heads := Vector.ofFn fun h => s.transmission streams h,
                              uplink := Vector.ofFn fun c => s.uplinkStream c }
  let t := (s.setWires wires).setPlacements (s.placements.map fun p => s.advancePlacement streams p)
  let u :=
    if s.mode = .run then
      forAll allCarriers
        (fun c v => v.modMonitor c fun m => { m with count := min 65535 (m.count + s.saturations c) }) t
    else t
  let v := forAll allHeads
    (fun h w =>
      if s.heads[h].state = .test then w.modTest h fun x => { x with pattern := (patternWords 8 x.pattern).2 } else w) u
  forAll allHeads (fun h w => w.readGroup h) v

/-! ## Alignment offsets (R68, R69) -/

/-- The largest delay over a carrier's placements that are not EXCLUDED and have a known delay (R68). -/
def State.delayMax (s : State) (c : Carrier) : Nat :=
  (((s.placementsOf c).filter fun p => decide (p.exclusion = .none)).filterMap fun p => s.heads[p.head].delay).foldl max 0

/-- The alignment offset that a boundary gives a placement (R68). -/
def State.offsetOf (s : State) (p : Placement) : Nat :=
  match p.exclusion, s.heads[p.head].delay with
  | .none, some d => s.delayMax p.carrier - d
  | _, _ => 0

/-- The whole sample periods in an offset: a period is 781.25 ns and an offset counts 4 ns (R64, R69). -/
def heldPeriods (offset : Nat) : Nat := 16 * offset / 3125

/-- A line of held sets takes the length of a new offset: a shorter one drops the oldest sets, a longer one puts
sets of zeros first (R69). -/
def resizeLine (line : List (List Sample)) (n units : Nat) : List (List Sample) :=
  if n ≤ line.length then line.drop (line.length - n)
  else List.replicate (n - line.length) (List.replicate units zeroSample) ++ line

/-- A placement takes an alignment offset (R68, R69). -/
def Placement.align (p : Placement) (offset : Nat) : Placement :=
  { p with offset := offset, downHeld := resizeLine p.downHeld (heldPeriods offset) p.units,
           upHeld := resizeLine p.upHeld (heldPeriods offset) p.units }

/-- Every placement's alignment offset is recomputed at a boundary (R68). -/
def State.realign (s : State) : State := s.setPlacements (s.placements.map fun p => p.align (s.offsetOf p))

/-! ## Meters and the noise guard at a boundary (R78 to R82) -/

/-- A meter closes a frame, in which its head was in service throughout or was not: the frame is complete where it was, and
the samples are those of a whole frame (R78). -/
def Meter.close (m : Meter) (units : Nat) (served : Bool) : Meter :=
  { sum := 0, count := 0, lastMean := if m.count = 0 then 0 else m.sum / m.count,
    lastComplete := served && decide (m.count = 12800 * units) }

/-- Every placement's meter closes the frame (R78, R79). A head was in service throughout the frame that ends exactly where
its service mark is still whole: both judgements of R124 agree, and the marks are set afresh only after this. -/
def State.closeMeters (s : State) : State :=
  s.setPlacements (s.placements.map fun p => { p with meter := p.meter.close p.units s.load.heads[p.head].whole })

/-- The smallest frame mean over the placements of a head (R81). -/
def smallestMean : List Placement → Nat
  | [] => 0
  | p :: rest => rest.foldl (fun m q => min m q.meter.lastMean) p.meter.lastMean

/-- The noise guard of a head takes the results of the frame just closed; a mute or an unmute falls due (R81). -/
def State.guardBoundary (s : State) (h : Head) : State :=
  let ps := s.placementsOn h
  let x := s.uplinks[h]
  if ps.isEmpty then s.resetGuard h
  else if ps.any fun p => !p.meter.lastComplete then s
  else
    let loud := decide (x.ceiling ≤ smallestMean ps)
    if !x.muted then
      if loud then
        let n := min 1000 (x.loud + 1)
        let t := s.modUplink h fun y => { y with loud := n }
        if x.onset ≤ n then t.addDue (.mute h (smallestMean ps)) else t
      else s.modUplink h fun y => { y with loud := 0 }
    else if loud then s.modUplink h fun y => { y with quiet := 0 }
    else
      let n := min 1000 (x.quiet + 1)
      let t := s.modUplink h fun y => { y with quiet := n }
      if x.release ≤ n then t.addDue (.unmute h) else t

/-- The guard of a head mutes, where the loud run that called for it still stands (R82). -/
def State.muteHead (s : State) (h : Head) (smallest : Nat) : State :=
  if !s.uplinks[h].muted && decide (0 < s.uplinks[h].loud) then
    (s.modUplink h fun x => { x with muted := true, quiet := 0 }).raise .uplinkNoise (.head h) smallest
  else s

/-- The guard of a head unmutes, where the quiet run that called for it still stands (R82). -/
def State.unmuteHead (s : State) (h : Head) : State :=
  if s.uplinks[h].muted && decide (0 < s.uplinks[h].quiet) then
    (s.modUplink h fun x => { x with muted := false, loud := 0, quiet := 0 }).clear .uplinkNoise (.head h)
  else s

/-! ## Slip gates and the saturation window at a boundary (R74, R77) -/

/-- A slip gate counter above 0 falls by one at a boundary; from 1 the gate falls due to open (R74). -/
def State.gateBoundary (s : State) (h : Head) : State :=
  if s.uplinks[h].slipGate = 1 then s.addDue (.slipGate h)
  else s.modUplink h fun x => { x with slipGate := x.slipGate - 1 }

/-- The slip gate of a head opens (R74). -/
def State.openGate (s : State) (h : Head) : State :=
  if s.uplinks[h].slipGate = 1 then s.modUplink h fun x => { x with slipGate := 0 } else s

/-- The saturation window counts a boundary; its end falls due at 100 (R77). -/
def State.satBoundary (s : State) : State :=
  if 99 ≤ s.satFrames then s.addDue .saturationWindow else s.setSatFrames (s.satFrames + 1)

/-- A monitor's raise at the window end (R77). -/
def State.judgeMonitor (s : State) (c : Carrier) : State :=
  let m := s.monitors[c]
  if 0 < m.threshold ∧ m.threshold ≤ m.count then s.raise .uplinkSaturation (.carrier c) m.count else s

/-- The saturation window ends, where its frame count stands at 99; the monitors raise in ascending carrier order (R77;
log entry 36). -/
def State.endSatWindow (s : State) : State :=
  if s.satFrames = 99 then
    (forAll allCarriers (fun c t => t.modMonitor c fun m => { m with last := m.count, count := 0 })
      (forAll allCarriers (fun c t => t.judgeMonitor c) s)).setSatFrames 0
  else s

/-! ## Requests of the owner -/

/-- SET_UPLINK (R83). -/
def serveSetUplink (p : Port) (f : UplinkFields) (s : State) : State × Answer :=
  match indexOf 16 f.head with
  | none => (s, refusal .badRequest)
  | some h =>
    if p ≠ Port.mp then (s, refusal .notPermitted)
    else
      let gain := min 255 f.gain.toNat
      let q := clamp 1 31 f.almostEmpty.toNat
      let pf := clamp 1 31 f.almostFull.toNat
      let onset := clamp 1 1000 f.onset.toNat
      let release := clamp 1 1000 f.release.toNat
      ((s.modUplink h fun x =>
          { x with gain := gain, almostEmpty := q, almostFull := pf, ceiling := f.ceiling.toNat, onset := onset,
                   release := release }).slipCheck h,
        .reply .ok (byte1 h.val ++ byte1 gain ++ byte1 q ++ byte1 pf ++ byte4 f.ceiling.toNat ++ byte2 onset ++ byte2 release))

/-- SET_SATURATION (R84). -/
def serveSetSaturation (p : Port) (carrier : Byte) (threshold : Half) (s : State) : State × Answer :=
  match indexOf 16 carrier with
  | none => (s, refusal .badRequest)
  | some c =>
    if p ≠ Port.mp then (s, refusal .notPermitted)
    else
      let n := min 65535 threshold.toNat
      (s.modMonitor c fun m => { m with threshold := n }, .reply .ok (byte1 c.val ++ byte2 n))

/-! ## Meanings -/

/-- The check errors of a group: its lane words of which some byte fails its parity (R107). -/
def parityErrors (words : Vector LaneWord 8) : Nat := words.toList.countP fun w => parityFails w.sample.word w.parity

/-- UPLINK_GROUP_COMPLETE (R71, R72, R107): on an in-service head the words are checked and the group is appended
to its buffer. -/
def execUplinkGroupComplete (head : Head) (words : Vector LaneWord 8) (s : State) : Host.Outcome State Fault Refusal :=
  headEvent s fun s =>
    let t :=
      if s.inService head then s.modHead head fun x => { x with errors := min 10240000 (x.errors + parityErrors words) } else s
    t.appendGroup head (Vector.ofFn fun i => words[i].sample)

end Sys2Proof.Machine
end

