-- ==== Sys2Proof/Machine/StatusReply.lean ====
section
/-!
DEFINITION. STATUS (R190): the replies for a carrier, a head and the device, with what they withhold from operator
links. The byte layout of what R183 gives no table for follows log entry 10.
-/

namespace Sys2Proof.Machine

/-- A number as three bytes (R183). -/
def byte3 (n : Nat) : List Byte := [BitVec.ofNat 8 (n / 65536), BitVec.ofNat 8 (n / 256), BitVec.ofNat 8 n]

/-- An operator link may see a carrier's entries when it owns the carrier; MP may see all (R24, R43). -/
def sees (p : Port) (c : Carrier) : Bool :=
  match Port.link? p with
  | none => true
  | some l => decide (Carrier.owner c = l)

/-! ## Enumerated reply fields, in the order their rules list them -/

def Exclusion.code : Exclusion → Nat
  | .none => 0
  | .incapable => 1
  | .window => 2

def PowerOutcome.code : PowerOutcome → Nat
  | .none => 0
  | .starved => 1
  | .radiating => 2

def DownlinkState.code : DownlinkState → Nat
  | .excluded => 0
  | .held => 1
  | .headOut => 2
  | .idle => 3
  | .new => 4
  | .starved => 5
  | .radiating => 6

def LinkState.code : LinkState → Nat
  | .off => 0
  | .seek => 1
  | .measure => 2
  | .up => 3
  | .degraded => 4
  | .failed => 5
  | .test => 6

def Capability.code : Capability → Nat
  | .no => 0
  | .yes => 1
  | .unknown => 2

def Mode.code : Mode → Nat
  | .reset => 0
  | .hold => 1
  | .run => 2

def TimingState.code : TimingState → Nat
  | .locked => 0
  | .held => 1

def LinkCause.code : LinkCause → Nat
  | .framing => 1
  | .alignment => 2

/-! ## Placements -/

/-- A placement as bytes: the fields of R28, whose last is the alignment offset that R85 lists too, then the installed
basis (R63) and the rest of the sample switch's fields (R85). That the fields of several rules stand in one place, and in this order, is
log entry 31. -/
def State.placementBytes (s : State) (p : Placement) : List Byte :=
  byte1 p.head.val ++ byte1 p.carrier.val ++ byte1 p.first.val ++ byte1 p.units ++ byte1 p.exclusion.code ++
    byte1 p.outcome.code ++ byte1 (s.downlinkState p).code ++ byte2 p.grant ++ byte1 p.step.val ++ byte2 p.offset ++
    byteOption byte2 p.basis ++ byte1 p.inUse.val ++ byte4 p.meter.lastMean ++ byteFlag p.meter.lastComplete

/-- A placement in the reply for its head: to the other operators it is occupied and nothing more (R43). -/
def State.placementFor (s : State) (port : Port) (p : Placement) : List Byte :=
  if sees port p.carrier then byte1 0 ++ s.placementBytes p else byte1 255

/-! ## Carrier (R24, R63, R85) -/

def Reservation.bytes (r : Reservation) : List Byte := byte1 r.head.val ++ byte1 r.first.val

def sectorBytes (l : List Sector) : List Byte := byteList (fun x => byte1 x.val) l

/-- The contents of the STATUS reply for a carrier: R24's, then the sample switch's (R85), an order that is log entry 31's. -/
def State.carrierStatus (s : State) (c : Carrier) : List Byte :=
  let r := s.carriers[c]
  let m := s.monitors[c]
  byte1 c.val ++ byteFlag r.declared ++ byte1 r.width.code ++ byte2 r.power ++ byte1 r.shift ++ sectorBytes r.active ++
    (match r.pending with
      | none => byteFlag false
      | some b => byteFlag true ++ sectorBytes b.sectors ++ byteList Reservation.bytes b.reserved) ++
    byteFlag r.orphan ++ byteList (fun h => byte1 (Fin.val h)) (s.headSet c) ++
    byteList s.placementBytes (s.placementsOf c) ++
    byte2 m.count ++ byte2 m.last ++ byte2 m.threshold ++ byte1 s.satFrames

/-! ## Head (R43, R63, R85, R112, R138) -/

/-- One lane table entry for a port: FREE, owned or RESERVED with the carrier, or occupied by another operator's
carrier (R43). Two bytes in every case, the second 255 where no carrier is given: log entry 31. -/
def LaneUnit.bytesFor (x : LaneUnit) (port : Port) : List Byte :=
  match x with
  | .free => byte1 0 ++ byte1 255
  | .owned c => if sees port c then byte1 1 ++ byte1 c.val else byte1 3 ++ byte1 255
  | .reserved c => if sees port c then byte1 2 ++ byte1 c.val else byte1 3 ++ byte1 255

/-- The last report as bytes, or its absence: derate, PA-off flag, and the alarm bits over-temperature, supply and PA fault
in bits 0 to 2 (R86; log entry 10). -/
def reportBytes : Option ReportRecord → List Byte
  | none => byteFlag false ++ byte1 0 ++ byteFlag false ++ byte1 0
  | some r =>
    byteFlag true ++ byte1 r.derate ++ byteFlag r.paOff ++
      byte1 ((if r.overTemp then 1 else 0) + (if r.supply then 2 else 0) + if r.paFault then 4 else 0)

/-- What STATUS reads of the report timer: its value while it runs, a free value while it is stopped (log entry 5). -/
def State.reportTimerValue (s : State) (h : Head) : Nat :=
  match s.heads[h].reportTimer with
  | some start => s.reportMs start
  | none => (Config.stoppedReportTimer h.val).toNat

/-- The markers returned in a running attempt (R112): their number, without their round trips, which is the model's choice
(log entry 10). -/
def HeadLink.markersReturned (x : HeadLink) : Nat :=
  match x.markers with
  | none => 0
  | some ms => ms.countP fun m => m.roundTrip.isSome

/-- The head link part, the same for every port (R112). -/
def State.headLinkStatus (s : State) (h : Head) : List Byte :=
  let x := s.heads[h]
  byte1 x.state.code ++ byte1 x.capability.code ++ byteOption byte2 x.latency ++ byteOption byte2 x.delay ++
    byteOption byte2 x.fibre ++ reportBytes x.report ++ byte1 x.lockedCount ++ byteFlag x.reportSeen ++
    byte1 x.attempt ++ byte1 x.markersReturned ++ byte2 x.remeasureCount ++ byte2 (s.reportTimerValue h) ++
    byteFlag x.reportTimer.isSome ++ byte1 x.blipFrames ++ byte1 x.blips ++ byte1 x.errorFrames ++ byte3 x.errors ++
    byte1 x.degradedCount ++ byte2 x.holdOffCount ++ x.settings.bytes

/-- The power sharing part (R63). -/
def State.powerStatus (s : State) (port : Port) (h : Head) : List Byte :=
  let x := s.power[h]
  let sum := ((s.placementsOn h).map (·.grant)).sum
  if port = Port.mp then
    byte2 x.nominal ++ byte2 x.effective ++ byte1 x.snapDerate ++ byteFlag x.snapPaOff ++ byteFlag x.running.isSome ++
      byteFlag x.again ++ byte2 sum ++ (s.weights.toList.map byte1).flatten
  else byte2 x.nominal ++ byte2 x.effective ++ byte2 sum

/-- The sample switch's part for a head (R85). -/
def State.switchStatus (s : State) (h : Head) : List Byte :=
  let x := s.uplinks[h]
  byteFlag x.running ++ byte1 x.groups.length ++ byte1 x.slipGate ++ byteFlag x.muted ++ byte2 x.loud ++ byte2 x.quiet ++
    byte1 x.gain ++ byte1 x.almostEmpty ++ byte1 x.almostFull ++ byte4 x.ceiling ++ byte2 x.onset ++ byte2 x.release

/-- The load monitor's part for a head (R138). -/
def State.loadStatus (s : State) (h : Head) : List Byte :=
  let x := s.load.heads[h]
  byte4 x.activity ++ byte2 x.present ++ byte2 x.busy ++ byteFlag x.whole ++
    (match s.load.published with
      | none => byteFlag false ++ byte1 0 ++ byteFlag false
      | some r => byteFlag true ++ byte1 r.heads[h].load ++ byteFlag r.heads[h].measured)

/-- The contents of the STATUS reply for a head. Where the parts of several rules stand is the model's choice (log entry 31):
the head link part (R112), the sector, the lane table and the placements (R43), each placement once with all that R28, R63
and R85 list of it, then the parts of the power sharing unit (R63), the sample switch (R85) and the load monitor (R138). -/
def State.headStatus (s : State) (port : Port) (h : Head) : List Byte :=
  s.headLinkStatus h ++
    byte1 (match s.sectorMap[h] with
      | none => 255
      | some x => x.val) ++
    (s.lanes[h].toList.map fun x => x.bytesFor port).flatten ++
    byteList (s.placementFor port) (s.placementsOn h) ++ s.powerStatus port h ++ s.switchStatus h ++ s.loadStatus h

/-! ## Device (R190) -/

/-- A link's state and the cause of its last DOWN, 0 before the first (R190; log entry 10). -/
def LinkRecord.bytes (x : LinkRecord) : List Byte := byteFlag x.up ++ byte1 ((x.cause.map LinkCause.code).getD 0)

/-- What R190 lists of a port. -/
def PortRecord.bytes (x : PortRecord) : List Byte :=
  byte1 x.queue.length ++ byteOption byte1 (x.inService.map fun y => Message.type y.message) ++ byte1 x.outgoing.length ++
    byte1 x.lostRefusals

/-- The contents of the STATUS reply for the device, the same from every port (R190). -/
def State.deviceStatus (s : State) : List Byte :=
  (s.links.toList.map LinkRecord.bytes).flatten ++ (s.ports.toList.map PortRecord.bytes).flatten ++
    byteOption byte1 (s.arbiter.granted.map (·.val)) ++ byte1 s.arbiter.last.val ++ byte1 s.mode.code ++
    byte1 s.timing.state.code ++ byte3 s.timing.period ++ byte4 s.frame.toNat

/-! ## The request -/

/-- STATUS (R190): the state it reads is left as it is. -/
def serveStatus (p : Port) (target : Byte) (number : Option Byte) (s : State) : State × Answer :=
  match target.toNat, number with
  | 0, some n =>
    match indexOf 16 n with
    | none => (s, refusal .badRequest)
    | some c => if sees p c then (s, .segmented (s.carrierStatus c)) else (s, refusal .notPermitted)
  | 1, some n =>
    match indexOf 16 n with
    | none => (s, refusal .badRequest)
    | some h => (s, .segmented (s.headStatus p h))
  | 2, none => (s, .segmented s.deviceStatus)
  | _, _ => (s, refusal .badRequest)

end Sys2Proof.Machine
end

