-- ==== Sys2Proof/Machine/DueSteps.lean ====
section
/-!
DEFINITION. What a boundary, a report or a firing has left due, and how it is done (log entry 6).
-/

namespace Sys2Proof.Machine

/-- A trigger's answer is due, and nothing else. -/
def Due.isAnswer : Due → Bool
  | .triggerAnswer _ _ _ => true
  | _ => false

/-- The first answer that a trigger awaits is taken, with the evaluation up to the next firing (R131, R133). -/
def State.answerNext (s : State) : State :=
  match s.due.find? Due.isAnswer with
  | some (.triggerAnswer t deferred loads) =>
    (s.setDue (s.due.erase (.triggerAnswer t deferred loads))).answerTrigger t deferred loads
  | _ => s

/-- A window end that has begun is taken to its end: every answer that a trigger awaits, and those that the evaluation
behind it brings. Each of the eight triggers fires once at most. -/
def State.answerAll (s : State) : State := forAll allTriggers (fun _ t => t.answerNext) s

/-- A plan's revalidation. A window end that has begun ahead of it is finished first, so that no trigger carries a count
across the commit (R129). -/
def State.revalidateDue (s : State) (slot : SlotIndex) (number : Nat) : State := s.answerAll.revalidate slot number

/-- One thing that is due is done, where the condition that called for it still holds. -/
def State.perform (s : State) (d : Due) : State :=
  match d with
  | .bindingApply carriers => s.applyBindings carriers
  | .consentExpiry => s.expire
  | .planRevalidate slot number => s.revalidateDue slot number
  | .seekLock h moment => s.completeSeek h moment
  | .attemptBegin h => s.beginAttempt h
  | .remeasureBegin h => s.beginRemeasure h
  | .markerLost h => s.loseMarker h
  | .blipWindow h => if 99 ≤ s.heads[h].blipFrames then s.endBlipWindow h else s
  | .errorWindow h => if 99 ≤ s.heads[h].errorFrames then s.endErrorWindow h else s
  | .holdOff h => if s.heads[h].settings.holdOff ≤ s.heads[h].holdOffCount then s.expireHoldOff h else s
  | .slipGate h => s.openGate h
  | .mute h smallest => s.muteHead h smallest
  | .unmute h => s.unmuteHead h
  | .saturationWindow => s.endSatWindow
  | .loadWindow => s.endWindow
  | .triggerAnswer t deferred loads => s.answerTrigger t deferred loads

/-- The first due thing of a kind is taken: it is due no longer, and is done. Where none is due nothing happens. -/
def State.takeDue (s : State) (wanted : Due → Bool) : State :=
  match s.due.find? wanted with
  | none => s
  | some d => (s.setDue (s.due.erase d)).perform d

/-- Everything that is due is done, in order, and then what that has made due in its turn, for so many rounds. -/
def State.performAll : Nat → State → State
  | 0, s => s
  | n + 1, s => performAll n (forAll s.due (fun d t => t.perform d) (s.setDue []))

/-- Everything that is due is done (log entry 6). A window end can fire each of the eight triggers once, and each answer
falls due in its turn, so nothing is left after nine rounds. -/
def State.flushDue (s : State) : State := s.performAll 9

/-- The answers that triggers await are void (R133, R197). -/
def State.voidAnswers (s : State) : State := s.setDue (s.due.filter fun d => !d.isAnswer)

end Sys2Proof.Machine
end

