-- ==== Sys2Proof/Machine/ModeControl.lean ====
section
/-!
DEFINITION. Mode control (R194, R195), RESTART (R197, R189), the device reset, and the operator links going DOWN and
coming UP (R180, R181).
-/

namespace Sys2Proof.Machine

/-! ## Changes of mode (R194, R195) -/

/-- A change between HOLD and RUN with its hand-ons (R194). -/
def State.changeMode (s : State) (m : Mode) : State :=
  (forAll allHeads (fun h t => t.requestOnce s h) (settle s (s.setMode m))).breakRun

/-- START (R195). -/
def serveStart (p : Port) (s : State) : State × Answer :=
  if p ≠ Port.mp then (s, refusal .notPermitted)
  else if s.mode = .hold then (s.changeMode .run, .reply .ok [])
  else (s, refusal .notRunning)

/-- HOLD (R195). -/
def serveHold (p : Port) (s : State) : State × Answer :=
  if p ≠ Port.mp then (s, refusal .notPermitted)
  else if s.mode = .run then (s.changeMode .hold, .reply .ok [])
  else (s, refusal .notRunning)

/-! ## RESTART (R197) -/

/-- Step 2: plans are dropped without an outcome (R139, R140). -/
def State.restartPlans (s : State) : State :=
  s.setPlans { s.plans with slots := Vector.replicate 4 .empty, counter := 0, last := none }

/-- Step 3: the load window restarts, no report is held, every trigger is reset (R129, R134). -/
def State.restartLoad (s : State) : State :=
  let t := s.restartWindow (s.frame + 1)
  t.setLoad { t.load with published := none, triggers := Vector.replicate 8 Trigger.reset }

/-- Step 4: placements, reservations, map and carrier records (R2, R4, R25, R28, R168). -/
def State.restartConfiguration (s : State) : State :=
  let t := forAll s.placements (fun p u => u.removePlacement p.head p.carrier) s
  let u := forAll allCarriers
    (fun c v => (v.modCarrier c fun _ => CarrierRecord.reset).clear .carrierOrphaned (.carrier c)) t
  { u with lanes := Vector.replicate 16 (Vector.replicate 8 .free), sectorMap := Vector.replicate 16 none }

/-- Step 5: running recomputes are abandoned and every head is recomputed (R54). -/
def State.restartPower (s : State) : State :=
  forAll allHeads
    (fun h t => (t.modPower h fun q => { q with running := none, again := false, aged := false }).requestRecompute h) s

/-- Step 6: guards, saturation counts and their window (R77, R80). -/
def State.restartSwitch (s : State) : State :=
  let t := forAll allHeads (fun h u => u.resetGuard h) s
  (forAll allCarriers (fun c u => u.modMonitor c fun m => { m with count := 0, last := 0 }) t).setSatFrames 0

/-- A port after step 8: its queues are empty, and no request is in service but the RESTART itself (R189). -/
def PortRecord.restarted (x : PortRecord) (own : Bool) : PortRecord :=
  { x with queue := [], outgoing := [], inService := if own then x.inService else none }

/-- Step 7 and step 8 up to the reply (R176, R187, R189). -/
def State.restartPorts (s : State) (p : Port) : State :=
  { s with
    inboxes := Vector.replicate 5 none
    ports := Vector.ofFn fun q => s.ports[q].restarted (decide (q = p))
    arbiter := { granted := none, last := Port.mp } }

/-- What the last boundary has left due is done before RESTART, which removes what that made; an answer that a trigger
awaits is void (R133, R197; log entry 11). -/
def State.beforeRestart (s : State) : State := s.voidAnswers.flushDue.setDue []

/-- RESTART up to its reply (R197). -/
def State.restartAll (s : State) (p : Port) : State :=
  let b := s.beforeRestart
  let t := if b.mode = .run then b.changeMode .hold else b
  (((((t.restartPlans).restartLoad).restartConfiguration).restartPower).restartSwitch).restartPorts p

/-- RESTART (R197). -/
def serveRestart (p : Port) (s : State) : State × Answer :=
  if p ≠ Port.mp then (s, refusal .notPermitted) else (s.restartAll p, .reply .ok [])

/-! ## Operator links (R180, R181) -/

/-- What a request in service becomes when its operator link goes DOWN (R180). -/
def InService.linkDown (x : InService) : Option InService :=
  match x.phase with
  | .awaitingGrant => some { x with discarded := true }
  | .awaitingBoundary _ => none
  | .awaitingRoom _ => none

/-- An UP operator link goes DOWN (R180). -/
def State.linkDown (s : State) (l : Link) (cause : LinkCause) : State :=
  let t := s.modPort (Port.ofLink l) fun x => { x with queue := [], inService := x.inService.bind InService.linkDown, outgoing := [] }
  let u := t.modLink l fun x => { x with up := false, cause := some cause }
  ((settle s u).breakLink l).raise .operatorLinkLost (.link l) (LinkCause.code cause)

/-- PLAN_OFFER on the coming UP: a plan in CONSENT with the operator affected and its answer NONE (R149, R181). -/
def State.reoffer (s : State) (l : Link) : State :=
  match s.pendingPlan with
  | none => s
  | some (k, o) =>
    match s.plans.slots[k] with
    | .consent _ _ _ =>
      if o.affected.contains l && decide (o.answers[l] = .none) then s.sendUnsolicited (Port.ofLink l) (offerMessage o.number k)
      else s
    | _ => s

/-- MAIL on the coming UP (R178, R181). -/
def State.remail (s : State) (l : Link) : State :=
  match s.inboxes[Port.ofLink l] with
  | none => s
  | some x => s.sendUnsolicited (Port.ofLink l) (mailMessage x)

/-- ATTENTION on the coming UP (R175, R181). -/
def State.reattend (s : State) (l : Link) : State :=
  if s.log.composite (Port.ofLink l) then s.sendUnsolicited (Port.ofLink l) (attentionMessage s.log (Port.ofLink l)) else s

/-- A DOWN operator link comes UP (R181). -/
def State.linkCameUp (s : State) (l : Link) : State :=
  let t := s.modLink l fun x => { x with up := true }
  let u := ((settle s t).breakLink l).clear .operatorLinkLost (.link l) (quiet := some l)
  ((u.reoffer l).remail l).reattend l

/-- The two conditions of R179 hold: lock on the framing, and the frame marker within ±250 du of the boundary. -/
def LinkRecord.fit (x : LinkRecord) : Bool :=
  match x.alignment with
  | none => false
  | some d => decide (-Config.alignmentWindow ≤ d) && decide (d ≤ Config.alignmentWindow)

/-- What an operator link interface finds of lock and alignment: a DOWN link goes UP when both conditions come to hold, an
UP link goes DOWN when one fails, with the cause of the one that fails (R179). -/
def State.followLink (s : State) (l : Link) (alignment : Option Int) : State :=
  let t := s.modLink l fun x => { x with alignment := alignment }
  match s.linkUp l, t.links[l].fit with
  | true, true => t
  | false, false => t
  | false, true => t.linkCameUp l
  | true, false => t.linkDown l (if alignment.isNone then .framing else .alignment)

/-! ## Meanings -/

/-- OPERATOR_LINK_DOWN (R179, R180): lock is lost, or the frame marker lies elsewhere, which an interface without lock does
not see. -/
def execOperatorLinkDown (link : Link) (loss : LinkLoss) (s : State) : Host.Outcome State Fault Refusal :=
  headEvent s fun s =>
    match loss with
    | .framing => s.followLink link none
    | .alignment offset => s.followLink link (s.links[link].alignment.map fun _ => offset)

/-- OPERATOR_LINK_UP (R179, R181): the interface holds lock, and the frame marker lies at an offset from the boundary. -/
def execOperatorLinkUp (finding : LinkFinding) (s : State) : Host.Outcome State Fault Refusal :=
  headEvent s fun s => s.followLink finding.link (some finding.offset)

/-- RESET_ASSERT (R65, R88, R194): the operator links are DOWN and every head link carries idle framing. -/
def execResetAssert (s : State) : Host.Outcome State Fault Refusal :=
  .next { s with
    mode := .reset
    links := Vector.ofFn fun l => { s.links[l] with up := false, alignment := none }
    wires := { s.wires with heads := Vector.replicate 16 .idleFraming, uplink := Vector.replicate 16 [] } }

/-- RESET_RELEASE (R194): every owner's state takes its value after device reset and the mode becomes HOLD. -/
def execResetRelease (s : State) : Host.Outcome State Fault Refusal :=
  .next (if s.mode = .reset then { State.reset with pending := s.pending } else s)

end Sys2Proof.Machine
end

