-- ==== Sys2Proof/Machine/Boundary.lean ====
section
/-!
DEFINITION. The frame boundary (R193) and what falls due at it, the timing marks, and the commands that take what
is due one by one (log entry 6).
-/

namespace Sys2Proof.Machine

/-! ## The frame boundary (R193) -/

/-- A recompute that was running at the previous boundary completes; one that has started since is marked (R52, log
entry 8). Several heads' are completed in ascending head order, which R52 leaves open (log entry 36). -/
def State.completeAged (s : State) : State :=
  forAll allHeads
    (fun h t =>
      if t.power[h].aged then t.completeRecompute h
      else if t.power[h].running.isSome then t.modPower h fun q => { q with aged := true }
      else t)
    s

/-- The carriers with a pending binding, ascending. -/
def State.pendingCarriers (s : State) : List Carrier := allCarriers.filter fun c => s.carriers[c].pending.isSome

/-- The configuration and plan controllers' part of a boundary: pending bindings fall due to be applied (R18), the
plan timers run (R152, R155). -/
def State.planBoundary (s : State) : State :=
  forAll allSlots (fun k t => t.slotBoundary k)
    (if s.pendingCarriers.isEmpty then s else s.addDue (.bindingApply s.pendingCarriers))

/-- The boundary is handed to every block that acts on it. The sample switch works on the state of the frame that
ends (R68, R79), so it comes first. -/
def State.handBoundary (s : State) : State :=
  let t := s.realign.closeMeters.planBoundary.loadBoundary
  let u := forAll allHeads (fun h v => (v.guardBoundary h).gateBoundary h) t
  forAll allHeads (fun h v => v.headBoundary h) u.satBoundary

/-- A frame boundary at a moment: what the last one left due is done, the frame number rises by one, and the
boundary is handed on (R193). -/
def State.boundary (s : State) (moment : Nat) : State :=
  let t := s.flushDue.completeAged
  (t.setTiming { t.timing with frame := t.timing.frame + 1, lastBoundary := moment, now := max t.timing.now moment }).handBoundary

/-! ## The timing input (R193) -/

/-- An interval lies within the range of P (R193). -/
def periodOk (interval : Nat) : Bool := decide (Config.periodMin ≤ interval) && decide (interval ≤ Config.periodMax)

/-- 2,502,500 du have passed without a mark: a boundary is taken and HELD is entered, with P kept (R193). -/
def State.timeOut (s : State) : State :=
  let t := s.boundary (s.timing.lastBoundary + Config.periodMax)
  t.setTiming { t.timing with state := .held, candidate := none }

/-- A mark locks the unit: it becomes a boundary, or merges into one taken at the same moment (R193). -/
def State.lockMark (s : State) (moment interval : Nat) : State :=
  let t := if moment = s.timing.lastBoundary then s else s.boundary moment
  t.setTiming { t.timing with state := .locked, period := interval, candidate := none }

/-- Where a frame marker lies after the device's boundary has come `gap` du after the last one instead of a period: as far
as the nearest marker of a stream that has kept its period (R179, R193; log entry 39). -/
def shiftedOffset (period gap : Nat) (offset : Int) : Int :=
  let r := (offset - gap) % (period : Int)
  if 2 * r ≤ period then r else r - period

/-- The phase jump of a re-lock moves the boundary against the basebands: a link whose marker then lies outside its window
goes DOWN with cause 2 (R179, R193). -/
def State.jumpLinks (s : State) (period gap : Nat) : State :=
  forAll allLinks (fun l t => t.followLink l (t.links[l].alignment.map (shiftedOffset period gap))) s

/-- A mark in HELD: the candidate, a locking mark, or a new candidate (R193). -/
def State.heldMark (s : State) (moment : Nat) : State :=
  match s.timing.candidate with
  | none => s.setTiming { s.timing with candidate := some moment }
  | some c =>
    if periodOk (moment - c) then
      (s.lockMark moment (moment - c)).jumpLinks s.timing.period (moment - s.timing.lastBoundary)
    else s.setTiming { s.timing with candidate := some moment }

/-- A mark in LOCKED: a boundary when its interval lies within the range, discarded when it comes early; one that
comes after the time limit finds the limit taken first (R193). -/
def State.lockedMark (s : State) (moment : Nat) : State :=
  let interval := moment - s.timing.lastBoundary
  if periodOk interval then s.lockMark moment interval
  else if interval < Config.periodMin then s
  else s.timeOut.heldMark moment

/-- A mark of the venue timing input at a moment (R193). -/
def State.mark (s : State) (moment : Nat) : State :=
  match s.timing.state with
  | .locked => s.lockedMark moment
  | .held => s.heldMark moment

/-! ## Meanings -/

/-- TIMING_MARK (R193). -/
def execTimingMark (moment : Nat) (s : State) : Host.Outcome State Fault Refusal :=
  headEvent s fun s =>
    let t := s.atMoment moment
    t.mark t.timing.now

/-- MARK_TIMEOUT (R193): in LOCKED alone. -/
def execMarkTimeout (s : State) : Host.Outcome State Fault Refusal :=
  headEvent s fun s => if s.timing.state = .locked then s.timeOut else s

/-- HELD_BOUNDARY (R193): in HELD a boundary is taken P after the last one. -/
def execHeldBoundary (s : State) : Host.Outcome State Fault Refusal :=
  headEvent s fun s =>
    if s.timing.state = .held then s.boundary (s.timing.lastBoundary + s.timing.period) else s

/-- BINDING_APPLY (R18 to R20). -/
def execBindingApply (s : State) : Host.Outcome State Fault Refusal :=
  headEvent s fun s => s.takeDue fun d => match d with
    | .bindingApply _ => true
    | _ => false

/-- CONSENT_EXPIRY (R152). -/
def execConsentExpiry (s : State) : Host.Outcome State Fault Refusal :=
  headEvent s fun s => s.takeDue fun d => decide (d = .consentExpiry)

/-- PLAN_REVALIDATE (R155 to R157). -/
def execPlanRevalidate (s : State) : Host.Outcome State Fault Refusal :=
  headEvent s fun s => s.takeDue fun d => match d with
    | .planRevalidate _ _ => true
    | _ => false

/-- NOISE_GUARD_MUTE (R82). -/
def execNoiseGuardMute (head : Head) (s : State) : Host.Outcome State Fault Refusal :=
  headEvent s fun s => s.takeDue fun d => match d with
    | .mute h _ => decide (h = head)
    | _ => false

/-- NOISE_GUARD_UNMUTE (R82). -/
def execNoiseGuardUnmute (head : Head) (s : State) : Host.Outcome State Fault Refusal :=
  headEvent s fun s => s.takeDue fun d => decide (d = .unmute head)

/-- SLIP_GATE_OPEN (R74). -/
def execSlipGateOpen (head : Head) (s : State) : Host.Outcome State Fault Refusal :=
  headEvent s fun s => s.takeDue fun d => decide (d = .slipGate head)

/-- SATURATION_WINDOW_END (R77). -/
def execSaturationWindowEnd (s : State) : Host.Outcome State Fault Refusal :=
  headEvent s fun s => s.takeDue fun d => decide (d = .saturationWindow)

/-- LOAD_WINDOW_END (R126 to R128, R131 to R133): the end of the window up to the first firing, and then each answer with
the evaluation up to the next (log entry 29). -/
def execLoadWindowEnd (s : State) : Host.Outcome State Fault Refusal :=
  headEvent s fun s => s.takeDue fun d => match d with
    | .loadWindow => true
    | .triggerAnswer _ _ _ => true
    | _ => false

/-- SAMPLE_PERIOD (R65): what a boundary left due applies from the first sample period, so it is done before it. -/
def execSamplePeriod (streams : Streams) (s : State) : Host.Outcome State Fault Refusal :=
  headEvent s fun s => s.flushDue.samplePeriod streams

/-- BLIP_WINDOW_END (R106). -/
def execBlipWindowEnd (head : Head) (s : State) : Host.Outcome State Fault Refusal :=
  headEvent s fun s => s.takeDue fun d => decide (d = .blipWindow head)

/-- SEEK_LOCK_COMPLETE (R92). -/
def execSeekLockComplete (head : Head) (s : State) : Host.Outcome State Fault Refusal :=
  headEvent s fun s => s.takeDue fun d => match d with
    | .seekLock h _ => decide (h = head)
    | _ => false

/-- MEASURE_ATTEMPT_BEGIN (R96, R97). -/
def execMeasureAttemptBegin (head : Head) (s : State) : Host.Outcome State Fault Refusal :=
  headEvent s fun s => s.takeDue fun d => decide (d = .attemptBegin head)

/-- REMEASURE_COUNTDOWN_END (R100). -/
def execRemeasureCountdownEnd (head : Head) (s : State) : Host.Outcome State Fault Refusal :=
  headEvent s fun s => s.takeDue fun d => decide (d = .remeasureBegin head)

/-- MARKER_LOST (R96). -/
def execMarkerLost (head : Head) (s : State) : Host.Outcome State Fault Refusal :=
  headEvent s fun s => s.takeDue fun d => decide (d = .markerLost head)

/-- ERROR_WINDOW_END (R107, R108). -/
def execErrorWindowEnd (head : Head) (s : State) : Host.Outcome State Fault Refusal :=
  headEvent s fun s => s.takeDue fun d => decide (d = .errorWindow head)

/-- HOLD_OFF_EXPIRY (R109). -/
def execHoldOffExpiry (head : Head) (s : State) : Host.Outcome State Fault Refusal :=
  headEvent s fun s => s.takeDue fun d => decide (d = .holdOff head)

end Sys2Proof.Machine
end

