-- ==== Sys2Proof/Machine/Requests.lean ====
section
/-!
DEFINITION. The request controller (10.4): dispatch of a request to its owner, entry into service, the configuration
arbiter, and the commands that stand for whole requests (log entry 1).
-/

namespace Sys2Proof.Machine

/-- A request with a sound header is carried out by its owner (R184, R191). A payload that does not fit its type
fails the owner's first check. -/
def carryOut (p : Port) (r : Request) (s : State) : State × Answer :=
  match r with
  | .declare c w pw k => serveDeclare p c w pw k s
  | .withdraw c => serveWithdraw p c s
  | .bind c l => serveBind p c l s
  | .status t n => serveStatus p t n s
  | .setBudget h b => serveSetBudget p h b s
  | .setWeight l w => serveSetWeight p l w s
  | .setUplink f => serveSetUplink p f s
  | .setSaturation c t => serveSetSaturation p c t s
  | .setHeadLink f => serveSetHeadLink p f s
  | .headEnable h => serveHeadEnable p h s
  | .headDisable h => serveHeadDisable p h s
  | .testStart h m => serveTestStart p h m s
  | .testSnapshot h c => serveTestSnapshot p h c s
  | .testRead h => serveTestRead p h s
  | .testStop h => serveTestStop p h s
  | .setLoadWindow n => serveSetLoadWindow p n s
  | .setActivity h a => serveSetActivity p h a s
  | .triggerSet f => serveTriggerSet p f s
  | .triggerRead t => serveTriggerRead p t s
  | .loadReport => serveLoadReport p s
  | .planEdit k b l => servePlanEdit p k b l s
  | .planValidate k => servePlanValidate p k s
  | .planPropose k => servePlanPropose p k s
  | .planCancel n => servePlanCancel p n s
  | .consent n a => serveConsent p n a s
  | .planQuery => servePlanQuery p s
  | .planRead k => servePlanRead p k s
  | .setConsent t m => serveSetConsent p t m s
  | .alarmSummary => serveAlarmSummary p s
  | .alarmRead k => serveAlarmRead p k s
  | .alarmMask e => serveAlarmMask p e s
  | .post d l => servePost p d l s
  | .take => serveTake p s
  | .start => serveStart p s
  | .hold => serveHold p s
  | .restart => serveRestart p s
  | .misfit _ => (s, refusal .badRequest)

/-- The request in service is carried out and its answer is handed on (R186). -/
def State.serve (s : State) (p : Port) (r : Request) : State :=
  let out := carryOut p r s
  out.1.deliver p out.2

/-- A message takes its place in service, out of the queue or ahead of it. -/
def State.takeUp (s : State) (p : Port) (m : Message) (rest : List Message) : State :=
  s.modPort p fun x =>
    { x with queue := rest, inService := some { message := m, phase := .awaitingGrant, discarded := false } }

/-- A message that has entered service is checked at the header: a malformed one is answered BAD_REQUEST, one for
the configuration or plan controller waits for a grant, any other is carried out at once (R184, R186). -/
def State.dispatch (s : State) (p : Port) (m : Message) : State :=
  if Message.malformed m then s.deliver p (refusal .badRequest)
  else if Message.usesArbiter m then s
  else s.serve p (Message.request m)

/-- A port with no request in service takes up its oldest queued one (R186). -/
def State.enterRequest (s : State) (p : Port) : State :=
  match s.ports[p].inService, s.ports[p].queue with
  | none, m :: rest => (s.takeUp p m rest).dispatch p m
  | _, _ => s

/-- A port is eligible for the arbiter's grant (R187). -/
def PortRecord.awaitsGrant (x : PortRecord) : Bool :=
  match x.inService with
  | none => false
  | some y => decide (y.phase = .awaitingGrant) && Message.usesArbiter y.message

/-- The ports in the arbiter's cyclic order, beginning after the one served last (R187). -/
def Arbiter.order (x : Arbiter) : List Port := [x.last + 1, x.last + 2, x.last + 3, x.last + 4, x.last]

/-- The port that a free arbiter grants: the first eligible one in its order (R187). -/
def State.arbiterChoice (s : State) : Option Port := s.arbiter.order.find? fun p => s.ports[p].awaitsGrant

/-- The arbiter is granted to a port, the owner evaluates its request, and the arbiter is free with that port last
served (R187). -/
def State.grant (s : State) (p : Port) : State :=
  match s.ports[p].inService with
  | none => s
  | some x =>
    let out := carryOut p (Message.request x.message) (s.setArbiter { s.arbiter with granted := some p })
    (out.1.setArbiter { granted := none, last := p }).deliver p out.2

/-- A free arbiter grants the next port in its order, if one is eligible (R187). -/
def State.arbiterGrant (s : State) : State :=
  match s.arbiter.granted, s.arbiterChoice with
  | none, some p => s.grant p
  | _, _ => s

/-- The port has no request in service and none queued. -/
def PortRecord.idle (x : PortRecord) : Bool := x.inService.isNone && x.queue.isEmpty

/-- A request comes in on a port as a whole (log entry 1). Its message arrives; on an idle port it enters service at
once, and the arbiter grants it at once where it would choose this port. -/
def State.request (s : State) (p : Port) (r : Request) : State :=
  if !s.portOpen p then s
  else
    let t := s.arrive p r.toMessage
    if !s.ports[p].idle then t
    else
      let u := t.enterRequest p
      if u.arbiterChoice = some p then u.arbiterGrant else u

/-! ## Meanings -/

/-- REQUEST_ENTER_SERVICE (R184, R186). -/
def execRequestEnterService (port : Port) (s : State) : Host.Outcome State Fault Refusal :=
  headEvent s fun s => s.enterRequest port

/-- ARBITER_GRANT (R187). -/
def execArbiterGrant (s : State) : Host.Outcome State Fault Refusal := headEvent s fun s => s.arbiterGrant

/-- DECLARE (R7 to R11). -/
def execDeclare (port : Port) (carrier width : Byte) (power : Half) (shift : Byte) (s : State) :
    Host.Outcome State Fault Refusal :=
  .next (s.request port (.declare carrier width power shift))

/-- WITHDRAW (R12). -/
def execWithdraw (port : Port) (carrier : Byte) (s : State) : Host.Outcome State Fault Refusal :=
  .next (s.request port (.withdraw carrier))

/-- BIND (R13 to R16). -/
def execBind (port : Port) (carrier : Byte) (sectors : List Byte) (s : State) : Host.Outcome State Fault Refusal :=
  .next (s.request port (.bind carrier sectors))

/-- STATUS (R190). -/
def execStatus (port : Port) (target : Byte) (number : Option Byte) (s : State) : Host.Outcome State Fault Refusal :=
  .next (s.request port (.status target number))

/-- SET_BUDGET (R45). -/
def execSetBudget (port : Port) (head : Byte) (budget : Half) (s : State) : Host.Outcome State Fault Refusal :=
  .next (s.request port (.setBudget head budget))

/-- SET_WEIGHT (R46). -/
def execSetWeight (port : Port) (link weight : Byte) (s : State) : Host.Outcome State Fault Refusal :=
  .next (s.request port (.setWeight link weight))

/-- SET_UPLINK (R83). -/
def execSetUplink (port : Port) (fields : UplinkFields) (s : State) : Host.Outcome State Fault Refusal :=
  .next (s.request port (.setUplink fields))

/-- SET_SATURATION (R84). -/
def execSetSaturation (port : Port) (carrier : Byte) (threshold : Half) (s : State) :
    Host.Outcome State Fault Refusal :=
  .next (s.request port (.setSaturation carrier threshold))

/-- SET_HEAD_LINK (R87). -/
def execSetHeadLink (port : Port) (fields : HeadLinkFields) (s : State) : Host.Outcome State Fault Refusal :=
  .next (s.request port (.setHeadLink fields))

/-- HEAD_ENABLE (R89). -/
def execHeadEnable (port : Port) (head : Byte) (s : State) : Host.Outcome State Fault Refusal :=
  .next (s.request port (.headEnable head))

/-- HEAD_DISABLE (R89, R90). -/
def execHeadDisable (port : Port) (head : Byte) (s : State) : Host.Outcome State Fault Refusal :=
  .next (s.request port (.headDisable head))

/-- TEST_START (R111, R114). -/
def execTestStart (port : Port) (head mode : Byte) (s : State) : Host.Outcome State Fault Refusal :=
  .next (s.request port (.testStart head mode))

/-- TEST_SNAPSHOT (R119). -/
def execTestSnapshot (port : Port) (head clear : Byte) (s : State) : Host.Outcome State Fault Refusal :=
  .next (s.request port (.testSnapshot head clear))

/-- TEST_READ (R120). -/
def execTestRead (port : Port) (head : Byte) (s : State) : Host.Outcome State Fault Refusal :=
  .next (s.request port (.testRead head))

/-- TEST_STOP (R111, R121). -/
def execTestStop (port : Port) (head : Byte) (s : State) : Host.Outcome State Fault Refusal :=
  .next (s.request port (.testStop head))

/-- SET_LOAD_WINDOW (R129, R130). -/
def execSetLoadWindow (port : Port) (length : Half) (s : State) : Host.Outcome State Fault Refusal :=
  .next (s.request port (.setLoadWindow length))

/-- SET_ACTIVITY (R130). -/
def execSetActivity (port : Port) (head : Byte) (threshold : Word) (s : State) : Host.Outcome State Fault Refusal :=
  .next (s.request port (.setActivity head threshold))

/-- TRIGGER_SET (R135). -/
def execTriggerSet (port : Port) (fields : TriggerFields) (s : State) : Host.Outcome State Fault Refusal :=
  .next (s.request port (.triggerSet fields))

/-- TRIGGER_READ (R137). -/
def execTriggerRead (port : Port) (trigger : Byte) (s : State) : Host.Outcome State Fault Refusal :=
  .next (s.request port (.triggerRead trigger))

/-- LOAD_REPORT (R136). -/
def execLoadReport (port : Port) (s : State) : Host.Outcome State Fault Refusal :=
  .next (s.request port .loadReport)

/-- PLAN_EDIT (R142). -/
def execPlanEdit (port : Port) (slot base : Byte) (entries : List (Byte × Byte)) (s : State) :
    Host.Outcome State Fault Refusal :=
  .next (s.request port (.planEdit slot base entries))

/-- PLAN_VALIDATE (R145). -/
def execPlanValidate (port : Port) (slot : Byte) (s : State) : Host.Outcome State Fault Refusal :=
  .next (s.request port (.planValidate slot))

/-- PLAN_PROPOSE (R146 to R149). -/
def execPlanPropose (port : Port) (slot : Byte) (s : State) : Host.Outcome State Fault Refusal :=
  .next (s.request port (.planPropose slot))

/-- PLAN_CANCEL (R153). -/
def execPlanCancel (port : Port) (number : Byte) (s : State) : Host.Outcome State Fault Refusal :=
  .next (s.request port (.planCancel number))

/-- CONSENT (R151). -/
def execConsent (port : Port) (number answer : Byte) (s : State) : Host.Outcome State Fault Refusal :=
  .next (s.request port (.consent number answer))

/-- PLAN_QUERY (R150). -/
def execPlanQuery (port : Port) (s : State) : Host.Outcome State Fault Refusal :=
  .next (s.request port .planQuery)

/-- PLAN_READ (R160). -/
def execPlanRead (port : Port) (slot : Byte) (s : State) : Host.Outcome State Fault Refusal :=
  .next (s.request port (.planRead slot))

/-- SET_CONSENT (R141). -/
def execSetConsent (port : Port) (time : Half) (modes : Vector Byte 4) (s : State) :
    Host.Outcome State Fault Refusal :=
  .next (s.request port (.setConsent time modes))

/-- ALARM_SUMMARY (R170). -/
def execAlarmSummary (port : Port) (s : State) : Host.Outcome State Fault Refusal :=
  .next (s.request port .alarmSummary)

/-- ALARM_READ (R171). -/
def execAlarmRead (port : Port) (slot : Byte) (s : State) : Host.Outcome State Fault Refusal :=
  .next (s.request port (.alarmRead slot))

/-- ALARM_MASK (R173). -/
def execAlarmMask (port : Port) (enables : Half) (s : State) : Host.Outcome State Fault Refusal :=
  .next (s.request port (.alarmMask enables))

/-- POST (R176, R178). -/
def execPost (port : Port) (destination : Byte) (payload : List Byte) (s : State) :
    Host.Outcome State Fault Refusal :=
  .next (s.request port (.post destination payload))

/-- TAKE (R177). -/
def execTake (port : Port) (s : State) : Host.Outcome State Fault Refusal :=
  .next (s.request port .take)

/-- START (R195). -/
def execStart (port : Port) (s : State) : Host.Outcome State Fault Refusal :=
  .next (s.request port .start)

/-- HOLD (R195). -/
def execHold (port : Port) (s : State) : Host.Outcome State Fault Refusal :=
  .next (s.request port .hold)

/-- RESTART (R197). -/
def execRestart (port : Port) (s : State) : Host.Outcome State Fault Refusal :=
  .next (s.request port .restart)

end Sys2Proof.Machine
end

