-- ==== Sys2Proof/Machine/Dispatch.lean ====
section
/-! DEFINITION. The dispatch of every command to its meaning. -/

namespace Sys2Proof.Machine

def exec (i : Instr) (s : State) : Host.Outcome State Fault Refusal :=
  match i with
  | .requestArrival port message intact => Sys2Proof.Machine.execRequestArrival port message intact s
  | .spiMessageWrite bytes => Sys2Proof.Machine.execSpiMessageWrite bytes s
  | .spiMessageRead bytes => Sys2Proof.Machine.execSpiMessageRead bytes s
  | .requestEnterService port => Sys2Proof.Machine.execRequestEnterService port s
  | .arbiterGrant => Sys2Proof.Machine.execArbiterGrant s
  | .replyEnqueue port => Sys2Proof.Machine.execReplyEnqueue port s
  | .outgoingMessageSent link => Sys2Proof.Machine.execOutgoingMessageSent link s
  | .operatorLinkDown link loss => Sys2Proof.Machine.execOperatorLinkDown link loss s
  | .operatorLinkUp finding => Sys2Proof.Machine.execOperatorLinkUp finding s
  | .declare port carrier width power shift => Sys2Proof.Machine.execDeclare port carrier width power shift s
  | .withdraw port carrier => Sys2Proof.Machine.execWithdraw port carrier s
  | .bind port carrier sectors => Sys2Proof.Machine.execBind port carrier sectors s
  | .bindingApply => Sys2Proof.Machine.execBindingApply s
  | .status port target number => Sys2Proof.Machine.execStatus port target number s
  | .setBudget port head budget => Sys2Proof.Machine.execSetBudget port head budget s
  | .setWeight port link weight => Sys2Proof.Machine.execSetWeight port link weight s
  | .setUplink port fields => Sys2Proof.Machine.execSetUplink port fields s
  | .setSaturation port carrier threshold => Sys2Proof.Machine.execSetSaturation port carrier threshold s
  | .setHeadLink port fields => Sys2Proof.Machine.execSetHeadLink port fields s
  | .headEnable port head => Sys2Proof.Machine.execHeadEnable port head s
  | .headDisable port head => Sys2Proof.Machine.execHeadDisable port head s
  | .testStart port head mode => Sys2Proof.Machine.execTestStart port head mode s
  | .testSnapshot port head clear => Sys2Proof.Machine.execTestSnapshot port head clear s
  | .testRead port head => Sys2Proof.Machine.execTestRead port head s
  | .testStop port head => Sys2Proof.Machine.execTestStop port head s
  | .setLoadWindow port length => Sys2Proof.Machine.execSetLoadWindow port length s
  | .setActivity port head threshold => Sys2Proof.Machine.execSetActivity port head threshold s
  | .triggerSet port fields => Sys2Proof.Machine.execTriggerSet port fields s
  | .triggerRead port trigger => Sys2Proof.Machine.execTriggerRead port trigger s
  | .loadReport port => Sys2Proof.Machine.execLoadReport port s
  | .planEdit port slot base entries => Sys2Proof.Machine.execPlanEdit port slot base entries s
  | .planValidate port slot => Sys2Proof.Machine.execPlanValidate port slot s
  | .planPropose port slot => Sys2Proof.Machine.execPlanPropose port slot s
  | .planCancel port number => Sys2Proof.Machine.execPlanCancel port number s
  | .consent port number answer => Sys2Proof.Machine.execConsent port number answer s
  | .planQuery port => Sys2Proof.Machine.execPlanQuery port s
  | .planRead port slot => Sys2Proof.Machine.execPlanRead port slot s
  | .setConsent port time modes => Sys2Proof.Machine.execSetConsent port time modes s
  | .consentExpiry => Sys2Proof.Machine.execConsentExpiry s
  | .planRevalidate => Sys2Proof.Machine.execPlanRevalidate s
  | .alarmSummary port => Sys2Proof.Machine.execAlarmSummary port s
  | .alarmRead port slot => Sys2Proof.Machine.execAlarmRead port slot s
  | .alarmMask port enables => Sys2Proof.Machine.execAlarmMask port enables s
  | .post port destination payload => Sys2Proof.Machine.execPost port destination payload s
  | .take port => Sys2Proof.Machine.execTake port s
  | .start port => Sys2Proof.Machine.execStart port s
  | .hold port => Sys2Proof.Machine.execHold port s
  | .restart port => Sys2Proof.Machine.execRestart port s
  | .resetAssert => Sys2Proof.Machine.execResetAssert s
  | .resetRelease => Sys2Proof.Machine.execResetRelease s
  | .timingMark moment => Sys2Proof.Machine.execTimingMark moment s
  | .markTimeout => Sys2Proof.Machine.execMarkTimeout s
  | .heldBoundary => Sys2Proof.Machine.execHeldBoundary s
  | .noiseGuardMute head => Sys2Proof.Machine.execNoiseGuardMute head s
  | .noiseGuardUnmute head => Sys2Proof.Machine.execNoiseGuardUnmute head s
  | .slipGateOpen head => Sys2Proof.Machine.execSlipGateOpen head s
  | .saturationWindowEnd => Sys2Proof.Machine.execSaturationWindowEnd s
  | .loadWindowEnd => Sys2Proof.Machine.execLoadWindowEnd s
  | .samplePeriod streams => Sys2Proof.Machine.execSamplePeriod streams s
  | .uplinkGroupComplete head words => Sys2Proof.Machine.execUplinkGroupComplete head words s
  | .lightLost head moment => Sys2Proof.Machine.execLightLost head moment s
  | .lightRestored head moment => Sys2Proof.Machine.execLightRestored head moment s
  | .blipLimitReached head moment => Sys2Proof.Machine.execBlipLimitReached head moment s
  | .blipWindowEnd head => Sys2Proof.Machine.execBlipWindowEnd head s
  | .lockFound head => Sys2Proof.Machine.execLockFound head s
  | .lockLost head => Sys2Proof.Machine.execLockLost head s
  | .seekLockComplete head => Sys2Proof.Machine.execSeekLockComplete head s
  | .headReport head moment report intact => Sys2Proof.Machine.execHeadReport head moment report intact s
  | .reportLate head moment => Sys2Proof.Machine.execReportLate head moment s
  | .reportLostLimit head moment => Sys2Proof.Machine.execReportLostLimit head moment s
  | .measureAttemptBegin head => Sys2Proof.Machine.execMeasureAttemptBegin head s
  | .remeasureCountdownEnd head => Sys2Proof.Machine.execRemeasureCountdownEnd head s
  | .markerReturn head sentFrame roundTrip => Sys2Proof.Machine.execMarkerReturn head sentFrame roundTrip s
  | .markerLost head => Sys2Proof.Machine.execMarkerLost head s
  | .errorWindowEnd head => Sys2Proof.Machine.execErrorWindowEnd head s
  | .holdOffExpiry head => Sys2Proof.Machine.execHoldOffExpiry head s
  | .testWordReturned head word parity => Sys2Proof.Machine.execTestWordReturned head word parity s
  | .recomputeComplete head => Sys2Proof.Machine.execRecomputeComplete head s

end Sys2Proof.Machine
end

