-- ==== Sys2Proof/Safety.lean ====
section
/-!
DEFINITION. What the claims about the part are stated in: ports that can take and answer a request at once, replies,
and the limits that every state is to keep.
-/

namespace Sys2Proof.Machine

/-! ## Requests on a port that is ready -/

/-- Port p takes messages, has no request in service and none queued, and its outgoing queue has room for n
messages: a request of the port is then taken up at once, and its reply of n messages finds room. -/
def State.ready (s : State) (p : Port) (n : Nat) : Bool :=
  s.portOpen p && s.ports[p].idle && s.room p n

/-- The arbiter is free and no port waits for it (R187). -/
def State.arbiterFree (s : State) : Bool := s.arbiter.granted.isNone && allPorts.all fun p => !s.ports[p].awaitsGrant

/-- A port with messages added at the tail of its outgoing queue (R188). -/
def PortRecord.sent (x : PortRecord) (ms : List Message) : PortRecord := { x with outgoing := x.outgoing ++ ms }

/-- The ports after messages have joined the outgoing queue of port p, with everything else about every port as it
is in s. -/
def State.replied (s : State) (p : Port) (ms : List Message) : Vector PortRecord 5 := s.ports.set p (s.ports[p].sent ms)

/-- The one-message reply to a request type: status and contents (R183). -/
def replyTo (type : Nat) (x : Status) (contents : List Byte) : Message :=
  mkMessage (BitVec.ofNat 8 (type + 128)) (byte1 x.code ++ contents)

/-- The byte that names one of n things in a request (R183). -/
def byteOf {n : Nat} (i : Fin n) : Byte := BitVec.ofNat 8 i.val

/-- The byte of a yes or no field, and of a two-valued enumeration: 0 or 1 (R183). -/
def flagByte (b : Bool) : Byte := if b then 1 else 0

/-- The state in which a request on an idle port is carried out: the request is in service (R186). -/
def State.taken (s : State) (p : Port) (r : Request) : State :=
  s.modPort p fun x =>
    { x with queue := [], inService := some { message := r.toMessage, phase := .awaitingGrant, discarded := false } }

/-- A request whose payload fits its type (R184). -/
def Request.sound : Request → Bool
  | .misfit _ => false
  | r => decide (r.payload.length ≤ Config.payloadMax)

/-- The state after a request that changes nothing but its reply of several messages. -/
def State.withReply (s : State) (p : Port) (ms : List Message) : State := { s with ports := s.replied p ms }

/-- The state after a request that changes nothing but its one-message reply. -/
def State.answered (s : State) (p : Port) (type : Nat) (x : Status) (contents : List Byte) : State :=
  { s with ports := s.replied p [replyTo type x contents] }

/-- The same for a request that has held the arbiter: the arbiter is free again, with this port last served (R187). -/
def State.grantedAnswer (s : State) (p : Port) (type : Nat) (x : Status) (contents : List Byte) : State :=
  { s with arbiter := { granted := none, last := p }, ports := s.replied p [replyTo type x contents] }

/-! ## Recomputes -/

/-- What a recompute request makes of a head's recompute state: it starts one in IDLE and sets the again mark in
RUNNING, leaving the running one as it is (R49 to R51). -/
def PowerHead.asked (before after : PowerHead) : Prop :=
  match before.running with
  | none => after.running.isSome = true
  | some x => after.running = some x ∧ after.again = true

/-- A snapshot holds what R50 lists of head h, as it stands in a state: the placements in NEW, STARVED or RADIATING with
their carriers' power requests, each of which may be written, the weights, the nominal budget, the derate and PA-off flag of
the last report, or 0 and clear without one, and whether the head is in service. -/
def Snapshot.takenOf (x : Snapshot) (s : State) (h : Head) : Prop :=
  let entering := s.placements.filter fun p =>
    decide (p.head = h ∧ s.downlinkState p ∈ [DownlinkState.new, DownlinkState.starved, DownlinkState.radiating])
  x.entries = entering.map (fun p => (p.carrier, s.carriers[p.carrier].power)) ∧ x.writable = entering.map (·.carrier) ∧
    x.weights = s.weights ∧ x.nominal = s.power[h].nominal ∧ x.inService = s.inService h ∧
    match s.heads[h].report with
    | none => x.derate = 0 ∧ x.paOff = false
    | some r => x.derate = r.derate ∧ x.paOff = r.paOff

/-- Head h is asked for a recompute between two states: one that starts works on a snapshot of the later state, whose derate
and PA-off flag become those of the last snapshot, and one that runs keeps the snapshot it has (R50, R51, R63). -/
def State.askedFor (s t : State) (h : Head) : Prop :=
  s.power[h].asked t.power[h] ∧
    (s.power[h].running = none → ∃ x, t.power[h].running = some x ∧ x.takenOf t h ∧ t.power[h].snapDerate = x.derate ∧
      t.power[h].snapPaOff = x.paOff ∧ t.power[h].again = s.power[h].again)

/-! ## Limits -/

/-- Every port holds at most 8 queued requests and at most 16 outgoing messages (R185, R188). -/
def State.queueLimits (s : State) : Prop :=
  ∀ p : Port, s.ports[p].queue.length ≤ Config.requestQueueDepth ∧ s.ports[p].outgoing.length ≤ Config.outgoingQueueDepth

/-- The buffer of a head holds at most 64 groups and none while it is STOPPED, its marks are 1 to 31, and its slip
gate counter is at most 2 (R70, R71, R74). -/
def UplinkHead.limits (x : UplinkHead) : Prop :=
  x.groups.length ≤ Config.bufferDepth ∧ (x.running = false → x.groups = []) ∧ 1 ≤ x.almostEmpty ∧ x.almostEmpty ≤ 31 ∧
    1 ≤ x.almostFull ∧ x.almostFull ≤ 31 ∧ x.slipGate ≤ 2

/-- The limits of every head's buffer. -/
def State.bufferLimits (s : State) : Prop := ∀ h : Head, s.uplinks[h].limits

/-- A sound alarm record: an EVENT is never ACTIVE, the count is 1 to 255, MP is in the audience, and no reader outside
the audience has a notice (R162, R163, R167, R169). -/
def AlarmRecord.sound (r : AlarmRecord) : Prop :=
  (r.kind.isEvent = true → r.active = false) ∧ 1 ≤ r.count ∧ r.count ≤ 255 ∧ r.audience[Port.mp] = true ∧
    ∀ p : Port, r.audience[p] = false → r.notices[p] = { pending := false, seen := false }

/-- A sound alarm log: every record is sound, there is at most one for each kind and subject, the dropped-raise count
is at most 255, and FULL stands only while all 64 slots hold ACTIVE records (R162, R164, R165). -/
def AlarmLog.sound (log : AlarmLog) : Prop :=
  (∀ (i : Fin 64) (r : AlarmRecord), log.slots[i] = some r → r.sound) ∧
  (∀ (i j : Fin 64) (r q : AlarmRecord), log.slots[i] = some r → log.slots[j] = some q → r.kind = q.kind →
    r.subject = q.subject → i = j) ∧
  log.dropped ≤ 255 ∧
  (log.full = true → ∀ i : Fin 64, ∃ r, log.slots[i] = some r ∧ r.active = true)

/-- The log shows a kind ACTIVE about a subject, with a frame as its last and a detail (R162). -/
def AlarmLog.shows (log : AlarmLog) (k : AlarmKind) (x : Subject) (frame : Frame) (detail : Nat) : Prop :=
  ∃ (i : Fin 64) (r : AlarmRecord), log.slots[i] = some r ∧ r.kind = k ∧ r.subject = x ∧ r.active = true ∧ r.lastFrame = frame ∧
    r.detail = BitVec.ofNat 32 detail

/-- No record of a kind about a subject is ACTIVE. -/
def AlarmLog.quiet (log : AlarmLog) (k : AlarmKind) (x : Subject) : Prop :=
  ∀ (i : Fin 64) (r : AlarmRecord), log.slots[i] = some r → r.kind = k → r.subject = x → r.active = false

/-- A condition raised between two states of the log: it is shown, or a log full of ACTIVE records has dropped the raise
and counted it, up to 255 (R163, R164, R165). -/
def AlarmLog.raised (before after : AlarmLog) (k : AlarmKind) (x : Subject) (frame : Frame) (detail : Nat) : Prop :=
  after.shows k x frame detail ∨
    ((∀ (i : Fin 64) (r : AlarmRecord), after.slots[i] = some r → ¬ (r.kind = k ∧ r.subject = x)) ∧
      (before.dropped < after.dropped ∨ after.dropped = 255))

/-- An EVENT raised on the way to a state of the log: what the log holds of its kind about the subject is this raise, and it
holds it unless every slot is in use, so that the raise was dropped or a later one has evicted its record (R163, R164,
R165). -/
def AlarmLog.noted (after : AlarmLog) (k : AlarmKind) (x : Subject) (frame : Frame) (detail : Nat) : Prop :=
  (∀ (i : Fin 64) (r : AlarmRecord), after.slots[i] = some r → r.kind = k → r.subject = x →
    r.lastFrame = frame ∧ r.detail = BitVec.ofNat 32 detail) ∧
  ((∃ (i : Fin 64) (r : AlarmRecord), after.slots[i] = some r ∧ r.kind = k ∧ r.subject = x) ∨
    ∀ i : Fin 64, after.slots[i] ≠ none)

/-- What the alarm log is handed of the orphan flags between two states: CARRIER_ORPHANED is raised of a carrier whose flag has
become yes, with detail 0, and is not ACTIVE of one whose flag has become no (R22, R161). -/
def State.orphansReported (s t : State) : Prop :=
  ∀ c : Carrier,
    (s.carriers[c].orphan = false → t.carriers[c].orphan = true →
      s.log.raised t.log .carrierOrphaned (.carrier c) s.timing.frame 0) ∧
    (s.carriers[c].orphan = true → t.carriers[c].orphan = false → t.log.quiet .carrierOrphaned (.carrier c))

/-- Port q after PLAN_OUTCOME of a plan that ends has gone to MP and to the affected operators, each where its port is
open and has room (R159), and then a reply. -/
def State.toldOutcome (s : State) (k : SlotIndex) (o : Offer) (result : Nat) (q : Port) (reply : List Message) : PortRecord :=
  let told := (q = Port.mp ∨ ∃ l ∈ o.affected, q = Port.ofLink l) ∧ s.portOpen q = true ∧ s.room q 1 = true
  s.ports[q].sent
    ((if told then [mkMessage 97 (byte1 o.number ++ byte1 k.val ++ byte1 result ++ byte4 s.timing.frame.toNat)] else []) ++
      reply)

/-- The command is one that a frame boundary comes of, and that leaves the operator links as they are: the boundary of
HELD, the time limit of LOCKED, or a mark of LOCKED whose interval lies within the range of the period (R193). -/
def State.takesBoundary (s : State) (i : Instr) : Prop :=
  (i = .heldBoundary ∧ s.timing.state = .held) ∨ (i = .markTimeout ∧ s.timing.state = .locked) ∨
    ∃ m, i = .timingMark m ∧ s.timing.state = .locked ∧ s.timing.now ≤ m ∧ s.timing.lastBoundary + Config.periodMin ≤ m ∧
      m ≤ s.timing.lastBoundary + Config.periodMax

/-! ## Soundness of the configuration -/

/-- Lane unit i is one of a run of units. -/
def covers (first units : Nat) (i : LaneIndex) : Prop := first ≤ i.val ∧ i.val < first + units

/-- Placements, lane tables, bindings and the sector map agree: no pair of head and carrier has two placements; a carrier
has a placement on a head exactly when the head is in its head set (R5); a placement owns the units of its width from
a permitted start, and an owned unit belongs to a placement (R25); a pending binding holds a permitted run RESERVED on
each head it would gain, and a RESERVED unit belongs to one (R16, R25); an undeclared carrier is unbound (R12). -/
def State.lanesAgree (s : State) : Prop :=
  (s.placements.map fun p => (p.head, p.carrier)).Nodup ∧
  (∀ (h : Head) (c : Carrier), (s.placement h c).isSome = true ↔ h ∈ s.headSet c) ∧
  (∀ p ∈ s.placements, let w := s.carriers[p.carrier].width
    p.units = w.units ∧ p.first ∈ w.starts ∧ ∀ i, covers p.first.val p.units i → s.lanes[p.head][i] = .owned p.carrier) ∧
  (∀ (h : Head) (i : LaneIndex) (c : Carrier), s.lanes[h][i] = .owned c →
    ∃ p ∈ s.placements, p.head = h ∧ p.carrier = c ∧ covers p.first.val p.units i) ∧
  (∀ (c : Carrier) (b : PendingBinding), s.carriers[c].pending = some b →
    b.reserved.map (·.head) = s.gainingHeads c (headSetUnder s.sectorMap b.sectors) ∧
    ∀ r ∈ b.reserved, let w := s.carriers[c].width
      r.first ∈ w.starts ∧ ∀ i, covers r.first.val w.units i → s.lanes[r.head][i] = .reserved c) ∧
  (∀ (h : Head) (i : LaneIndex) (c : Carrier), s.lanes[h][i] = .reserved c →
    ∃ b, s.carriers[c].pending = some b ∧ ∃ r ∈ b.reserved, r.head = h ∧ covers r.first.val s.carriers[c].width.units i) ∧
  (∀ c : Carrier, s.carriers[c].declared = false → s.carriers[c].bound = false)

/-- At most one plan is pending, none while a binding is (R139, R145, R147), no operator stands twice in an affected set
(R143), and what is due of bindings names no carrier twice. -/
def State.plansAgree (s : State) : Prop :=
  (∀ j k : SlotIndex, s.plans.slots[j].offer?.isSome = true → s.plans.slots[k].offer?.isSome = true → j = k) ∧
  (s.planPending = true → s.bindingPending = false) ∧
  (∀ (k : SlotIndex) (o : Offer), s.plans.slots[k].offer? = some o → o.affected.Nodup) ∧
  (∀ l, .bindingApply l ∈ s.due → l.Nodup)

/-- The grants of every head add up to at most its effective budget, and outside the device reset a placement with a grant
takes part in the division and is one that a running recompute may write (R31, R52, R61). -/
def State.grantsWithinBudget (s : State) : Prop :=
  (∀ h : Head, ((s.placementsOn h).map (·.grant)).sum ≤ s.power[h].effective) ∧
  (s.mode ≠ .reset → ∀ p ∈ s.placements, p.grant ≠ 0 → s.eligible p = true ∧
    ∀ x, s.power[p.head].running = some x → p.carrier ∈ x.writable ∧ p.carrier ∈ x.entries.map (·.1)) ∧
  (∀ (h : Head) (x : Snapshot), s.power[h].running = some x → (x.entries.map (·.1)).Nodup)

/-! ## Exclusion (2.5) -/

/-- The placements stand ascending by head and then by carrier. -/
def State.placementsInOrder (s : State) : Prop :=
  s.placements.Pairwise fun p q => p.head < q.head ∨ (p.head = q.head ∧ p.carrier < q.carrier)

/-- Among the heads of a placement's carrier, its own and those of the placements that count beside it, two have known
delays more than 1023 du apart (R35, R39 to R41). -/
def delaysApart (heads : Vector HeadLink 16) (placements : List Placement) (p : Placement) (counts : Placement → Prop) : Prop :=
  ∃ q ∈ placements, ∃ r ∈ placements, q.carrier = p.carrier ∧ r.carrier = p.carrier ∧ (q.head = p.head ∨ counts q) ∧
    (r.head = p.head ∨ counts r) ∧
    ∃ d e, heads[q.head].delay = some d ∧ heads[r.head].delay = some e ∧ d + Config.spreadLimit < e

/-- The law of section 2.5: the known delays of the heads on which a carrier has a placement that is not EXCLUDED lie within
1023 du. -/
def State.spreadWithinLimit (s : State) : Prop :=
  ∀ p ∈ s.placements, ∀ q ∈ s.placements, p.carrier = q.carrier → p.exclusion = .none → q.exclusion = .none →
    ∀ d e, s.heads[p.head].delay = some d → s.heads[q.head].delay = some e → d ≤ e + Config.spreadLimit

/-- INCAPABLE is a reason of WIDE placements alone (R38, R41). -/
def State.incapableAreWide (s : State) : Prop :=
  ∀ p ∈ s.placements, p.exclusion = .incapable → s.carriers[p.carrier].width = .wide

/-! ## Counts and links -/

/-- On every head busy carrier-frames are at most the present ones (R125), and an operator link is UP exactly while its
interface holds lock with the frame marker within ±250 du of the boundary (R179). -/
def State.countsAndLinksAgree (s : State) : Prop :=
  (∀ h : Head, s.load.heads[h].busy ≤ s.load.heads[h].present) ∧
  ∀ l : Link, s.links[l].up = true ↔ ∃ d, s.links[l].alignment = some d ∧ -250 ≤ d ∧ d ≤ 250

/-- The measured period lies in its range (R193). -/
def State.periodInRange (s : State) : Prop := Config.periodMin ≤ s.timing.period ∧ s.timing.period ≤ Config.periodMax

end Sys2Proof.Machine
end

