-- ==== Sys2Proof/Certificates/Slice0/Obligations.lean ====
section
/-!
DEFINITION. The statements made of the model, for the provers. Each docstring names the rules it formalises. MP stands
for the management port, and "a ready port" for one that takes a request at once and has room for its reply.
-/

open Sys2Proof Sys2Proof.Machine

/-! ## The machine as a whole -/

/-- A step takes the command at the front of the queue and runs it on the state with the queue's rest; on an empty
queue the part idles, which is the model's choice (log entry 13). -/
def Obligations.StepTakesTheFrontCommand : Prop :=
  (∀ (s : State) (i : Instr) (rest : List Instr),
    step { s with pending := i :: rest } = exec i { s with pending := rest }) ∧
  (∀ s : State, s.pending = [] → step s = .next s)

/-- The state right after the release of the device reset, owner by owner (R2, R4, R25, R28, R44, R70, R74, R77, R80, R83,
R86, R87, R113, R123, R130, R134, R139, R140, R162, R176, R179, R185, R187, R188, R193, R194). -/
def Obligations.ResetLeavesTheStatedValues : Prop :=
  let s := State.reset
  s.mode = .hold ∧ s.timing.state = .held ∧ s.timing.period = 2500000 ∧ s.timing.frame = 0 ∧ s.timing.candidate = none ∧
  (∀ c : Carrier, s.carriers[c].declared = false ∧ s.carriers[c].width = .narrow ∧ s.carriers[c].power = 1 ∧
    s.carriers[c].shift = 2 ∧ s.carriers[c].active = [] ∧ s.carriers[c].pending = none ∧ s.carriers[c].orphan = false) ∧
  (∀ h : Head, s.sectorMap[h] = none ∧ s.lanes[h] = Vector.replicate 8 .free) ∧ s.placements = [] ∧
  (∀ h : Head, s.power[h].nominal = 2000 ∧ s.power[h].effective = 0 ∧ s.power[h].running = none ∧ s.power[h].again = false ∧
    s.power[h].handedDerate = 0 ∧ s.power[h].handedPaOff = false ∧ s.power[h].snapDerate = 0 ∧ s.power[h].snapPaOff = false) ∧
  s.weights = Vector.replicate 4 1 ∧
  (∀ h : Head, s.uplinks[h] =
    { running := false, groups := [], slipGate := 0, gain := 64, almostEmpty := 8, almostFull := 8, ceiling := 1073741824
      onset := 50, release := 100, muted := false, loud := 0, quiet := 0 }) ∧
  (∀ c : Carrier, s.monitors[c] = { count := 0, last := 0, threshold := 64 }) ∧ s.satFrames = 0 ∧
  (∀ h : Head, let x := s.heads[h]
    x.state = .off ∧ x.capability = .unknown ∧ x.latency = none ∧ x.delay = none ∧ x.fibre = none ∧ x.report = none ∧
    x.lockedCount = 0 ∧ x.reportSeen = false ∧ x.attempt = 0 ∧ x.markers = none ∧ x.remeasureCount = 0 ∧
    x.reportTimer = none ∧ x.lightTimer = none ∧ x.blipFrames = 0 ∧ x.blips = 0 ∧ x.errorFrames = 0 ∧ x.errors = 0 ∧
    x.degradedCount = 0 ∧ x.holdOffCount = 0 ∧ x.held = [] ∧
    x.settings =
      { hysteresis := 1, reportMin := 50, reportMax := 250, lostLimit := 1000, blipLimit := 20, degradeThreshold := 16
        clearThreshold := 4, failCount := 10, holdOff := 500, remeasure := 6000, tolerance := 2, fibreCode := 4 } ∧
    x.test =
      { mode := .single, pattern := BitVec.allOnes 15, reference := none, locked := false, cleanRun := 0, history := []
        checked := 0, errored := 0, wraps := 0, stopped := false, snapshot := none }) ∧
  s.load.window = 500 ∧ s.load.windowStart = 0 ∧ s.load.windowFrames = 0 ∧ s.load.published = none ∧
  s.load.runWhole = false ∧ (∀ l : Link, s.load.linkWhole[l] = false) ∧
  (∀ h : Head, s.load.heads[h] = { activity := 1048576, present := 0, busy := 0, whole := false }) ∧
  (∀ t : TriggerIndex, s.load.triggers[t] =
    { armed := false, sector := 0, direction := .above, mark := 100, windows := 1, slot := 0, mode := .single, count := 0
      deferred := false, awaiting := false }) ∧
  (∀ k : SlotIndex, s.plans.slots[k] = .empty) ∧ s.plans.counter = 0 ∧ s.plans.last = none ∧ s.plans.consentTime = 3000 ∧
  (∀ l : Link, s.plans.modes[l] = .required) ∧
  (∀ i : Fin 64, s.log.slots[i] = none) ∧ s.log.dropped = 0 ∧ s.log.full = false ∧
  (∀ p : Port, s.log.evicted[p] = false ∧ s.log.masks[p] = BitVec.allOnes 16 ∧ s.inboxes[p] = none) ∧
  (∀ p : Port, s.ports[p] = { queue := [], inService := none, outgoing := [], lostRefusals := 0 }) ∧
  s.arbiter = { granted := none, last := Port.mp } ∧
  (∀ l : Link, s.links[l].up = false ∧ s.links[l].cause = none) ∧ s.attnN = true ∧ s.msgN = true

/-- The invariants of the next statements hold after reset. -/
def Obligations.InvariantsHoldAtReset : Prop :=
  State.reset.queueLimits ∧ State.reset.periodInRange ∧ State.reset.bufferLimits ∧ State.reset.log.sound ∧
    State.reset.lanesAgree ∧ State.reset.plansAgree ∧ State.reset.grantsWithinBudget ∧ State.reset.countsAndLinksAgree ∧
    State.reset.placementsInOrder ∧ State.reset.spreadWithinLimit ∧ State.reset.incapableAreWide

/-- Every step keeps every port's queues within 8 requests and 16 messages (R185, R188), the measured period within
2,497,500 to 2,502,500 du (R193), and every elastic buffer within 64 groups, empty while it is STOPPED, its marks within 1
to 31 and the slip gate counter within 0 to 2 (R70, R71, R74, R83). -/
def Obligations.EveryStepKeepsTheQueuePeriodAndBufferLimits : Prop :=
  (∀ s t : State, s.queueLimits → step s = .next t → t.queueLimits) ∧
  (∀ s t : State, s.periodInRange → step s = .next t → t.periodInRange) ∧
  (∀ s t : State, s.bufferLimits → step s = .next t → t.bufferLimits)

/-- Every step keeps the alarm log sound: one record for a kind and subject, no ACTIVE event, MP in every audience,
no notice outside it, FULL only while all 64 records are ACTIVE (R162, R163, R164, R165, R166, R169). -/
def Obligations.EveryStepKeepsTheAlarmLogSound : Prop :=
  ∀ s t : State, s.log.sound → step s = .next t → t.log.sound

/-- Every step keeps placements, lane tables, bindings and the sector map in agreement, and at most one plan pending, none
while a binding is: a carrier has a placement on a head exactly when the head is in its head set, a placement owns the
units of its width from a permitted start, and RESERVED units are those of the pending bindings (R5, R12, R16, R25, R26,
R139, R145, R148). -/
def Obligations.EveryStepKeepsLanesAndPlansInAgreement : Prop :=
  ∀ s t : State, s.lanesAgree → s.plansAgree → step s = .next t → t.lanesAgree ∧ t.plansAgree

/-- Where lanes and plans agree, every step keeps the law of section 2.5: the known delays of the heads on which a carrier has
a placement that is not EXCLUDED lie within 1023 du, and only WIDE placements are INCAPABLE (R35, R38 to R41). It keeps the
placements in ascending order of head and carrier as well, which is the model's way to hold them. -/
def Obligations.EveryStepKeepsTheSpreadWithinTheLimit : Prop :=
  (∀ s t : State, s.lanesAgree → s.plansAgree → s.spreadWithinLimit → step s = .next t → t.spreadWithinLimit) ∧
  (∀ s t : State, s.lanesAgree → s.plansAgree → s.incapableAreWide → step s = .next t → t.incapableAreWide) ∧
  (∀ s t : State, s.lanesAgree → s.plansAgree → s.placementsInOrder → step s = .next t → t.placementsInOrder)

/-- Where lanes and plans agree, every step keeps the grants of every head within its effective budget, with every grant
held by a placement that takes part in the division (R31, R52, R61). -/
def Obligations.EveryStepKeepsTheGrantsWithinTheBudgets : Prop :=
  ∀ s t : State, s.lanesAgree → s.plansAgree → s.grantsWithinBudget → step s = .next t → t.grantsWithinBudget

/-- Every step keeps the busy carrier-frames of every head within its present ones (R125), and an operator link UP exactly
while its interface holds lock with the frame marker within ±250 du of the boundary (R179). -/
def Obligations.EveryStepKeepsCountsAndLinksInAgreement : Prop :=
  ∀ s t : State, s.countsAndLinksAgree → step s = .next t → t.countsAndLinksAgree

/-- Reading a request from its message gives the request back, with every field at every value: a request whose payload
fits is not malformed, has the type of R191's table, and is read as it was written (R183, R184, R191). That STATUS of the
device has one payload byte, and of a carrier or a head two, is the model's choice (log entry 30). -/
def Obligations.RequestsAreReadAsWritten : Prop :=
  ∀ r : Request, r.sound = true →
    Message.malformed r.toMessage = false ∧ Message.type r.toMessage = r.type ∧ Message.request r.toMessage = r ∧
      readFields r.type r.payload = r

/-! ## Power sharing (Chapter 3) -/

/-- Where the requests do not fit the budget, the division follows both passes: the guaranteed portions, the first pass
and what it leaves, the excesses, the extras and the final allotments are those of R57 and R58, no allotment is beyond
its demand, every grant is the floor of its share and at most its request, the grants of an operator stay within its
allotment and all of them within the budget, and a grant is 0 where its share is less than a milliwatt. -/
def Obligations.TheDivisionFollowsBothPasses : Prop :=
  ∀ (budget : Nat) (entries : List (Carrier × Nat)) (weights : Vector Nat 4),
    let present := allLinks.filter fun l => entries.any fun e => decide (Carrier.owner e.1 = l)
    let total := fun f : Link → Nat => (present.map f).sum
    let demands := fun l : Link => ((entries.filter fun e => decide (Carrier.owner e.1 = l)).map (·.2)).sum
    let portion := fun l : Link => if (total fun k => weights[k]) = 0 then 0 else budget * weights[l] / total fun k => weights[k]
    let first := fun l : Link => min (demands l) (portion l)
    let left := budget - total first
    let beyond := fun l : Link => demands l - first l
    let extra := fun l : Link => left * beyond l / total beyond
    let final := fun l : Link => first l + extra l
    let grant := grantOf budget entries weights
    budget < (entries.map (·.2)).sum →
    total portion ≤ budget ∧ total first ≤ budget ∧ left < total beyond ∧
    (∀ l ∈ present, (demands l ≤ portion l → first l = demands l ∧ beyond l = 0 ∧ extra l = 0) ∧
      extra l ≤ beyond l ∧ final l ≤ demands l ∧
      ((entries.filter fun e => decide (Carrier.owner e.1 = l)).map grant).sum ≤ final l) ∧
    (∀ e ∈ entries, grant e = e.2 * final (Carrier.owner e.1) / demands (Carrier.owner e.1) ∧ grant e ≤ e.2 ∧
      (budget = 0 ∨ e.2 * final (Carrier.owner e.1) < demands (Carrier.owner e.1) → grant e = 0)) ∧
    (entries.map grant).sum ≤ budget

/-- Where the requests fit the budget, every grant is its request and every step is 0, whatever the weights, and what
remains of the budget is allocated to no one (R56). -/
def Obligations.RequestsThatFitAreGrantedInFull : Prop :=
  ∀ (budget : Nat) (entries : List (Carrier × Nat)) (weights : Vector Nat 4),
    (entries.map (·.2)).sum ≤ budget →
    (∀ e ∈ entries, grantOf budget entries weights e = e.2 ∧
      chooseStep e.2 (grantOf budget entries weights e) = some 0) ∧
    budget - (entries.map (grantOf budget entries weights)).sum = budget - (entries.map (·.2)).sum

/-- The factor F of each step is 65536 × 10^(−k/20) to the nearest integer, which is said in twentieth powers (R59). The
step is the smallest whose power is within the grant; there is none exactly when even step 31 is beyond it, and always
none for a grant of 0 (R60). RECOMPUTE_COMPLETE installs the effective budget, nominal × (8 − derate) / 8 or 0 (R47), and
gives each entry that has stayed eligible its grant, its step, the outcome RADIATING or, with step 31, STARVED, and the
basis (R31, R52, R60, R67); no other placement changes, the head is IDLE or, where the again mark was set, runs afresh on
a snapshot of what then stands (R50). An entry that becomes STARVED raises CARRIER_STARVED with its grant as detail, one
that ceases to be clears it, and where there is neither the alarm log is untouched (R62). Where each placement of the head
that holds a grant is one that the recompute writes, the grants then add up to at most the budget (R61). In IDLE nothing
changes. -/
def Obligations.ARecomputeInstallsItsDivision : Prop :=
  (∀ k : Fin 32, (2 * powerFactor k - 1) ^ 20 * 10 ^ k.val ≤ 131072 ^ 20 ∧
    131072 ^ 20 ≤ (2 * powerFactor k + 1) ^ 20 * 10 ^ k.val) ∧
  (∀ request grant : Nat,
    (∀ k : Fin 32, chooseStep request grant = some k ↔
      request * powerFactor k ≤ grant * 65536 ∧ ∀ j : Fin 32, j < k → grant * 65536 < request * powerFactor j) ∧
    (chooseStep request grant = none ↔ grant * 65536 < request * powerFactor 31) ∧
    (0 < request → chooseStep request 0 = none)) ∧
  ∀ (s : State) (h : Head), s.mode ≠ .reset →
    (s.power[h].running = none → exec (.recomputeComplete h) s = .next s) ∧
    (∀ x : Snapshot, s.power[h].running = some x → (s.placements.map fun p => (p.head, p.carrier)).Nodup →
      (x.entries.map (·.1)).Nodup →
      let budget := if x.inService = true ∧ x.paOff = false then x.nominal * (8 - x.derate) / 8 else 0
      let written := fun p : Placement => decide (p.head = h) && x.writable.contains p.carrier && s.eligible p
      let install := fun p : Placement =>
        match x.entries.find? (fun e => decide (e.1 = p.carrier)) with
        | none => p
        | some e =>
          let grant := grantOf budget x.entries x.weights e
          match chooseStep e.2 grant with
          | none => { p with grant := grant, step := 31, outcome := .starved, basis := some e.2, inUse := 31 }
          | some k => { p with grant := grant, step := k, outcome := .radiating, basis := some e.2, inUse := k }
      ∃ t, exec (.recomputeComplete h) s = .next t ∧
        t = { s with placements := t.placements, power := t.power, log := t.log, ports := t.ports } ∧
        t.placements = s.placements.map (fun p => if written p = true then install p else p) ∧
        (∀ g, g ≠ h → t.power[g] = s.power[g]) ∧
        (s.power[h].again = false → t.power[h] = { s.power[h] with effective := budget, running := none }) ∧
        (s.power[h].again = true → ∃ y : Snapshot, y.takenOf t h ∧
          t.power[h] =
            { s.power[h] with effective := budget, again := false, running := some y, aged := false
                              snapDerate := y.derate, snapPaOff := y.paOff }) ∧
        ((∀ p ∈ s.placements, written p = true → ((install p).outcome = .starved ↔ p.outcome = .starved)) →
          t.log = s.log ∧ t.ports = s.ports) ∧
        (s.log.sound → ∀ p ∈ s.placements, written p = true →
          let about : Subject := .carrierHead p.carrier h
          ((install p).outcome = .starved → p.outcome ≠ .starved →
            s.log.raised t.log .carrierStarved about s.timing.frame (install p).grant) ∧
          ((install p).outcome ≠ .starved → p.outcome = .starved → t.log.quiet .carrierStarved about)) ∧
        ((∀ p ∈ s.placementsOn h, p.grant ≠ 0 → written p = true ∧ p.carrier ∈ x.entries.map (·.1)) →
          ((t.placementsOn h).map (·.grant)).sum ≤ budget))

/-! ## Admission and validation (Chapters 2 and 8) -/

/-- Admission on a head frees the departing carriers' units in a copy of its lane table and takes the newcomers WIDE, then
MEDIUM, then NARROW: each needs the capability "yes" if it is WIDE, gets the lowest permitted start whose units are FREE
in the copy beside those placed before it, and must pass the delay check; it admits exactly such a run, or fails with
the first newcomer that does not pass and its first failing check (R32, R33, R34, R36). The delay check of a carrier
passes while the delays it considers lie within 1023 du, or no gaining head's delay is known, and else fails on the
lowest gaining head of largest delay (R35). A staged map validates where every changed head admits its newcomers, with
that layout; else it fails with the lowest changed head that does not, and an operator is affected where a head set of
its declared carriers changes (R143, R144). -/
def Obligations.AdmissionAndValidationFollowTheirRules : Prop :=
  (∀ (s : State) (h : Head) (departing newcomers : List Carrier) (newHeads : Carrier → List Head),
    let width := fun c : Carrier => s.carriers[c].width
    let order := newcomers.filter (fun c => decide (width c = .wide)) ++ newcomers.filter (fun c => decide (width c = .medium)) ++
      newcomers.filter (fun c => decide (width c = .narrow))
    let free := fun (placed : List (Carrier × LaneIndex)) (i : LaneIndex) =>
      (decide (s.lanes[h][i] = .free) || departing.any fun d => decide (s.lanes[h][i] = .owned d)) &&
        placed.all fun n => !(decide (n.2.val ≤ i.val) && decide (i.val < n.2.val + (width n.1).units))
    let fits := fun (placed : List (Carrier × LaneIndex)) (c : Carrier) (u : LaneIndex) =>
      u ∈ (width c).starts ∧ ∀ i, covers u.val (width c).units i → free placed i = true
    let able := fun c : Carrier => width c = .wide → s.heads[h].capability = .yes
    let passes := fun (placed : List (Carrier × LaneIndex)) (n : Carrier × LaneIndex) =>
      able n.1 ∧ fits placed n.1 n.2 ∧ (∀ v, fits placed n.1 v → n.2 ≤ v) ∧ s.delayFailure n.1 (newHeads n.1) ≠ some h
    (∀ starts, s.admission h departing newcomers newHeads = .admitted starts ↔
      starts.map (·.1) = order ∧ ∀ a n b, starts = a ++ n :: b → passes a n) ∧
    (∀ r c, s.admission h departing newcomers newHeads = .failed r c →
      ∃ placed rest, order = placed.map (·.1) ++ c :: rest ∧ (∀ a n b, placed = a ++ n :: b → passes a n) ∧
        let room := (List.finRange 8).countP (free placed)
        (r = .incapable ∧ ¬ able c) ∨
        (r = .laneFragmented ∧ able c ∧ (∀ u, ¬ fits placed c u) ∧ (width c).units ≤ room) ∨
        (r = .laneFull ∧ able c ∧ (∀ u, ¬ fits placed c u) ∧ room < (width c).units) ∨
        (r = .delaySpread ∧ able c ∧ (∃ u, fits placed c u) ∧ s.delayFailure c (newHeads c) = some h))) ∧
  (∀ (s : State) (c : Carrier) (newHeads : List Head), newHeads.Pairwise (· < ·) →
    let considered := fun d : Nat => ∃ g ∈ newHeads, s.heads[g].delay = some d ∧
      ∀ p, s.placement g c = some p → p.exclusion = .none
    let within := ∀ a b, considered a → considered b → a ≤ b + 1023
    let gaining := fun g : Head => g ∈ newHeads ∧ g ∉ s.headSet c
    (s.delayFailure c newHeads = none ↔ within ∨ ∀ g, gaining g → s.heads[g].delay = none) ∧
    (∀ g, s.delayFailure c newHeads = some g ↔ ¬ within ∧ gaining g ∧ ∃ d, s.heads[g].delay = some d ∧
      ∀ k e, gaining k → s.heads[k].delay = some e → e < d ∨ (e = d ∧ g ≤ k))) ∧
  (∀ (s : State) (map : SectorMap),
    let newHeads := fun c : Carrier => if s.carriers[c].declared = true then headSetUnder map s.carriers[c].active else []
    let departing := fun h : Head => allCarriers.filter fun c => (s.placement h c).isSome && !(newHeads c).contains h
    let newcomers := fun h : Head => allCarriers.filter fun c => (s.placement h c).isNone && (newHeads c).contains h
    let changed := fun h : Head => departing h ≠ [] ∨ newcomers h ≠ []
    let verdict := fun h : Head => s.admission h (departing h) (newcomers h) newHeads
    (∀ layout, s.validateMap map = .valid layout ↔
      (layout.map (·.head)).Pairwise (· < ·) ∧ (∀ h, h ∈ layout.map (·.head) ↔ changed h) ∧
        ∀ x ∈ layout, x.departing = departing x.head ∧ verdict x.head = .admitted x.newcomers) ∧
    (∀ f, s.validateMap map = .invalid f → ∃ h c, f.head = some h ∧ f.carrier = some c ∧ changed h ∧
      verdict h = .failed f.reason c ∧ ∀ g, g < h → changed g → ∃ starts, verdict g = .admitted starts) ∧
    (∀ l, l ∈ s.affectedSet map ↔ ∃ c : Carrier, s.carriers[c].declared = true ∧ c.owner = l ∧ newHeads c ≠ s.headSet c))

/-- SET_BUDGET on MP stores the clamped budget, answers with it, and asks for a recompute of that head alone, where the
value has changed (R45). SET_WEIGHT does so for every head that carries a placement of the operator (R46). A recompute
that starts works on a snapshot of all that R50 lists, the stored value among it; one that runs keeps its snapshot and is
marked to run again (R50, R51). -/
def Obligations.BudgetsAndWeightsAreStoredAndRecomputed : Prop :=
  ∀ s : State, s.ready Port.mp 1 = true →
    (∀ (h : Head) (b : Half), ∃ t, exec (.setBudget Port.mp (byteOf h) b) s = .next t ∧
      t = { s with power := t.power
                   ports := s.replied Port.mp [replyTo 8 .ok (byte1 h.val ++ byte2 (min 8000 b.toNat))] } ∧
      t.power[h].nominal = min 8000 b.toNat ∧ t.power[h].effective = s.power[h].effective ∧
      (∀ g, g ≠ h → t.power[g] = s.power[g]) ∧
      (s.power[h].nominal = min 8000 b.toNat → t.power = s.power) ∧
      (s.power[h].nominal ≠ min 8000 b.toNat → s.askedFor t h)) ∧
    (∀ (l : Link) (w : Byte), ∃ t, exec (.setWeight Port.mp (byteOf l) w) s = .next t ∧
      t = { s with power := t.power, weights := s.weights.set l w.toNat
                   ports := s.replied Port.mp [replyTo 9 .ok (byte1 l.val ++ byte1 w.toNat)] } ∧
      (s.weights[l] = w.toNat → t.power = s.power) ∧
      (s.weights[l] ≠ w.toNat → ∀ h : Head,
        ((∃ p ∈ s.placements, p.head = h ∧ p.carrier.owner = l) → s.askedFor t h) ∧
        ((∀ p ∈ s.placements, p.head = h → p.carrier.owner ≠ l) → t.power[h] = s.power[h])))

/-! ## Settings of the sample switch and the load monitor -/

/-- SET_UPLINK on MP stores the clamped settings and leaves the rest of the head's switch state alone unless the new
marks leave its RUNNING buffer near an end: then the buffer is re-centred to 32 groups, its slip gate closed and
BUFFER_SLIP raised with the fill (R73, R74, R83). SET_SATURATION stores the threshold and keeps the running count (R84). -/
def Obligations.SwitchSettingsAreStored : Prop :=
  ∀ s : State, s.ready Port.mp 1 = true →
    (∀ (h : Head) (f : UplinkFields), f.head = byteOf h →
      let x : UplinkHead :=
        { s.uplinks[h] with gain := f.gain.toNat, almostEmpty := clamp 1 31 f.almostEmpty.toNat
                            almostFull := clamp 1 31 f.almostFull.toNat, ceiling := f.ceiling.toNat
                            onset := clamp 1 1000 f.onset.toNat, release := clamp 1 1000 f.release.toNat }
      let slips := x.running = true ∧
        (x.groups.length ≤ x.almostEmpty ∨ 64 - x.almostFull ≤ x.groups.length)
      let slipped := s.raise .bufferSlip (.head h) x.groups.length
      ∃ t, exec (.setUplink Port.mp f) s = .next t ∧
        t = { s with uplinks := t.uplinks, log := t.log, ports := t.ports } ∧
        (∀ g, g ≠ h → t.uplinks[g] = s.uplinks[g]) ∧
        t.ports[Port.mp] = s.ports[Port.mp].sent [replyTo 12 .ok (byte1 h.val ++ byte1 x.gain ++ byte1 x.almostEmpty ++
          byte1 x.almostFull ++ byte4 x.ceiling ++ byte2 x.onset ++ byte2 x.release)] ∧
        (¬ slips → t.uplinks[h] = x ∧ t.log = s.log ∧ ∀ p, p ≠ Port.mp → t.ports[p] = s.ports[p]) ∧
        (slips → t.uplinks[h] = { x with groups := recentre x.groups, slipGate := 2 } ∧
          t.uplinks[h].groups.length = 32 ∧ t.log = slipped.log ∧ ∀ p, p ≠ Port.mp → t.ports[p] = slipped.ports[p])) ∧
    (∀ (c : Carrier) (n : Half), exec (.setSaturation Port.mp (byteOf c) n) s =
      .next { s with monitors := s.monitors.set c { s.monitors[c] with threshold := n.toNat }
                     ports := s.replied Port.mp [replyTo 13 .ok (byte1 c.val ++ byte2 n.toNat)] })

/-- SET_LOAD_WINDOW on MP stores the clamped length and, where it has changed, starts the window afresh from the next
frame with every trigger's count 0 and deferred flag no; a window end that the last boundary has left due publishes the
old window first, an order that is log entry 6's, and its triggers are evaluated before the restart up to the first
firing alone, which is log entry 29's (R129, R130, R133). SET_ACTIVITY stores the threshold (R130). TRIGGER_SET
writes the record with its count 0, not deferred and awaiting no answer, and is answered with the record alone, in the
bytes of log entry 10 (R135). SET_CONSENT stores the clamped consent time and the four modes and leaves every slot as it
is (R141). -/
def Obligations.LoadAndConsentSettingsAreStored : Prop :=
  ∀ s : State, s.ready Port.mp 1 = true →
    (∀ length : Half, let n := clamp 10 6000 length.toNat
      (.loadWindow ∉ s.due ∨ s.load.window = n → exec (.setLoadWindow Port.mp length) s =
        .next { s with
          load :=
            if s.load.window = n then s.load
            else
              { s.load with
                window := n, windowStart := s.timing.frame + 1, windowFrames := 0
                heads := Vector.ofFn fun h => { s.load.heads[h] with present := 0, busy := 0 }
                triggers := Vector.ofFn fun t => { s.load.triggers[t] with count := 0, deferred := false } }
          ports := s.replied Port.mp [replyTo 24 .ok (byte2 n)] }) ∧
      (.loadWindow ∈ s.due → s.load.windowFrames = s.load.window → s.load.window ≠ n → s.room Port.mp 2 = true →
        ∃ t r ms, exec (.setLoadWindow Port.mp length) s = .next t ∧
          t = { s with load := t.load, plans := t.plans, ports := t.ports, due := t.due } ∧
          t.load.published = some r ∧ r.frame = s.timing.frame ∧ r.window = s.load.window ∧
          t.load.window = n ∧ t.load.windowStart = s.timing.frame + 1 ∧ t.load.windowFrames = 0 ∧
          (∀ h : Head, t.load.heads[h] = { s.load.heads[h] with present := 0, busy := 0 }) ∧
          (∀ i : TriggerIndex, t.load.triggers[i].count = 0 ∧ t.load.triggers[i].deferred = false) ∧
          t.ports[Port.mp] = s.ports[Port.mp].sent (ms ++ [replyTo 24 .ok (byte2 n)]))) ∧
    (∀ (h : Head) (a : Word), exec (.setActivity Port.mp (byteOf h) a) s =
      .next { s with load := { s.load with heads := s.load.heads.set h { s.load.heads[h] with activity := a.toNat } }
                     ports := s.replied Port.mp [replyTo 25 .ok (byte1 h.val ++ byte4 a.toNat)] }) ∧
    (∀ (t : TriggerIndex) (armed below repeating : Bool) (sector : Sector) (slot : SlotIndex) (mark windows : Byte),
      let x : Trigger :=
        { armed := armed, sector := sector, direction := if below then .below else .above, mark := min 100 mark.toNat
          windows := clamp 1 16 windows.toNat, slot := slot, mode := if repeating then .repeating else .single
          count := 0, deferred := false, awaiting := false }
      exec (.triggerSet Port.mp
          { trigger := byteOf t, armed := flagByte armed, sector := byteOf sector, direction := flagByte below, mark := mark
            windows := windows, slot := byteOf slot, mode := flagByte repeating }) s =
        .next { s with load := { s.load with triggers := s.load.triggers.set t x }
                       ports := s.replied Port.mp [replyTo 26 .ok ([flagByte armed, byteOf sector, flagByte below] ++
                         byte1 x.mark ++ byte1 x.windows ++ [byteOf slot, flagByte repeating] ++ [0, 0, 0])] }) ∧
    (∀ (time : Half) (presumed : Vector Bool 4), exec (.setConsent Port.mp time (presumed.map flagByte)) s =
      .next { s with
        plans := { s.plans with
          consentTime := clamp 1 60000 time.toNat
          modes := presumed.map fun b => if b then .presumed else .required }
        ports := s.replied Port.mp [replyTo 39 .ok (byte2 (clamp 1 60000 time.toNat) ++ presumed.toList.map flagByte)] })

/-! ## Refusals -/

/-- Every request of MP's alone, with its fields in range, is refused NOT_PERMITTED on an operator link and changes
nothing, those of the plan controller while the arbiter is free; and so is CONSENT on MP (R45, R46, R83, R84, R87, R89,
R113, R130, R135, R136, R137, R141, R142, R145, R146, R151, R153, R160, R191, R195, R197). -/
def Obligations.VenueRequestsAreRefusedOnOperatorLinks : Prop :=
  (∀ (s : State) (l : Link), s.ready (Port.ofLink l) 1 = true →
    let p := Port.ofLink l
    let no := fun type : Nat => Host.Outcome.next (φ := Fault) (ρ := Refusal) (s.answered p type .notPermitted [])
    (∀ h : Head,
      (∀ b, exec (.setBudget p (byteOf h) b) s = no 8) ∧
      (∀ f : UplinkFields, f.head = byteOf h → exec (.setUplink p f) s = no 12) ∧
      (∀ f : HeadLinkFields, f.head = byteOf h → exec (.setHeadLink p f) s = no 16) ∧
      exec (.headEnable p (byteOf h)) s = no 17 ∧ exec (.headDisable p (byteOf h)) s = no 18 ∧
      (∀ b, exec (.testStart p (byteOf h) (flagByte b)) s = no 20) ∧
      (∀ b, exec (.testSnapshot p (byteOf h) (flagByte b)) s = no 21) ∧
      exec (.testRead p (byteOf h)) s = no 22 ∧ exec (.testStop p (byteOf h)) s = no 23 ∧
      (∀ a, exec (.setActivity p (byteOf h) a) s = no 25)) ∧
    (∀ (k : Link) (w : Byte), exec (.setWeight p (byteOf k) w) s = no 9) ∧
    (∀ (c : Carrier) (n : Half), exec (.setSaturation p (byteOf c) n) s = no 13) ∧
    (∀ n, exec (.setLoadWindow p n) s = no 24) ∧
    (∀ (t : TriggerIndex) (a d o : Bool) (x : Sector) (k : SlotIndex) (mark windows : Byte),
      exec (.triggerSet p
        { trigger := byteOf t, armed := flagByte a, sector := byteOf x, direction := flagByte d, mark := mark
          windows := windows, slot := byteOf k, mode := flagByte o }) s = no 26) ∧
    (∀ t : TriggerIndex, exec (.triggerRead p (byteOf t)) s = no 27) ∧
    exec (.loadReport p) s = no 28 ∧
    (∀ k : SlotIndex, exec (.planRead p (byteOf k)) s = no 38) ∧
    (∀ (time : Half) (modes : Vector Bool 4), exec (.setConsent p time (modes.map flagByte)) s = no 39) ∧
    exec (.start p) s = no 48 ∧ exec (.hold p) s = no 49 ∧ exec (.restart p) s = no 50 ∧
    (s.arbiterFree = true →
      let no := fun type : Nat => Host.Outcome.next (φ := Fault) (ρ := Refusal) (s.grantedAnswer p type .notPermitted [])
      (∀ k : SlotIndex,
        (∀ (b : Bool) (entries : List (Head × Option Sector)), 1 ≤ entries.length → entries.length ≤ 16 →
          exec (.planEdit p (byteOf k) (flagByte b) (entries.map fun e =>
            (byteOf e.1, match e.2 with
              | none => (255 : Byte)
              | some x => byteOf x))) s = no 32) ∧
        exec (.planValidate p (byteOf k)) s = no 33 ∧ exec (.planPropose p (byteOf k)) s = no 34) ∧
      (∀ n : Byte, n ≠ 0 → exec (.planCancel p n) s = no 35))) ∧
  (∀ s : State, s.ready Port.mp 1 = true → s.arbiterFree = true → ∀ (n : Byte) (refuse : Bool), n ≠ 0 →
    exec (.consent Port.mp n (if refuse then 2 else 1)) s = .next (s.grantedAnswer Port.mp 36 .notPermitted []))

/-- A field out of its range is refused BAD_REQUEST from every port, before the port is looked at, and nothing changes;
so for every request type whose fields have a range, those of the arbiter while it is free (R7, R12, R13, R45, R46, R83,
R84, R87, R89, R113, R130, R135, R137, R141, R142, R145, R146, R151, R153, R160, R171, R176, R190). -/
def Obligations.NumbersOutOfRangeAreRefused : Prop :=
  ∀ (s : State) (p : Port) (n : Byte), s.ready p 1 = true →
    let bad := fun type : Nat => Host.Outcome.next (φ := Fault) (ρ := Refusal) (s.answered p type .badRequest [])
    (16 ≤ n.toNat →
      (∀ b, exec (.setBudget p n b) s = bad 8) ∧ (∀ b, exec (.setSaturation p n b) s = bad 13) ∧
      (∀ f : UplinkFields, f.head = n → exec (.setUplink p f) s = bad 12) ∧
      (∀ f : HeadLinkFields, f.head = n → exec (.setHeadLink p f) s = bad 16) ∧
      exec (.headEnable p n) s = bad 17 ∧ exec (.headDisable p n) s = bad 18 ∧
      (∀ m, exec (.testStart p n m) s = bad 20) ∧ (∀ c, exec (.testSnapshot p n c) s = bad 21) ∧
      exec (.testRead p n) s = bad 22 ∧ exec (.testStop p n) s = bad 23 ∧ (∀ a, exec (.setActivity p n a) s = bad 25) ∧
      exec (.status p 0 (some n)) s = bad 4 ∧ exec (.status p 1 (some n)) s = bad 4) ∧
    (2 ≤ n.toNat → ∀ m, exec (.testStart p m n) s = bad 20 ∧ exec (.testSnapshot p m n) s = bad 21) ∧
    (4 ≤ n.toNat → (∀ w, exec (.setWeight p n w) s = bad 9) ∧ exec (.planRead p n) s = bad 38) ∧
    (8 ≤ n.toNat → exec (.triggerRead p n) s = bad 27) ∧
    (64 ≤ n.toNat → exec (.alarmRead p n) s = bad 41) ∧
    (3 ≤ n.toNat → ∀ m, exec (.status p n m) s = bad 4) ∧
    (∀ f : TriggerFields, 8 ≤ f.trigger.toNat ∨ 2 ≤ f.armed.toNat ∨ 12 ≤ f.sector.toNat ∨ 2 ≤ f.direction.toNat ∨
      4 ≤ f.slot.toNat ∨ 2 ≤ f.mode.toNat → exec (.triggerSet p f) s = bad 26) ∧
    (∀ (time : Half) (modes : Vector Byte 4), (∃ b ∈ modes.toList, 2 ≤ b.toNat) → exec (.setConsent p time modes) s = bad 39) ∧
    (∀ payload : List Byte, payload.length ≤ 61 → 5 ≤ n.toNat ∨ payload = [] ∨ 48 < payload.length →
      exec (.post p n payload) s = bad 44) ∧
    (s.arbiterFree = true →
      let bad := fun type : Nat => Host.Outcome.next (φ := Fault) (ρ := Refusal) (s.grantedAnswer p type .badRequest [])
      (∀ w pw k, 16 ≤ n.toNat ∨ 3 ≤ w.toNat → exec (.declare p n w pw k) s = bad 1) ∧
      (16 ≤ n.toNat → exec (.withdraw p n) s = bad 2) ∧
      (∀ list : List Byte, list.length ≤ 61 → 16 ≤ n.toNat ∨ 12 < list.length ∨ (∃ b ∈ list, 12 ≤ b.toNat) →
        exec (.bind p n list) s = bad 3) ∧
      (∀ (base : Byte) (entries : List (Byte × Byte)), entries.length ≤ 30 →
        4 ≤ n.toNat ∨ 2 ≤ base.toNat ∨ entries = [] ∨ 16 < entries.length ∨
          (∃ e ∈ entries, 16 ≤ e.1.toNat ∨ (12 ≤ e.2.toNat ∧ e.2 ≠ 255)) →
        exec (.planEdit p n base entries) s = bad 32) ∧
      (4 ≤ n.toNat → exec (.planValidate p n) s = bad 33 ∧ exec (.planPropose p n) s = bad 34) ∧
      exec (.planCancel p 0) s = bad 35 ∧
      (∀ a : Byte, n = 0 ∨ (a ≠ 1 ∧ a ≠ 2) → exec (.consent p n a) s = bad 36))

/-! ## Reading -/

/-- STATUS and PLAN_QUERY from every port, TEST_READ, TRIGGER_READ, LOAD_REPORT and PLAN_READ from MP are answered from
the state as it stands and change nothing else (R24, R43, R120, R136, R137, R150, R160, R190). The LOAD_REPORT reply
has 50 payload bytes (R183). The bytes of the other replies are the layouts that the model chooses (log entries 5, 10, 30
and 31). -/
def Obligations.ReadingChangesNothing : Prop :=
  ∀ (s : State) (p : Port),
    (s.ready p 16 = true →
      (let r := Request.status 2 none
       exec (.status p 2 none) s =
        .next (s.withReply p (replyMessages r.toMessage (.segmented (s.taken p r).deviceStatus)))) ∧
      (∀ c : Carrier, sees p c = true →
        exec (.status p 0 (some (byteOf c))) s =
          .next (s.withReply p
            (replyMessages (Request.status 0 (some (byteOf c))).toMessage (.segmented (s.carrierStatus c))))) ∧
      (∀ c : Carrier, sees p c = false →
        exec (.status p 0 (some (byteOf c))) s = .next (s.answered p 4 .notPermitted [])) ∧
      (∀ h : Head, exec (.status p 1 (some (byteOf h))) s =
        .next (s.withReply p
          (replyMessages (Request.status 1 (some (byteOf h))).toMessage (.segmented (s.headStatus p h))))) ∧
      (∃ contents, exec (.planQuery p) s =
          .next (s.withReply p (replyMessages Request.planQuery.toMessage (.segmented contents))) ∧
        (∀ l, p = Port.ofLink l → (s.pendingPlan = none ∨ ∃ k o, s.pendingPlan = some (k, o) ∧ l ∉ o.affected) →
          s.plans.last = none → contents = [0, 0])) ∧
      (p = Port.mp → ∀ k : SlotIndex, exec (.planRead p (byteOf k)) s =
        .next (s.withReply p (replyMessages (Request.planRead (byteOf k)).toMessage (.segmented s.plans.slots[k].bytes))))) ∧
    (s.ready Port.mp 1 = true →
      (∀ h : Head, exec (.testRead Port.mp (byteOf h)) s =
        .next (s.answered Port.mp 22 .ok
          ((match s.heads[h].test.snapshot with
            | none => byteFlag false
            | some x => byteFlag true ++ x.bytes) ++ byte1 s.heads[h].liveChecker))) ∧
      (∀ t : TriggerIndex, exec (.triggerRead Port.mp (byteOf t)) s =
        .next (s.answered Port.mp 27 .ok s.load.triggers[t].bytes)) ∧
      exec (.loadReport Port.mp) s = .next (s.answered Port.mp 28 .ok s.loadReportBytes) ∧
      (replyTo 28 .ok s.loadReportBytes).payload.length = 50)

/-! ## The alarm log and the inboxes (Chapter 9) -/

/-- A raise with a record merges into it: one more occurrence, last frame and detail new, first frame kept, a condition
ACTIVE and an event CLEARED now, every reader of the extended audience pending and not seen (R163, R167, R169). Without
one it creates its record in the lowest free slot, or in that of the CLEARED record whose clear frame is oldest, the
lowest among equals, whose pending readers then have EVICTED set (R164, R172); with every record ACTIVE it is counted as
dropped, sets FULL and changes no record (R165). A raise names MP and the operators placed on the head, owning the
carrier, or of the link (R167). A clear moves an ACTIVE condition to CLEARED, keeps its count, detail and audience, sets
its readers pending and not seen, and clears FULL; of any other it changes nothing (R166). Both change the log and the ports
alone, and ATTENTION with the number of enabled pending records goes to exactly those operators, on an UP link with room,
whose composite the change takes from false to true (R174, R175); of an eviction the composite is formed between it and the
new record, by log entry 17. -/
def Obligations.RaisesAndClearsFollowTheLogsRules : Prop :=
  ∀ (s : State) (k : AlarmKind) (x : Subject) (d : Nat),
    let counts := fun (log : AlarmLog) (p : Port) (i : Fin 64) => match log.slots[i] with
      | none => false
      | some r => r.notices[p].pending && log.masks[p].getLsbD r.kind.number.val
    let composite := fun (log : AlarmLog) (p : Port) => (List.finRange 64).any (counts log p)
    let attended := fun (t : State) (before : AlarmLog) => t = { s with log := t.log, ports := t.ports } ∧
      t.ports[Port.mp] = s.ports[Port.mp] ∧ ∀ l : Link, let p := Port.ofLink l
        t.ports[p] =
          if composite before p = false ∧ composite t.log p = true ∧ s.portOpen p = true ∧ s.room p 1 = true then
            s.ports[p].sent [mkMessage 98 (byte1 ((List.finRange 64).countP (counts t.log p)))]
          else s.ports[p]
    (s.raiseReaders x)[Port.mp] = true ∧
    (∀ l : Link, (s.raiseReaders x)[Port.ofLink l] = true ↔
      match x with
      | .head h => ∃ p ∈ s.placements, p.head = h ∧ p.carrier.owner = l
      | .carrier c => c.owner = l
      | .carrierHead c _ => c.owner = l
      | .link j => j = l) ∧
    (∀ (i : Fin 64) (r : AlarmRecord), s.log.find k x = some (i, r) →
      attended (s.raise k x d) s.log ∧ ∃ q, (s.raise k x d).log = { s.log with slots := s.log.slots.set i (some q) } ∧
        q.kind = r.kind ∧ q.subject = r.subject ∧ q.firstFrame = r.firstFrame ∧ q.lastFrame = s.timing.frame ∧
        q.count = min 255 (r.count + 1) ∧ q.detail = BitVec.ofNat 32 d ∧
        q.clearFrame = (if r.kind.isEvent then some s.timing.frame else none) ∧
        (∀ p : Port, q.audience[p] = (r.audience[p] || (s.raiseReaders r.subject)[p]) ∧
          q.notices[p] = { pending := q.audience[p], seen := false })) ∧
    (s.log.find k x = none →
      let new := fun q : AlarmRecord => q.kind = k ∧ q.subject = x ∧ q.firstFrame = s.timing.frame ∧
        q.lastFrame = s.timing.frame ∧ q.clearFrame = (if k.isEvent then some s.timing.frame else none) ∧ q.count = 1 ∧
        q.detail = BitVec.ofNat 32 d ∧ q.audience = s.raiseReaders x ∧
        ∀ p : Port, q.notices[p] = { pending := q.audience[p], seen := false }
      (∀ i : Fin 64, s.log.slots[i] = none → (∀ j, j < i → s.log.slots[j] ≠ none) →
        attended (s.raise k x d) s.log ∧ ∃ q, new q ∧ (s.raise k x d).log = { s.log with slots := s.log.slots.set i (some q) }) ∧
      ((∀ j : Fin 64, s.log.slots[j] ≠ none) → ∀ (i : Fin 64) (r : AlarmRecord) (f : Frame), s.log.slots[i] = some r →
        r.clearFrame = some f →
        (∀ (j : Fin 64) (q : AlarmRecord) (g : Frame), s.log.slots[j] = some q → q.clearFrame = some g →
          s.elapsed g < s.elapsed f ∨ (s.elapsed g = s.elapsed f ∧ i ≤ j)) →
        attended (s.raise k x d) { s.log with slots := s.log.slots.set i none } ∧
        ∃ q, new q ∧ (s.raise k x d).log =
          { s.log with slots := s.log.slots.set i (some q)
                       evicted := Vector.ofFn fun p => s.log.evicted[p] || r.notices[p].pending }) ∧
      ((∀ i : Fin 64, ∃ r, s.log.slots[i] = some r ∧ r.active = true) →
        s.raise k x d = { s with log := { s.log with dropped := min 255 (s.log.dropped + 1), full := true } })) ∧
    (∀ (i : Fin 64) (r : AlarmRecord), s.log.find k x = some (i, r) → r.active = true → r.kind.isEvent = false →
      attended (s.clear k x) s.log ∧ ∃ q, (s.clear k x).log = { s.log with slots := s.log.slots.set i (some q), full := false } ∧
        q = { r with clearFrame := some s.timing.frame, notices := q.notices } ∧
        ∀ p : Port, q.notices[p] = { pending := r.audience[p], seen := false }) ∧
    ((∀ i r, s.log.find k x = some (i, r) → r.active = false ∨ r.kind.isEvent = true) → s.clear k x = s)

/-- ALARM_SUMMARY from every port lists the records pending for the reader, oldest last-change frame first and ascending slot
among equals, at most 16, with MORE, the reader's EVICTED flag and for MP the dropped-raise count and FULL; the listed
records become seen for the reader and stay pending, its EVICTED flag is cleared, for MP the dropped-raise count becomes 0,
and FULL, the masks and every other notice are as they were (R170). ALARM_READ returns the record in the layout of R183 and
clears the reader's pending notice exactly where the record was seen; a free slot, or a record whose audience the reader is
not in, is refused NO_RECORD (R171, R183). ALARM_MASK replaces the mask of its own reader alone; where that takes an operator's
composite from false to true, ATTENTION goes ahead of the reply (R173, R174, R175), an order that is the model's choice (log
entry 36), as the bytes of the summary are (log entry 10). -/
def Obligations.SummariesReadsAndMasksConcernTheirReaderAlone : Prop :=
  (∀ (s : State) (p : Port), s.ready p 16 = true →
    let pending := (List.finRange 64).countP fun i => match s.log.slots[i] with
      | none => false
      | some r => r.notices[p].pending
    let change := fun r : AlarmRecord => r.clearFrame.getD r.lastFrame
    let before := fun x y : Fin 64 × AlarmRecord => s.elapsed (change y.2) < s.elapsed (change x.2) ∨
      (s.elapsed (change x.2) = s.elapsed (change y.2) ∧ x.1 < y.1)
    ∃ (t : State) (listed : List (Fin 64 × AlarmRecord)), exec (.alarmSummary p) s = .next t ∧
      listed.length = min 16 pending ∧ listed.Pairwise before ∧
      (∀ x ∈ listed, s.log.slots[x.1] = some x.2 ∧ x.2.notices[p].pending = true) ∧
      (∀ (i : Fin 64) (r : AlarmRecord), s.log.slots[i] = some r → r.notices[p].pending = true →
        (i, r) ∈ listed ∨ ∀ x ∈ listed, before x (i, r)) ∧
      t = { s with
        log := t.log
        ports := s.replied p (replyMessages Request.alarmSummary.toMessage (.segmented (
          byte1 listed.length ++
          (listed.map fun x => byte1 x.1.val ++ byte1 x.2.kind.number.val ++ x.2.subject.bytes ++ byteFlag (!x.2.active)).flatten ++
          byteFlag (decide (16 < pending)) ++ byteFlag s.log.evicted[p] ++
          (if p = Port.mp then byte1 s.log.dropped ++ byteFlag s.log.full else [])))) } ∧
      t.log = { s.log with slots := t.log.slots, evicted := s.log.evicted.set p false
                           dropped := if p = Port.mp then 0 else s.log.dropped } ∧
      ∀ i : Fin 64,
        (i ∉ listed.map (·.1) → t.log.slots[i] = s.log.slots[i]) ∧
        (∀ r, (i, r) ∈ listed → t.log.slots[i] =
          some { r with notices := r.notices.set p { pending := true, seen := true } })) ∧
  (∀ (s : State) (p : Port) (i : Fin 64), s.ready p 1 = true →
    (∀ r, s.log.slots[i] = some r → r.audience[p] = true →
      let n : Notice := { pending := r.notices[p].pending && !r.notices[p].seen, seen := r.notices[p].seen }
      exec (.alarmRead p (byteOf i)) s =
        .next { s with
          log := { s.log with slots := s.log.slots.set i (some { r with notices := r.notices.set p n }) }
          ports := s.replied p [replyTo 41 .ok (r.bytes i p)] } ∧
      (replyTo 41 .ok (r.bytes i p)).payload.length = if p = Port.mp then 31 else 25) ∧
    ((s.log.slots[i] = none ∨ ∃ r, s.log.slots[i] = some r ∧ r.audience[p] = false) →
      exec (.alarmRead p (byteOf i)) s = .next (s.answered p 41 .noRecord []))) ∧
  (∀ (s : State) (p : Port) (e : Half), s.ready p 2 = true →
    let log : AlarmLog := { s.log with masks := s.log.masks.set p e }
    let attention := if p ≠ Port.mp ∧ s.log.composite p = false ∧ log.composite p = true then [attentionMessage log p] else []
    exec (.alarmMask p e) s =
      .next { s with log := log, ports := s.replied p (attention ++ [replyTo 42 .ok (byte2 e.toNat)]) })

/-- POST fills an empty inbox with its sender and payload, an operator's inbox with MAIL to an open port that has room,
and is refused where the inbox is full or the pair is not an operator and MP; TAKE empties a full inbox into its
reply and is refused on an empty one (R176, R177, R178). That MAIL and the reply to TAKE number their sender 0 to 4, and that
the reply puts no length byte ahead of the payload, is the model's choice (log entry 10). -/
def Obligations.InboxesHoldOneMessageUntilItIsTaken : Prop :=
  (∀ (s : State) (p d : Port) (payload : List Byte), s.ready p 1 = true → 1 ≤ payload.length → payload.length ≤ 48 →
    (postPermitted p d = false → exec (.post p (byteOf d) payload) s = .next (s.answered p 44 .notPermitted [])) ∧
    (postPermitted p d = true → s.inboxes[d].isSome = true →
      exec (.post p (byteOf d) payload) s = .next (s.answered p 44 .inboxFull [])) ∧
    (postPermitted p d = true → s.inboxes[d] = none →
      ∃ t, exec (.post p (byteOf d) payload) s = .next t ∧
        t = { s with inboxes := s.inboxes.set d (some { sender := p, payload := payload }), ports := t.ports } ∧
        t.ports[p] = s.ports[p].sent [replyTo 44 .ok []] ∧
        (∀ q, q ≠ p → q ≠ d → t.ports[q] = s.ports[q]) ∧
        t.ports[d] = (if d ≠ Port.mp ∧ s.portOpen d = true ∧ s.room d 1 = true then
          s.ports[d].sent [mkMessage 99 (byte1 p.val ++ byte1 payload.length)] else s.ports[d]) ∧
        (d = Port.mp → t.attnN = false))) ∧
  (∀ (s : State) (p : Port), s.ready p 1 = true →
    (s.inboxes[p] = none → exec (.take p) s = .next (s.answered p 45 .inboxEmpty [])) ∧
    (∀ x, s.inboxes[p] = some x → x.payload.length ≤ 48 →
      exec (.take p) s =
        .next { s with inboxes := s.inboxes.set p none
                       ports := s.replied p [replyTo 45 .ok (byte1 x.sender.val ++ x.payload)] }))

/-! ## Head links by request (Chapters 5 and 6) -/

/-- HEAD_ENABLE takes a head from OFF to SEEK with its counts at 0 and leaves a head in any other state as it is;
HEAD_DISABLE leaves a head in OFF as it is (R89) and takes one from any other state to OFF: what was measured is unknown,
the last report is discarded, counts are 0, timers stop, its five conditions are held no longer and are cleared in the
alarm log, as is UPLINK_NOISE, its buffer is STOPPED and empty, its guard is reset, derate 0 and PA-off clear are handed
on and its placements take part in no division; settings, snapshot and count mode are kept, and no other head's link or
switch state changes (R70, R80, R90, R99, R121). -/
def Obligations.HeadsAreEnabledAndDisabled : Prop :=
  ∀ (s : State) (h : Head), s.ready Port.mp 1 = true →
    (s.heads[h].state = .off →
      exec (.headEnable Port.mp (byteOf h)) s =
        .next { s with
          heads := s.heads.set h { s.heads[h] with state := .seek, lockedCount := 0, reportSeen := false, blipFrames := 0
                                                   blips := 0, lightTimer := none }
          ports := s.replied Port.mp [replyTo 17 .ok []] } ∧
      exec (.headDisable Port.mp (byteOf h)) s = .next (s.answered Port.mp 18 .ok [])) ∧
    (s.heads[h].state ≠ .off →
      exec (.headEnable Port.mp (byteOf h)) s = .next (s.answered Port.mp 17 .ok []) ∧
      ∃ t, exec (.headDisable Port.mp (byteOf h)) s = .next t ∧
        t = { s with heads := t.heads, uplinks := t.uplinks, carriers := t.carriers, placements := t.placements
                     power := t.power, load := t.load, log := t.log, ports := t.ports } ∧
        (let x := s.heads[h]
         t.heads[h] =
          { x with
            state := .off, capability := .unknown, latency := none, delay := none, fibre := none, report := none
            lockedCount := 0, reportSeen := false, attempt := 0, markers := none, remeasureCount := 0
            reportTimer := none, lightTimer := none, blipFrames := 0, blips := 0, errorFrames := 0, errors := 0
            degradedCount := 0, holdOffCount := 0, latePassed := false, watched := false, held := t.heads[h].held
            test :=
              { mode := x.test.mode, pattern := BitVec.allOnes 15, reference := none, locked := false, cleanRun := 0
                history := [], checked := 0, errored := 0, wraps := 0, stopped := false, snapshot := x.test.snapshot } }) ∧
        (∀ k ∈ t.heads[h].held, k ∈ s.heads[h].held ∧
          k ∉ [.headLinkLost, .headFailed, .headDegraded, .reportLate, .headFault]) ∧
        (s.log.sound → t.log.quiet .uplinkNoise (.head h) ∧
          ∀ k ∈ [AlarmKind.headLinkLost, .headFailed, .headDegraded, .reportLate, .headFault],
            k ∈ s.heads[h].held ∨ s.log.quiet k (.head h) → t.log.quiet k (.head h)) ∧
        t.uplinks[h] = { s.uplinks[h] with running := false, groups := [], muted := false, loud := 0, quiet := 0 } ∧
        t.power[h].handedDerate = 0 ∧ t.power[h].handedPaOff = false ∧
        (∀ p ∈ t.placements, p.head = h → t.eligible p = false) ∧
        (s.inService h = true → t.power[h].running.isSome = true ∧ t.load.heads[h].whole = false) ∧
        (∀ g, g ≠ h → t.heads[g] = s.heads[g] ∧ t.uplinks[g] = s.uplinks[g]) ∧
        t.ports[Port.mp] = s.ports[Port.mp].sent [replyTo 18 .ok []])

/-- SET_HEAD_LINK on MP stores the settings of its head, every value clamped, and those of no other (R87), recomputes the
fibre length (R102), reloads the countdown of an in-service head at rest where the interval is a new one (R100), and
does nothing else where no limit that is compared at once is new. Each new limit then does what its event would do now: a
hysteresis that the locked frames meet, with a report seen, takes SEEK to MEASURE, a maximum acts as REPORT_LATE does on a
timer that has yet to pass it, a lost limit as REPORT_LOST_LIMIT and a blip limit as BLIP_LIMIT_REACHED (R87, R92, R103 to
R105). So a new maximum alone that the running timer has passed, with the lost limit above it, raises REPORT_LATE, and one
that it has not is yet to be passed. The order of the four, and that a limit or an interval sent with its old value is not a
new one, are log entry 27. -/
def Obligations.HeadLinkSettingsAreStored : Prop :=
  ∀ (s : State) (h : Head) (f : HeadLinkFields), f.head = byteOf h → s.ready Port.mp 1 = true →
    let x := s.heads[h]
    let within := fun lo hi n : Nat => max lo (min hi n)
    let top := within 20 5000 f.reportMax.toNat
    let degrade := within 1 65535 f.degradeThreshold.toNat
    let y : HeadSettings :=
      { hysteresis := min 3 f.hysteresis.toNat, reportMin := min (within 10 1000 f.reportMin.toNat) top, reportMax := top
        lostLimit := within 100 10000 f.lostLimit.toNat, blipLimit := within 1 255 f.blipLimit.toNat
        degradeThreshold := degrade, clearThreshold := min f.clearThreshold.toNat degrade
        failCount := within 1 255 f.failCount.toNat, holdOff := within 1 65535 f.holdOff.toNat
        remeasure := f.remeasure.toNat, tolerance := min 15 f.tolerance.toNat, fibreCode := min 11 f.fibreCode.toNat }
    let reply := replyTo 16 .ok (byte1 h.val ++ byte1 y.hysteresis ++ byte2 y.reportMin ++ byte2 y.reportMax ++
      byte2 y.lostLimit ++ byte1 y.blipLimit ++ byte2 y.degradeThreshold ++ byte2 y.clearThreshold ++ byte1 y.failCount ++
      byte2 y.holdOff ++ byte2 y.remeasure ++ byte1 y.tolerance ++ byte1 y.fibreCode)
    let z : HeadLink :=
      { x with settings := y, fibre := x.delay.map fun d => 4 * d * 100 / (470 + 5 * y.fibreCode)
               remeasureCount :=
                 if y.remeasure ≠ x.settings.remeasure ∧ s.inService h = true ∧ x.markers = none then y.remeasure
                 else x.remeasureCount }
    let old := x.settings
    let now := s.timing.now
    let stored : State := { s with heads := s.heads.set h z }
    let seeks := x.state = .seek ∧ 2 ^ (y.hysteresis + 1) ≤ x.lockedCount ∧ x.reportSeen = true
    let measuring : State := { s with heads := s.heads.set h { z with
      state := .measure, attempt := 0, markers := none, reportTimer := some now, latePassed := false, watched := false } }
    ∃ t, exec (.setHeadLink Port.mp f) s = .next t ∧
      (∃ a b c d : State,
        (y.hysteresis = old.hysteresis ∨ ¬ seeks → a = stored) ∧ (y.hysteresis ≠ old.hysteresis → seeks → a = measuring) ∧
        (y.reportMax = old.reportMax → b = a) ∧
        (y.reportMax ≠ old.reportMax →
          exec (.reportLate h now) { a with heads := a.heads.set h { a.heads[h] with latePassed := false } } = .next b) ∧
        (y.lostLimit = old.lostLimit → c = b) ∧ (y.lostLimit ≠ old.lostLimit → exec (.reportLostLimit h now) b = .next c) ∧
        (y.blipLimit = old.blipLimit → d = c) ∧ (y.blipLimit ≠ old.blipLimit → exec (.blipLimitReached h now) c = .next d) ∧
        t = { d with ports := d.replied Port.mp [reply] }) ∧
      t = { s with heads := t.heads, uplinks := t.uplinks, carriers := t.carriers, placements := t.placements
                   power := t.power, load := t.load, log := t.log, ports := t.ports } ∧
      t.heads[h].settings = y ∧ (∀ g, g ≠ h → t.heads[g] = s.heads[g]) ∧
      t.ports[Port.mp] = s.ports[Port.mp].sent [reply] ∧
      (y.hysteresis = old.hysteresis → y.lostLimit = old.lostLimit → y.blipLimit = old.blipLimit →
        (y.reportMax = old.reportMax → t = { s with heads := s.heads.set h z, ports := s.replied Port.mp [reply] }) ∧
        (y.reportMax ≠ old.reportMax →
          (y.lostLimit ≤ y.reportMax ∨ (∀ start, x.reportTimer = some start → s.reportMs start ≤ y.reportMax) →
            t = { s with heads := s.heads.set h { z with latePassed := false }, ports := s.replied Port.mp [reply] }) ∧
          (∀ start, x.reportTimer = some start → y.reportMax < s.reportMs start → y.reportMax < y.lostLimit →
            t = { s with heads := t.heads, log := (s.raise .reportLate (.head h) y.reportMax).log, ports := t.ports } ∧
            t.heads[h] =
              { z with latePassed := true
                       held := if .reportLate ∈ x.held then x.held else x.held ++ [.reportLate] })))

/-- TEST_START puts a head that is not in OFF into TEST with a fresh test state and no snapshot, and is refused HEAD_STATE
in OFF (R111, R114). In TEST it restarts the test and nothing else; from any other state it also abandons a measurement,
stops the report timer and clears the attempt number, the degraded window count and the hold-off countdown, and every
other field of the head is kept; from UP or DEGRADED the delay becomes unknown, HEAD_DEGRADED is cleared, and the
departure is handed on: the buffer is STOPPED, the placements take part in no division, the head is recomputed, its
service mark broken, and no HEAD_LINK_LOST is raised (R99, R111, R122; that a stopped error window keeps its counts is log
entry 21). TEST_SNAPSHOT copies the live state and, with the clear flag, clears the counters alone; TEST_STOP takes the
head to SEEK and keeps snapshot and count mode; both are refused HEAD_STATE outside TEST (R119, R121). -/
def Obligations.TestsAreStartedReadAndStopped : Prop :=
  ∀ (s : State) (h : Head), s.ready Port.mp 1 = true →
    let x := s.heads[h].test
    (s.heads[h].state = .off → ∀ b, exec (.testStart Port.mp (byteOf h) (flagByte b)) s =
      .next (s.answered Port.mp 20 .headState [])) ∧
    (s.heads[h].state ≠ .off → ∀ b, ∃ t, exec (.testStart Port.mp (byteOf h) (flagByte b)) s = .next t ∧
      t = { s with heads := t.heads, uplinks := t.uplinks, carriers := t.carriers, placements := t.placements
                   power := t.power, load := t.load, log := t.log, ports := t.ports } ∧
      (let y := s.heads[h]
       let fresh := { TestState.reset with mode := if b then .continuous else .single }
       let reply := replyTo 20 .ok (byte1 h.val ++ byte1 (if b then 1 else 0))
       let entered : HeadLink :=
         { y with state := .test, test := fresh, reportTimer := none, markers := none, attempt := 0, degradedCount := 0
                  holdOffCount := 0 }
       (y.state = .test →
         t = { s with heads := s.heads.set h { y with test := fresh }, ports := s.replied Port.mp [reply] }) ∧
       (y.state ≠ .test → s.inService h = false →
         t = { s with heads := s.heads.set h entered, ports := s.replied Port.mp [reply] }) ∧
       (s.inService h = true →
         t.heads[h] = { entered with
           delay := none, fibre := none
           held := if y.state = .degraded then y.held.filter (fun k => k ≠ .headDegraded) else y.held } ∧
         t.uplinks[h] = { s.uplinks[h] with running := false, groups := [] } ∧
         (∀ p ∈ t.placements, p.head = h → t.eligible p = false) ∧
         t.power[h].running.isSome = true ∧ (s.power[h].running.isSome = true → t.power[h].again = true) ∧
         t.load.heads[h] = { s.load.heads[h] with whole := false } ∧
         (∀ (i : Fin 64) (r : AlarmRecord), t.log.slots[i] = some r → r.kind = .headLinkLost → s.log.slots[i] = some r) ∧
         (s.log.sound → y.state = .degraded → .headDegraded ∈ y.held → t.log.quiet .headDegraded (.head h))) ∧
       t.ports[Port.mp] = s.ports[Port.mp].sent [reply]) ∧
      (∀ g, g ≠ h → t.heads[g] = s.heads[g] ∧ t.uplinks[g] = s.uplinks[g])) ∧
    (s.heads[h].state = .test → ∀ b,
      let r : TestRecord := { frame := s.timing.frame, mode := x.mode, locked := x.locked, checked := x.checked
                              errored := x.errored, wraps := x.wraps, stopped := x.stopped }
      let after : TestState :=
        if b then { x with checked := 0, errored := 0, wraps := 0, stopped := false, snapshot := some r }
        else { x with snapshot := some r }
      exec (.testSnapshot Port.mp (byteOf h) (flagByte b)) s =
        .next { s with heads := s.heads.set h { s.heads[h] with test := after }
                       ports := s.replied Port.mp [replyTo 21 .ok r.bytes] }) ∧
    (s.heads[h].state = .test → exec (.testStop Port.mp (byteOf h)) s =
      .next { s with
        heads := s.heads.set h { s.heads[h] with state := .seek, lockedCount := 0, reportSeen := false
                                                 test := { TestState.reset with mode := x.mode, snapshot := x.snapshot } }
        ports := s.replied Port.mp [replyTo 23 .ok []] }) ∧
    (s.heads[h].state ≠ .test →
      (∀ b, exec (.testSnapshot Port.mp (byteOf h) (flagByte b)) s = .next (s.answered Port.mp 21 .headState [])) ∧
      exec (.testStop Port.mp (byteOf h)) s = .next (s.answered Port.mp 23 .headState []))

/-- The predicted word and the reference after it continue the reference's fifteen bits by the sequence in which each bit
is the exclusive-or of those fifteen and fourteen places before it, the first bit most significant (R115, R116).
TEST_WORD_RETURNED checks a word on a head in TEST whose framer holds lock while light is present, and changes the
test state of that head alone: an errored word in SEARCH reloads the reference from its last fifteen bits; the 64th
clean word in a row gives LOCKED, uncounted; a word in LOCKED is counted and its outcome appended, the 16th errored
outcome of the last 64 gives SEARCH, and the reference only advances (R116, R117). Each counter is at most its maximum; in
SINGLE one that reaches it stops the counting, in CONTINUOUS checked words that reach it give a wrap and errored words hold
at theirs (R118). A word is errored too where one of its four parity bits fails, the sense of the parity being a free value
(R107; log entry 37). -/
def Obligations.ReturnedWordsAreChecked : Prop :=
  (∀ g : BitVec 15, ∃ b : Nat → Bool, (∀ n, n < 15 → b n = g.getLsbD (14 - n)) ∧ (∀ n, b (n + 15) = (b n ^^ b (n + 1))) ∧
    (∀ n, n < 32 → (patternWord g).1.getLsbD (31 - n) = b (n + 15)) ∧
    (∀ n, n < 15 → (patternWord g).2.getLsbD (14 - n) = b (n + 32))) ∧
  ∀ (s : State) (h : Head) (w : Word) (parity : BitVec 4), s.mode ≠ .reset → s.heads[h].state = .test →
    s.heads[h].framerLock = true → s.heads[h].lightAbsent = false →
    let x := s.heads[h].test
    let fails := ∃ j, j < 4 ∧
      parity.getLsbD j ≠ ((List.range 8).foldl (fun b n => b ^^ w.getLsbD (8 * j + n)) Config.oddParity)
    let errored := fails ∨ ∀ g, x.reference = some g → (patternWord g).1 ≠ w
    ∃ y, exec (.testWordReturned h w parity) s = .next { s with heads := s.heads.set h { s.heads[h] with test := y } } ∧
      y.mode = x.mode ∧ y.pattern = x.pattern ∧ y.snapshot = x.snapshot ∧
      (x.locked = false → y.checked = x.checked ∧ y.errored = x.errored ∧ y.wraps = x.wraps ∧ y.stopped = x.stopped) ∧
      (x.locked = false → errored → y.locked = false ∧ y.cleanRun = 0 ∧ y.reference = some (w.setWidth 15)) ∧
      (x.locked = false → ¬ errored → y.locked = decide (64 ≤ x.cleanRun + 1) ∧
        (x.cleanRun < 63 → y.cleanRun = x.cleanRun + 1) ∧ y.reference = x.reference.map fun g => (patternWord g).2) ∧
      (x.locked = true →
        y.reference = (x.reference.map fun g => (patternWord g).2) ∧
        (∀ b : Bool, (b = true ↔ errored) →
          let history := if x.history.length < 64 then x.history ++ [b] else x.history.drop 1 ++ [b]
          y.locked = decide (history.countP id < 16) ∧
          (y.locked = true → y.history = history) ∧
          (y.locked = false → y.history = [] ∧ y.cleanRun = 0) ∧
          (x.stopped = true → y.checked = x.checked ∧ y.errored = x.errored ∧ y.wraps = x.wraps ∧ y.stopped = true) ∧
          (x.stopped = false → x.checked < 4294967295 → x.errored ≤ 65535 →
            let checked := x.checked + 1
            let bad := min 65535 (x.errored + if b then 1 else 0)
            (x.mode = .single → y.checked = checked ∧ y.errored = bad ∧ y.wraps = x.wraps ∧
              (y.stopped = true ↔ checked = 4294967295 ∨ bad = 65535)) ∧
            (x.mode = .continuous → y.stopped = false ∧
              (checked < 4294967295 → y.checked = checked ∧ y.errored = bad ∧ y.wraps = x.wraps) ∧
              (checked = 4294967295 → y.checked = 0 ∧ y.errored = 0 ∧ y.wraps = min 255 (x.wraps + 1))))))

/-! ## Carriers and bindings (Chapter 1) -/

/-- DECLARE from the owner stores the clamped fields where it is the first, repeats the width class, or finds the carrier
unbound with no plan pending; one that changes the power request of a declared carrier asks for a recompute of every head
that carries it, and of no other. A new width class of a bound carrier is refused CARRIER_BOUND, of an unbound one while a
plan is pending PLAN_PENDING (R7 to R11). WITHDRAW of a declared, unbound carrier with no plan pending returns its record
to the reset values; of an undeclared, a bound one, or while a plan is pending it is refused (R12). From any other port
both are refused NOT_PERMITTED (R7, R12). -/
def Obligations.CarriersAreDeclaredAndWithdrawn : Prop :=
  ∀ (s : State) (p : Port) (c : Carrier), s.ready p 1 = true → s.arbiterFree = true →
    let r := s.carriers[c]
    let bound := r.active ≠ [] ∨ r.pending.isSome = true
    (ownedBy p c = false →
      (∀ (w : WidthClass) (n : Half) (k : Byte), exec (.declare p (byteOf c) (BitVec.ofNat 8 w.code) n k) s =
        .next (s.grantedAnswer p 1 .notPermitted [])) ∧
      exec (.withdraw p (byteOf c)) s = .next (s.grantedAnswer p 2 .notPermitted [])) ∧
    (ownedBy p c = true → ∀ (w : WidthClass) (n : Half) (k : Byte),
      let x : CarrierRecord := { r with declared := true, width := w, power := clamp 1 8000 n.toNat, shift := min 4 k.toNat }
      let reply := replyTo 1 .ok (byte1 c.val ++ byte1 w.code ++ byte2 x.power ++ byte1 x.shift)
      let stored := { s with carriers := s.carriers.set c x, arbiter := { granted := none, last := p }
                             ports := s.replied p [reply] }
      (r.declared = true → w ≠ r.width → bound →
        exec (.declare p (byteOf c) (BitVec.ofNat 8 w.code) n k) s = .next (s.grantedAnswer p 1 .carrierBound [])) ∧
      (r.declared = true → w ≠ r.width → ¬ bound → s.planPending = true →
        exec (.declare p (byteOf c) (BitVec.ofNat 8 w.code) n k) s = .next (s.grantedAnswer p 1 .planPending [])) ∧
      (r.declared = false ∨ w = r.width ∨ (¬ bound ∧ s.planPending = false) →
        (r.declared = false ∨ x.power = r.power →
          exec (.declare p (byteOf c) (BitVec.ofNat 8 w.code) n k) s = .next stored) ∧
        (r.declared = true → x.power ≠ r.power → (s.placements.map fun q => (q.head, q.carrier)).Nodup →
          ∃ t, exec (.declare p (byteOf c) (BitVec.ofNat 8 w.code) n k) s = .next t ∧
            t = { stored with power := t.power } ∧
            ∀ h : Head, ((s.placement h c).isSome = true → s.askedFor t h) ∧
              ((s.placement h c).isSome = false → t.power[h] = s.power[h])))) ∧
    (ownedBy p c = true →
      (r.declared = false → exec (.withdraw p (byteOf c)) s = .next (s.grantedAnswer p 2 .badCarrier [])) ∧
      (r.declared = true → bound → exec (.withdraw p (byteOf c)) s = .next (s.grantedAnswer p 2 .carrierBound [])) ∧
      (r.declared = true → ¬ bound → s.planPending = true →
        exec (.withdraw p (byteOf c)) s = .next (s.grantedAnswer p 2 .planPending [])) ∧
      (r.declared = true → ¬ bound → s.planPending = false → exec (.withdraw p (byteOf c)) s =
        .next { s with
          carriers := s.carriers.set c
            { declared := false, width := .narrow, power := 1, shift := 2, active := [], pending := none, orphan := false }
          arbiter := { granted := none, last := p }, ports := s.replied p [replyTo 2 .ok (byte1 c.val)] }))

/-- BIND with its fields in range is refused in the order of R13: NOT_PERMITTED from any port but the owner's, BAD_CARRIER
for an undeclared carrier, PLAN_PENDING while a plan is pending, BIND_PENDING while a binding of the carrier is. A set
equal to the active binding is answered OK at once with the current frame number and changes nothing (R14). A set that
differs and whose gaining heads all admit the carrier is stored as pending with the units that admission chose, RESERVED
on exactly the gaining heads, and the request stays in service; otherwise the lowest failing head and its reason are
answered and nothing is reserved (R15, R16). -/
def Obligations.BindingsAreAdmittedAndReserved : Prop :=
  ∀ (s : State) (p : Port) (c : Carrier) (list : List Byte) (sectors : List Sector), s.ready p 1 = true →
    s.arbiterFree = true → list.length ≤ 12 → sectorSet list = some sectors →
    let r := s.carriers[c]
    let no := fun x : Status =>
      exec (.bind p (byteOf c) list) s = Host.Outcome.next (φ := Fault) (ρ := Refusal) (s.grantedAnswer p 3 x [])
    let newHeads := headSetUnder s.sectorMap sectors
    let gaining := newHeads.filter fun h => !(s.headSet c).contains h
    let verdict := fun h : Head => s.admission h [] [c] fun _ => newHeads
    let waiting : InService :=
      { message := (Request.bind (byteOf c) list).toMessage, phase := .awaitingBoundary c, discarded := false }
    (∀ x : Sector, x ∈ sectors ↔ byteOf x ∈ list) ∧ sectors.Pairwise (· < ·) ∧
    (ownedBy p c = false → no .notPermitted) ∧
    (ownedBy p c = true →
      (r.declared = false → no .badCarrier) ∧
      (r.declared = true → s.planPending = true → no .planPending) ∧
      (r.declared = true → s.planPending = false → r.pending.isSome = true → no .bindPending) ∧
      (r.declared = true → s.planPending = false → r.pending = none →
        (sectors = r.active →
          exec (.bind p (byteOf c) list) s = .next (s.grantedAnswer p 3 .ok (byte4 s.timing.frame.toNat))) ∧
        (sectors ≠ r.active → (∀ h ∈ gaining, ∃ u, verdict h = .admitted [(c, u)]) →
          ∃ t reserved, exec (.bind p (byteOf c) list) s = .next t ∧
            t = { s with carriers := s.carriers.set c { r with pending := some { sectors := sectors, reserved := reserved } }
                         lanes := t.lanes, arbiter := { granted := none, last := p }
                         ports := s.ports.set p { s.ports[p] with inService := some waiting } } ∧
            reserved.map (·.head) = gaining ∧
            (∀ x ∈ reserved, verdict x.head = .admitted [(c, x.first)]) ∧
            ∀ h : Head,
              (h ∉ gaining → t.lanes[h] = s.lanes[h]) ∧
              (∀ x ∈ reserved, x.head = h → ∀ i : LaneIndex,
                (covers x.first.val r.width.units i → t.lanes[h][i] = .reserved c) ∧
                (¬ covers x.first.val r.width.units i → t.lanes[h][i] = s.lanes[h][i]))) ∧
        (sectors ≠ r.active → ∀ h reason d, h ∈ gaining → verdict h = .failed reason d →
          (∀ g ∈ gaining, g < h → ∃ u, verdict g = .admitted [(c, u)]) →
          exec (.bind p (byteOf c) list) s = .next (s.grantedAnswer p 3 reason.status (byte1 h.val)))))

/-- BINDING_APPLY, with the binding of one carrier alone due and lanes and placements in agreement: the pending set becomes the
active binding and none is pending; the carrier's placements on losing heads are removed, their units FREE and their
CARRIER_EXCLUDED and CARRIER_STARVED not ACTIVE; on gaining heads it owns the units that were RESERVED and has a new placement
on them with grant 0 and step 31 (its other fields, such as the frame mean, by log entry 38). In ascending head order each
new one is judged: INCAPABLE where the carrier is WIDE and the head is not capable, else WINDOW where the head's delay is
known and the spread with it exceeds 1023 du, with CARRIER_EXCLUDED raised of the reason; the new placements not yet judged
count in the spread (log entry 15). Every other placement, unit and head's power stays as it is, gaining and losing heads are
recomputed, a changed orphan flag raises or clears CARRIER_ORPHANED, and the BIND still in service is answered OK with the
frame number, behind what the hand-ons send (log entry 36), or waits for room (R18 to R20, R22, R26, R41, R42, R168). -/
def Obligations.ADueBindingIsApplied : Prop :=
  ∀ (s : State) (c : Carrier) (b : PendingBinding) (rest : List Due), s.mode ≠ .reset → s.lanesAgree →
    s.due = .bindingApply [c] :: rest → s.carriers[c].pending = some b →
    let width := s.carriers[c].width
    let newHeads := headSetUnder s.sectorMap b.sectors
    let losing := fun h : Head => h ∈ s.headSet c ∧ h ∉ newHeads
    let gaining := fun h : Head => h ∈ newHeads ∧ h ∉ s.headSet c
    ∃ t, exec .bindingApply s = .next t ∧
      t = { s with carriers := t.carriers, lanes := t.lanes, placements := t.placements, power := t.power, log := t.log
                   ports := t.ports, due := rest } ∧
      t.carriers[c] = { s.carriers[c] with active := b.sectors, pending := none, orphan := t.orphanCondition c } ∧
      (∀ d, d ≠ c → t.carriers[d] = { s.carriers[d] with orphan := t.carriers[d].orphan }) ∧
      (s.log.sound → s.orphansReported t) ∧
      (∀ h : Head, losing h → t.placement h c = none ∧
        (s.log.sound → t.log.quiet .carrierExcluded (.carrierHead c h) ∧ t.log.quiet .carrierStarved (.carrierHead c h)) ∧
        ∀ i : LaneIndex, t.lanes[h][i] = if s.lanes[h][i] = .owned c then .free else s.lanes[h][i]) ∧
      (∀ r ∈ b.reserved, gaining r.head ∧
        (∃ q, t.placement r.head c = some q ∧
          q = { newPlacement r.head c r.first width.units with exclusion := q.exclusion } ∧
          (q.exclusion = .incapable ↔ width = .wide ∧ s.heads[r.head].capability = .no) ∧
          (q.exclusion = .window ↔ ¬ (width = .wide ∧ s.heads[r.head].capability = .no) ∧ s.heads[r.head].delay ≠ none ∧
            delaysApart s.heads t.placements q fun x => x.exclusion = .none ∨ (gaining x.head ∧ r.head < x.head)) ∧
          (q.exclusion ≠ .none → s.log.raised t.log .carrierExcluded (.carrierHead c r.head) s.timing.frame
            (if q.exclusion = .incapable then 1 else 2))) ∧
        ∀ i : LaneIndex,
          (covers r.first.val width.units i → t.lanes[r.head][i] = .owned c) ∧
          (¬ covers r.first.val width.units i → t.lanes[r.head][i] = s.lanes[r.head][i])) ∧
      (∀ h : Head, ¬ losing h → ¬ gaining h → t.lanes[h] = s.lanes[h] ∧ t.power[h] = s.power[h]) ∧
      (∀ h : Head, losing h ∨ gaining h → t.power[h].running.isSome = true) ∧
      (∀ (h : Head) (d : Carrier), d ≠ c ∨ (¬ losing h ∧ ¬ gaining h) → t.placement h d = s.placement h d) ∧
      (∀ x, s.ports[Port.ofLink c.owner].inService = some x → x.phase = .awaitingBoundary c → x.discarded = false →
        let y := t.ports[Port.ofLink c.owner]
        let reply := replyMessages x.message (.reply .ok (byte4 s.timing.frame.toNat))
        (y.inService = none ∧ ∃ ms, y.outgoing = s.ports[Port.ofLink c.owner].outgoing ++ ms ++ reply) ∨
          y.inService = some { x with phase := .awaitingRoom reply })

/-! ## Plans (Chapter 8) -/

/-- PLAN_EDIT on MP of a slot that is not pending writes its entries in order into the staged map, or into a copy of the
active map, and the slot enters DRAFT (R142). PLAN_VALIDATE records the verdict of R143 and R144 in the slot and
changes nothing else; a slot with no map stays EMPTY; while a binding is pending it is refused BIND_PENDING (R145). Both
are refused SLOT_BUSY for a slot in CONSENT or COMMIT_WAIT (R142, R145). -/
def Obligations.SlotsAreEditedAndValidated : Prop :=
  ∀ (s : State) (k : SlotIndex), s.ready Port.mp 16 = true → s.arbiterFree = true →
    (∀ (active : Bool) (entries : List (Head × Option Sector)), 1 ≤ entries.length → entries.length ≤ 16 →
      let start := if active then s.sectorMap else s.plans.slots[k].map?.getD s.sectorMap
      let map := entries.foldl (fun (m : SectorMap) e => m.set e.1 e.2) start
      let bytes := entries.map fun e =>
        (byteOf e.1, match e.2 with
          | none => (255 : Byte)
          | some x => byteOf x)
      (s.plans.slots[k].offer?.isSome = true → exec (.planEdit Port.mp (byteOf k) (flagByte active) bytes) s =
        .next (s.grantedAnswer Port.mp 32 .slotBusy [])) ∧
      (s.plans.slots[k].offer? = none → exec (.planEdit Port.mp (byteOf k) (flagByte active) bytes) s =
        .next { s with plans := { s.plans with slots := s.plans.slots.set k (.draft map) }
                       arbiter := { granted := none, last := Port.mp }
                       ports := s.replied Port.mp [replyTo 32 .ok (byte1 k.val ++ mapBytes map)] })) ∧
    (s.plans.slots[k].offer?.isSome = true → exec (.planValidate Port.mp (byteOf k)) s =
      .next (s.grantedAnswer Port.mp 33 .slotBusy [])) ∧
    (s.plans.slots[k].offer? = none → s.bindingPending = true → exec (.planValidate Port.mp (byteOf k)) s =
      .next (s.grantedAnswer Port.mp 33 .bindPending [])) ∧
    (s.plans.slots[k].offer? = none → s.bindingPending = false →
      ∃ t ms, exec (.planValidate Port.mp (byteOf k)) s = .next t ∧
        t = { s with plans := { s.plans with slots := s.plans.slots.set k t.plans.slots[k] }
                     arbiter := { granted := none, last := Port.mp }, ports := s.replied Port.mp ms } ∧
        (s.plans.slots[k].map? = none → t.plans.slots[k] = s.plans.slots[k]) ∧
        (∀ map layout, s.plans.slots[k].map? = some map → s.validateMap map = .valid layout →
          t.plans.slots[k] = .valid map s.timing.frame layout (s.affectedSet map)) ∧
        (∀ map f, s.plans.slots[k].map? = some map → s.validateMap map = .invalid f →
          t.plans.slots[k] = .invalid map s.timing.frame f))

/-- PLAN_PROPOSE on MP with nothing pending validates the slot afresh: a VALID map takes the next plan number and enters
CONSENT with the consent time and every answer NONE, and PLAN_OFFER is handed to every affected operator whose port is
open and has room, or it enters COMMIT_WAIT where no operator is affected; an INVALID one keeps the counter and is
recorded and sent as an outcome INVALID; so is a slot in EMPTY, which stays EMPTY (R140, R144, R146, R147, R149, R158,
R159). With a plan pending it is refused PLAN_PENDING, with a binding pending BIND_PENDING (R146). The bytes of the reply
after its status are log entry 10's, and that PLAN_OUTCOME goes ahead of the reply is log entry 36's. -/
def Obligations.AProposalIsOfferedOrFailed : Prop :=
  ∀ (s : State) (k : SlotIndex), s.ready Port.mp 2 = true → s.arbiterFree = true →
    (s.planPending = true →
      exec (.planPropose Port.mp (byteOf k)) s = .next (s.grantedAnswer Port.mp 34 .planPending [])) ∧
    (s.planPending = false → s.bindingPending = true →
      exec (.planPropose Port.mp (byteOf k)) s = .next (s.grantedAnswer Port.mp 34 .bindPending [])) ∧
    (s.planPending = false → s.bindingPending = false →
      ∃ t, exec (.planPropose Port.mp (byteOf k)) s = .next t ∧
        t = { s with plans := t.plans, arbiter := { granted := none, last := Port.mp }, ports := t.ports } ∧
        (∀ j, j ≠ k → t.plans.slots[j] = s.plans.slots[j]) ∧
        (∀ map layout, s.plans.slots[k].map? = some map → s.validateMap map = .valid layout →
          let o : Offer :=
            { verdictFrame := s.timing.frame, layout := layout, affected := s.affectedSet map
              number := if s.plans.counter < 255 then s.plans.counter + 1 else 1, source := .mp
              answers := Vector.replicate 4 .none }
          t.plans.counter = o.number ∧ t.plans.last = s.plans.last ∧
          (o.affected ≠ [] → t.plans.slots[k] = .consent map o s.plans.consentTime) ∧
          (o.affected = [] → t.plans.slots[k] = .commitWait map o) ∧
          (∀ l : Link, t.ports[Port.ofLink l] =
            if l ∈ o.affected ∧ s.portOpen (Port.ofLink l) = true ∧ s.room (Port.ofLink l) 1 = true then
              s.ports[Port.ofLink l].sent [mkMessage 96 (byte1 o.number ++ byte1 k.val)]
            else s.ports[Port.ofLink l]) ∧
          t.ports[Port.mp] = s.ports[Port.mp].sent
            [replyTo 34 .ok ([1] ++ byte1 o.number ++ affectedByte o.affected ++ [flagByte (decide (o.affected = []))])]) ∧
        (∀ slot f, (s.plans.slots[k].map? = none ∧ slot = .empty ∧ f = { reason := .empty, head := none, carrier := none }) ∨
            (∃ map, s.plans.slots[k].map? = some map ∧ s.validateMap map = .invalid f ∧
              slot = .invalid map s.timing.frame f) →
          t.plans.slots[k] = slot ∧ t.plans.counter = s.plans.counter ∧
          t.plans.last = some
            { number := none, slot := k, source := .mp, result := .invalid, frame := s.timing.frame, affected := []
              answers := Vector.replicate 4 .none, refusing := none, failure := some f } ∧
          (∀ l : Link, t.ports[Port.ofLink l] = s.ports[Port.ofLink l]) ∧
          t.ports[Port.mp] = s.ports[Port.mp].sent
            [mkMessage 97 ([0] ++ byte1 k.val ++ byte1 5 ++ byte4 s.timing.frame.toNat),
              replyTo 34 .ok ([0] ++ failureBytes f)]))

/-- CONSENT of an affected operator that has not answered: a REFUSE aborts the plan at once with result REFUSED and the
slot returns to DRAFT; the ACCEPT that completes the set takes the slot to COMMIT_WAIT; any other ACCEPT is recorded. A
second answer is refused ALREADY_ANSWERED, another plan's number STALE_PLAN and an unaffected operator NOT_AFFECTED; where no
slot is in CONSENT every answer is refused STALE_PLAN (R151, R158). PLAN_CANCEL on MP of the pending plan's number aborts it
with result CANCELLED and returns the slot to DRAFT with its map; another number, and any where no plan is pending, is refused
STALE_PLAN (R153, R158). PLAN_OUTCOME of an aborted plan goes to MP and to each affected operator whose link is UP, where
there is room, and the sender's reply follows (R159). The numbers 1 of REFUSED and 3 of CANCELLED in PLAN_OUTCOME are log
entry 10's, its place ahead of the reply log entry 36's. -/
def Obligations.ConsentsAndCancelsAreJudged : Prop :=
  (∀ (s : State) (l : Link) (m : Byte) (b : Bool), s.ready (Port.ofLink l) 1 = true → s.arbiterFree = true → m ≠ 0 →
    (∀ (k : SlotIndex) (map : SectorMap) (o : Offer) (n : Nat), s.plans.slots[k] ≠ .consent map o n) →
    exec (.consent (Port.ofLink l) m (if b then 2 else 1)) s =
      .next (s.grantedAnswer (Port.ofLink l) 36 .stalePlan [])) ∧
  (∀ (s : State) (l : Link) (k : SlotIndex) (map : SectorMap) (o : Offer) (remaining : Nat),
    s.ready (Port.ofLink l) 2 = true → s.arbiterFree = true → s.pendingPlan = some (k, o) →
    s.plans.slots[k] = .consent map o remaining → 1 ≤ o.number → o.number ≤ 255 →
    let p := Port.ofLink l
    let n : Byte := BitVec.ofNat 8 o.number
    (∀ (m : Byte) (b : Bool), m ≠ 0 → m ≠ n → exec (.consent p m (if b then 2 else 1)) s =
      .next (s.grantedAnswer p 36 .stalePlan [])) ∧
    (l ∉ o.affected → ∀ b : Bool, exec (.consent p n (if b then 2 else 1)) s =
      .next (s.grantedAnswer p 36 .notAffected [])) ∧
    (l ∈ o.affected → o.answers[l] ≠ .none → ∀ b : Bool, exec (.consent p n (if b then 2 else 1)) s =
      .next (s.grantedAnswer p 36 .alreadyAnswered [])) ∧
    (l ∈ o.affected → o.answers[l] = .none →
      (let o' : Offer := { o with answers := o.answers.set l .accept }
       let slot : PlanSlot :=
         if o.affected.all (fun j => decide (o'.answers[j] = .accept)) then .commitWait map o' else .consent map o' remaining
       exec (.consent p n 1) s =
        .next { s with plans := { s.plans with slots := s.plans.slots.set k slot }
                       arbiter := { granted := none, last := p }
                       ports := s.replied p [replyTo 36 .ok (byte1 o.number ++ byte1 1)] }) ∧
      (∃ t, exec (.consent p n 2) s = .next t ∧
        t = { s with plans := t.plans, arbiter := { granted := none, last := p }, ports := t.ports } ∧
        t.plans.slots = s.plans.slots.set k (.draft map) ∧
        (o.affected.Nodup → ∀ q : Port, t.ports[q] =
          s.toldOutcome k o 1 q (if q = p then [replyTo 36 .ok (byte1 o.number ++ byte1 2)] else [])) ∧
        ∃ x, t.plans.last = some x ∧ x.number = some o.number ∧ x.slot = k ∧ x.source = o.source ∧ x.result = .refused ∧
          x.frame = s.timing.frame ∧ x.affected = o.affected ∧ x.answers = o.answers.set l .refuse ∧ x.refusing = some l))) ∧
  (∀ (s : State) (n : Byte), s.ready Port.mp 2 = true → s.arbiterFree = true → n ≠ 0 →
    (s.pendingPlan = none → exec (.planCancel Port.mp n) s = .next (s.grantedAnswer Port.mp 35 .stalePlan [])) ∧
    (∀ k map o, s.pendingPlan = some (k, o) → s.plans.slots[k].map? = some map →
      (n.toNat ≠ o.number →
        exec (.planCancel Port.mp n) s = .next (s.grantedAnswer Port.mp 35 .stalePlan [])) ∧
      (n.toNat = o.number →
        ∃ t, exec (.planCancel Port.mp n) s = .next t ∧
          t = { s with plans := t.plans, arbiter := { granted := none, last := Port.mp }, ports := t.ports } ∧
          t.plans.slots = s.plans.slots.set k (.draft map) ∧ t.plans.counter = s.plans.counter ∧
          (o.affected.Nodup → ∀ q : Port, t.ports[q] =
            s.toldOutcome k o 3 q (if q = Port.mp then [replyTo 35 .ok (byte1 o.number)] else [])) ∧
          ∃ x, t.plans.last = some x ∧ x.number = some o.number ∧ x.slot = k ∧ x.result = .cancelled ∧
            x.frame = s.timing.frame ∧ x.affected = o.affected ∧ x.answers = o.answers)))

/-- CONSENT_EXPIRY, due, with one plan whose frames remaining are 0: where an operator in REQUIRED mode has not answered
the plan ends EXPIRED, its slot returns to DRAFT, and PLAN_OUTCOME goes to MP and to each affected operator whose link is
UP, where there is room; otherwise the slot enters COMMIT_WAIT with its answers as they are (R152, R158, R159). The number 2
of EXPIRED in PLAN_OUTCOME is the model's choice (log entry 10). -/
def Obligations.TheExpiryJudgesTheAnswers : Prop :=
  ∀ (s : State) (k : SlotIndex) (map : SectorMap) (o : Offer) (rest : List Due), s.mode ≠ .reset →
    s.due = .consentExpiry :: rest → s.plans.slots[k] = .consent map o 0 →
    (∀ j, j ≠ k → ∀ m x, s.plans.slots[j] ≠ .consent m x 0) →
    ∃ t, exec .consentExpiry s = .next t ∧ t = { s with plans := t.plans, ports := t.ports, due := rest } ∧
      ((∃ l ∈ o.affected, o.answers[l] = .none ∧ s.plans.modes[l] = .required) →
        t.plans.slots = s.plans.slots.set k (.draft map) ∧
        ∃ x, t.plans.last = some x ∧ x.number = some o.number ∧ x.result = .expired ∧ x.frame = s.timing.frame ∧
          x.answers = o.answers ∧ x.slot = k ∧ x.affected = o.affected ∧
          (o.affected.Nodup → ∀ q : Port, t.ports[q] = s.toldOutcome k o 2 q [])) ∧
      ((∀ l ∈ o.affected, o.answers[l] = .none → s.plans.modes[l] = .presumed) →
        t.plans = { s.plans with slots := s.plans.slots.set k (.commitWait map o) } ∧ t.ports = s.ports)

/-- PLAN_REVALIDATE, due for the plan in COMMIT_WAIT, with lanes and plans in agreement: where the map validates, it
becomes the active map, all sixteen entries at once; on each changed head the departing carriers' placements are removed
and their units FREE, and each newcomer owns the units the layout gives it and has a new placement on them; every other
placement and lane table stays as it is, the changed heads are recomputed, the load window starts afresh from this frame
with its accumulators and every trigger's count 0, and the outcome is COMMITTED; otherwise the active map, the placements
and the lane tables stay and the outcome is REVALIDATE. In both the slot returns to DRAFT with its map, and PLAN_OUTCOME
goes to MP and to each affected operator whose link is UP, where there is room (R26, R129, R155 to R159). A window end
that has begun ahead of it is taken to its end before, with every later firing deferred, so that no count crosses the
commit (R129, R132; that an answer is a step of its own is log entry 29); it sends no message. Each newcomer is judged in
turn, none of them INCAPABLE, WINDOW where the head's delay is known and the spread with it exceeds 1023 du; the alarms of
what is removed, excluded or orphaned follow (R22, R41, R157, R168; of newcomers not yet judged, log entry 15; the frame
mean and complete flag of a new record are log entry 38's). ATTENTION may go ahead of PLAN_OUTCOME (log entry 36), whose
numbers 0 of COMMITTED and 4 of REVALIDATE are log entry 10's. -/
def Obligations.TheRevalidationCommitsOrAborts : Prop :=
  ∀ (s : State) (k : SlotIndex) (map : SectorMap) (o : Offer) (begun : Option (TriggerIndex × Bool × Vector Load 12))
    (rest : List Due), s.mode ≠ .reset → s.lanesAgree → s.plansAgree →
    s.due = (begun.map fun x => Due.triggerAnswer x.1 x.2.1 x.2.2).toList ++ .planRevalidate k o.number :: rest →
    (∀ d ∈ rest, d.isAnswer = false) → s.plans.slots[k] = .commitWait map o →
    let outcome := fun result : Nat =>
      mkMessage 97 (byte1 o.number ++ byte1 k.val ++ byte1 result ++ byte4 s.timing.frame.toNat)
    let answered := fun i : TriggerIndex =>
      let x := s.load.triggers[i]
      match begun with
      | none => x
      | some b => if b.1 = i ∧ x.awaiting = true then x.answered b.2.1 else x
    ∃ t, exec .planRevalidate s = .next t ∧
      t = { s with plans := t.plans, ports := t.ports, due := rest, sectorMap := t.sectorMap, lanes := t.lanes
                   placements := t.placements, carriers := t.carriers, power := t.power, log := t.log, load := t.load } ∧
      t.plans.slots = s.plans.slots.set k (.draft map) ∧ t.plans.counter = s.plans.counter ∧
      (∀ layout, s.validateMap map = .valid layout →
        t.sectorMap = map ∧
        (∀ x ∈ layout,
          (∀ d ∈ x.departing, t.placement x.head d = none ∧
            (s.log.sound → t.log.quiet .carrierExcluded (.carrierHead d x.head) ∧
              t.log.quiet .carrierStarved (.carrierHead d x.head))) ∧
          (∀ n ∈ x.newcomers, ∃ q, t.placement x.head n.1 = some q ∧
            q = { newPlacement x.head n.1 n.2 s.carriers[n.1].width.units with exclusion := q.exclusion } ∧
            q.exclusion ≠ .incapable ∧
            (q.exclusion = .window ↔ s.heads[x.head].delay ≠ none ∧
              delaysApart s.heads t.placements q fun r => r.exclusion = .none ∨
                (x.head < r.head ∧ ∃ y ∈ layout, y.head = r.head ∧ n.1 ∈ y.newcomers.map (·.1))) ∧
            (q.exclusion = .window →
              s.log.raised t.log .carrierExcluded (.carrierHead n.1 x.head) s.timing.frame 2)) ∧
          (∀ i : LaneIndex,
            (∀ n ∈ x.newcomers, covers n.2.val s.carriers[n.1].width.units i → t.lanes[x.head][i] = .owned n.1) ∧
            ((∀ n ∈ x.newcomers, ¬ covers n.2.val s.carriers[n.1].width.units i) →
              t.lanes[x.head][i] = if ∃ d ∈ x.departing, s.lanes[x.head][i] = .owned d then .free else s.lanes[x.head][i])) ∧
          t.power[x.head].running.isSome = true) ∧
        (∀ h : Head, h ∉ layout.map (·.head) → t.lanes[h] = s.lanes[h] ∧ t.power[h] = s.power[h]) ∧
        (∀ (h : Head) (c : Carrier), (∀ x ∈ layout, x.head = h → c ∉ x.departing ∧ c ∉ x.newcomers.map (·.1)) →
          t.placement h c = s.placement h c) ∧
        (∀ c : Carrier, t.carriers[c] = { s.carriers[c] with orphan := t.carriers[c].orphan } ∧
          ((s.carriers[c].declared = true ∧ headSetUnder map s.carriers[c].active ≠ s.headSet c) ∨
              s.carriers[c].orphan = s.orphanCondition c →
            t.carriers[c].orphan = t.orphanCondition c)) ∧
        (s.log.sound → s.orphansReported t) ∧
        t.load = { s.load with windowStart := s.timing.frame, windowFrames := 0, heads := t.load.heads
                               triggers := t.load.triggers } ∧
        (∀ h : Head, t.load.heads[h] = { s.load.heads[h] with present := 0, busy := 0 }) ∧
        (∀ i : TriggerIndex, t.load.triggers[i] = { answered i with count := 0, deferred := false }) ∧
        (∃ x, t.plans.last = some x ∧ x.number = some o.number ∧ x.result = .committed ∧ x.frame = s.timing.frame ∧
          x.affected = o.affected) ∧
        t.ports[Port.mp] =
          (if s.room Port.mp 1 = true then s.ports[Port.mp].sent [outcome 0] else s.ports[Port.mp]) ∧
        (∀ l : Link, ∃ attentions : List Message, (∀ m ∈ attentions, m.typeByte = 98) ∧
          let sent := s.ports[Port.ofLink l].outgoing ++ attentions
          (s.linkUp l = false → attentions = []) ∧
          t.ports[Port.ofLink l] = { s.ports[Port.ofLink l] with
            outgoing := if l ∈ o.affected ∧ s.linkUp l = true ∧ sent.length < 16 then sent ++ [outcome 0] else sent })) ∧
      (∀ f, s.validateMap map = .invalid f →
        t = { s with plans := t.plans, ports := t.ports, due := rest
                     load := { s.load with triggers := t.load.triggers } } ∧
        (begun = none → t.load = s.load) ∧
        (∃ x, t.plans.last = some x ∧ x.number = some o.number ∧ x.result = .revalidate ∧ x.failure = some f) ∧
        ∀ p : Port, t.ports[p] =
          if (p = Port.mp ∨ ∃ l ∈ o.affected, p = Port.ofLink l) ∧ s.portOpen p = true ∧ s.room p 1 = true
          then s.ports[p].sent [outcome 4] else s.ports[p])

/-! ## Modes, RESTART and the device reset (Chapter 11) -/

/-- START on MP takes HOLD to RUN: every head is asked for a recompute, every orphan flag is evaluated, the run mark is
broken and no placement changes. HOLD on MP takes RUN to HOLD: every placement that took part in a division loses its
outcome, grant, step and basis at once, no carrier stays orphaned, and every head is asked for a recompute. CARRIER_ORPHANED
is raised of each carrier that becomes orphaned and cleared of each that ceases to be (R22, R23). In the mode it leads to,
each is refused NOT_RUNNING (R31, R194, R195). -/
def Obligations.StartAndHoldChangeTheMode : Prop :=
  ∀ s : State, s.ready Port.mp 1 = true →
    (s.mode = .hold →
      (∃ t, exec (.start Port.mp) s = .next t ∧
        t = { s with mode := .run, carriers := t.carriers, power := t.power, log := t.log, ports := t.ports
                     load := { s.load with runWhole := false } } ∧
        (∀ h : Head, s.askedFor t h) ∧
        (∀ c : Carrier, t.carriers[c] = { s.carriers[c] with orphan := t.orphanCondition c }) ∧
        (s.log.sound → s.orphansReported t) ∧
        t.ports[Port.mp] = s.ports[Port.mp].sent [replyTo 48 .ok []]) ∧
      exec (.hold Port.mp) s = .next (s.answered Port.mp 49 .notRunning [])) ∧
    (s.mode = .run →
      (∃ t, exec (.hold Port.mp) s = .next t ∧
        t = { s with mode := .hold, carriers := t.carriers, placements := t.placements, power := t.power, log := t.log
                     ports := t.ports, load := { s.load with runWhole := false } } ∧
        (∀ h : Head, t.power[h].running.isSome = true ∧ (s.power[h].running.isSome = true → t.power[h].again = true)) ∧
        (∀ c : Carrier, t.carriers[c] = { s.carriers[c] with orphan := false }) ∧
        (s.log.sound → s.orphansReported t) ∧
        ((s.placements.map fun q => (q.head, q.carrier)).Nodup →
          t.placements = s.placements.map fun q =>
            if s.eligible q then { q with outcome := .none, grant := 0, step := 31, basis := none, inUse := 31 } else q) ∧
        t.ports[Port.mp] = s.ports[Port.mp].sent [replyTo 49 .ok []]) ∧
      exec (.start Port.mp) s = .next (s.answered Port.mp 48 .notRunning []))

/-- RESTART on MP clears the traffic configuration: HOLD, no plans, a fresh load window, triggers, carriers, sector map,
lanes and placements at their reset values, guards and saturation counts reset, inboxes and queues empty, a recompute with
no entry on every head, no orphan or noise condition ACTIVE, nor one of a removed placement (R168), and its own reply
alone in MP's queue. Head links, timing, operator links, weights, budgets, thresholds, masks and lost-refusal counts are
kept (R54, R80, R133, R189, R197). What the last boundary has left due is done before, and what a trigger awaits is void
(log entry 11): u is the state it then starts from, which is the state itself where nothing is due. -/
def Obligations.RestartClearsTheTrafficConfiguration : Prop :=
  ∀ s : State, s.ready Port.mp 1 = true →
    let u := (s.taken Port.mp .restart).beforeRestart
    (s.due = [] → u = s.taken Port.mp .restart) ∧
    ∃ t, exec (.restart Port.mp) s = .next t ∧
      t = { u with mode := .hold, carriers := Vector.replicate 16 CarrierRecord.reset
                   sectorMap := Vector.replicate 16 none, lanes := Vector.replicate 16 (Vector.replicate 8 .free)
                   placements := [], power := t.power, uplinks := t.uplinks, monitors := t.monitors, satFrames := 0
                   load := t.load, log := t.log, inboxes := Vector.replicate 5 none, ports := t.ports
                   arbiter := { granted := none, last := Port.mp }, due := []
                   plans := { u.plans with slots := Vector.replicate 4 .empty, counter := 0, last := none } } ∧
      (∀ h : Head, ∃ x, t.power[h].running = some x ∧ x.entries = [] ∧ t.power[h].again = false ∧
        t.power[h].nominal = u.power[h].nominal ∧ t.power[h].effective = u.power[h].effective) ∧
      (∀ h : Head, t.uplinks[h] = { u.uplinks[h] with muted := false, loud := 0, quiet := 0 }) ∧
      (∀ c : Carrier, t.monitors[c] = { u.monitors[c] with count := 0, last := 0 }) ∧
      t.load.window = u.load.window ∧ t.load.windowStart = u.timing.frame + 1 ∧ t.load.windowFrames = 0 ∧
      t.load.published = none ∧ t.load.triggers = Vector.replicate 8 Trigger.reset ∧
      (∀ h : Head, t.load.heads[h].activity = u.load.heads[h].activity ∧ t.load.heads[h].present = 0 ∧
        t.load.heads[h].busy = 0) ∧
      t.log.masks = u.log.masks ∧
      (u.log.sound → ∀ (i : Fin 64) (r : AlarmRecord), t.log.slots[i] = some r →
        (r.kind = .carrierOrphaned ∧ ∃ c, r.subject = .carrier c) ∨ (r.kind = .uplinkNoise ∧ ∃ h, r.subject = .head h) →
        r.active = false) ∧
      (u.log.sound → ∀ p ∈ u.placements, t.log.quiet .carrierExcluded (.carrierHead p.carrier p.head) ∧
        t.log.quiet .carrierStarved (.carrierHead p.carrier p.head)) ∧
      (∀ p : Port, t.ports[p] =
        { queue := [], inService := none, outgoing := if p = Port.mp then [replyTo 50 .ok []] else []
          lostRefusals := u.ports[p].lostRefusals })

/-- While the device reset is asserted no command but the release changes anything; the assertion takes every operator
link DOWN and leaves idle framing on every head link; the release leaves every owner at its reset values, and does
nothing where no reset is asserted (R65, R88, R194). -/
def Obligations.TheResetFreezesThePartUntilItsRelease : Prop :=
  (∀ (s : State) (i : Instr), s.mode = .reset → i ≠ .resetAssert → i ≠ .resetRelease → exec i s = .next s) ∧
  (∀ s : State, ∃ t, exec .resetAssert s = .next t ∧ t = { s with mode := .reset, links := t.links, wires := t.wires } ∧
    (∀ l : Link, t.links[l].up = false) ∧ (∀ h : Head, t.wires.heads[h] = .idleFraming) ∧ (∀ p : Port, t.portOpen p = false)) ∧
  (∀ s : State, s.mode = .reset → exec .resetRelease s = .next { State.reset with pending := s.pending }) ∧
  (∀ s : State, s.mode ≠ .reset → exec .resetRelease s = .next s)

/-! ## Messages, service and the operator links (Chapter 10) -/

/-- An intact message that arrives on an open port joins its queue while that holds fewer than 8; else it is answered
QUEUE_FULL at once, and where that finds no room it is lost and counted. A closed port changes nothing, and a message that
fails an operator link's integrity check is discarded; that MP has no such check is log entry 33 (R179, R185). An SPI
transaction whose first byte is 1 writes the message that its header and length spell, whatever follows, and a short one
nothing; one whose first byte is 2 is a read of as many bytes as follow; that any other, and an empty one, changes nothing
is log entry 33 (R182, R183). -/
def Obligations.MessagesArriveOrAreTurnedAway : Prop :=
  (∀ (s : State) (p : Port) (m : Message) (intact : Bool),
    let x := s.ports[p]
    (s.portOpen p = true → intact = true ∨ p = Port.mp →
      (x.queue.length < 8 → exec (.requestArrival p m intact) s =
        .next { s with ports := s.ports.set p { x with queue := x.queue ++ [m] } }) ∧
      (8 ≤ x.queue.length → x.outgoing.length < 16 → exec (.requestArrival p m intact) s =
        .next { s with ports := s.replied p [mkMessage (BitVec.ofNat 8 (m.typeByte.toNat % 128 + 128)) [19]] }) ∧
      (8 ≤ x.queue.length → 16 ≤ x.outgoing.length → exec (.requestArrival p m intact) s =
        .next { s with ports := s.ports.set p { x with lostRefusals := min 255 (x.lostRefusals + 1) } })) ∧
    (s.portOpen p = false ∨ (intact = false ∧ p ≠ Port.mp) → exec (.requestArrival p m intact) s = .next s)) ∧
  (∀ (s : State) (type length : Byte) (payload extra : List Byte), payload.length = length.toNat →
    ∃ t, exec (.spiMessageWrite (1 :: type :: length :: (payload ++ extra))) s = .next t ∧
      exec (.requestArrival Port.mp { typeByte := type, lengthByte := length, payload := payload } true) s = .next t) ∧
  (∀ (s : State) (type length : Byte) (payload : List Byte), payload.length < length.toNat →
    exec (.spiMessageWrite (1 :: type :: length :: payload)) s = .next s ∧ exec (.spiMessageWrite [1, type]) s = .next s ∧
      exec (.spiMessageWrite [1]) s = .next s) ∧
  (∀ (s : State) (bytes : List Byte),
    exec (.spiMessageWrite (2 :: bytes)) s = exec (.spiMessageRead (2 :: bytes)) s ∧
    (∀ kind : Byte, kind ≠ 1 → kind ≠ 2 → exec (.spiMessageWrite (kind :: bytes)) s = .next s) ∧
    exec (.spiMessageWrite []) s = .next s)

/-- The oldest outgoing message of an open operator link is put on its sub-channel and leaves the queue. An SPI read, the
transaction whose first byte is 2, transfers as many bytes of the oldest of MP's messages as follow that byte, and the
message leaves the queue only when its last byte has been transferred; a read of an empty queue gives zeros. A reply that
waits for room enters whole when it finds room, and its request leaves service; until then it waits (R182, R183, R188). A
transaction of a kind that R183 does not give changes nothing, which is log entry 33's. -/
def Obligations.MessagesLeaveInOrder : Prop :=
  (∀ (s : State) (l : Link) (m : Message) (rest : List Message), s.portOpen (Port.ofLink l) = true →
    s.ports[Port.ofLink l].outgoing = m :: rest →
    exec (.outgoingMessageSent l) s =
      .next { s with
        wires := { s.wires with subChannel := s.wires.subChannel.set l (some m) }
        ports := s.ports.set (Port.ofLink l) { s.ports[Port.ofLink l] with outgoing := rest } }) ∧
  (∀ (s : State) (sent : List Byte), s.mode ≠ .reset →
    let n := sent.length
    (s.ports[Port.mp].outgoing = [] → exec (.spiMessageRead (2 :: sent)) s =
      .next { s with wires := { s.wires with spi := List.take n [0, 0] } }) ∧
    (∀ m rest, s.ports[Port.mp].outgoing = m :: rest →
      let bytes := m.typeByte :: m.lengthByte :: m.payload
      exec (.spiMessageRead (2 :: sent)) s =
        .next { s with
          wires := { s.wires with spi := bytes.take n }
          ports := if bytes.length ≤ n then s.ports.set Port.mp { s.ports[Port.mp] with outgoing := rest } else s.ports }) ∧
    exec (.spiMessageRead (1 :: sent)) s = exec (.spiMessageWrite (1 :: sent)) s ∧ exec (.spiMessageRead []) s = .next s ∧
    (∀ kind : Byte, kind ≠ 1 → kind ≠ 2 → exec (.spiMessageRead (kind :: sent)) s = .next s)) ∧
  (∀ (s : State) (p : Port) (x : InService) (ms : List Message), s.mode ≠ .reset → s.ports[p].inService = some x →
    x.phase = .awaitingRoom ms →
    (s.ports[p].outgoing.length + ms.length ≤ 16 → exec (.replyEnqueue p) s =
      .next { s with ports := s.ports.set p { s.ports[p] with outgoing := s.ports[p].outgoing ++ ms, inService := none } }) ∧
    (16 < s.ports[p].outgoing.length + ms.length → exec (.replyEnqueue p) s = .next s))

/-- A port with nothing in service takes up its oldest queued request: a malformed one is answered BAD_REQUEST, one for
the arbiter waits for its grant; with a request in service or none queued nothing changes (R184, R186). A free arbiter
grants the first port in its cyclic order that waits: the request in service there is carried out by its owner while the
arbiter is granted to the port, the arbiter is then free with this port served last, and the owner's answer is handed on; the
port waits no more, and no other port's queue or service changes (R187). -/
def Obligations.RequestsAreServedInTurn : Prop :=
  (∀ (s : State) (p : Port), s.mode ≠ .reset →
    (∀ m rest, s.ports[p].inService = none → s.ports[p].queue = m :: rest →
      let bad := mkMessage (BitVec.ofNat 8 (m.typeByte.toNat % 128 + 128)) [1]
      let waiting : InService := { message := m, phase := .awaitingGrant, discarded := false }
      let x := { s.ports[p] with queue := rest }
      (Message.malformed m = true → s.room p 1 = true → exec (.requestEnterService p) s =
        .next { s with ports := s.ports.set p (x.sent [bad]) }) ∧
      (Message.malformed m = false → Message.type m ∈ [1, 2, 3, 32, 33, 34, 35, 36] → exec (.requestEnterService p) s =
        .next { s with ports := s.ports.set p { x with inService := some waiting } }) ∧
      (Message.malformed m = false → Message.type m ∉ [1, 2, 3, 32, 33, 34, 35, 36] → exec (.requestEnterService p) s =
        .next ((s.takeUp p m rest).serve p (Message.request m)))) ∧
    (s.ports[p].inService ≠ none ∨ s.ports[p].queue = [] → exec (.requestEnterService p) s = .next s)) ∧
  (∀ s : State, s.mode ≠ .reset → s.arbiter.granted = none →
    (∀ k : Fin 5, let p : Port := s.arbiter.last + 1 + k
      s.ports[p].awaitsGrant = true → (∀ j, j < k → s.ports[s.arbiter.last + 1 + j].awaitsGrant = false) →
        ∃ x t, s.ports[p].inService = some x ∧ exec .arbiterGrant s = .next t ∧
          t.arbiter = { granted := none, last := p } ∧
          (let out := carryOut p (Message.request x.message) { s with arbiter := { s.arbiter with granted := some p } }
           t = ({ out.1 with arbiter := { granted := none, last := p } } : State).deliver p out.2) ∧
          t.ports[p].awaitsGrant = false ∧ t.ports[p].queue = s.ports[p].queue ∧
          ∀ q, q ≠ p → t.ports[q].queue = s.ports[q].queue ∧ t.ports[q].inService = s.ports[q].inService) ∧
    ((∀ p : Port, s.ports[p].awaitsGrant = false) → exec .arbiterGrant s = .next s))

/-- OPERATOR_LINK_DOWN tells that lock on the framing is lost, or where the frame marker now lies, which an interface
without lock does not see. An UP link goes DOWN where the two conditions of R179 no longer hold, with the cause of the one
that fails: its port's queues are emptied, a request that waits for its grant is marked to be discarded and any other in
service is dropped, the lost-refusal count is kept, its placements take part in no division, none of its carriers stays
orphaned, with CARRIER_ORPHANED cleared of each that ceases to be (R22), its link mark is broken and OPERATOR_LINK_LOST
stands ACTIVE with the cause, or was dropped by a full log; nothing of the other ports' queues or services changes (R165,
R179, R180). On an UP link whose marker stays within its window, and on a DOWN one whose marker does not come to lie
there, it tells the marker's place and nothing else; a DOWN link that holds lock and whose marker comes to lie within ±250
du comes UP, as OPERATOR_LINK_UP says (R179; log entry 2). -/
def Obligations.AnOperatorLinkGoesDown : Prop :=
  ∀ (s : State) (l : Link) (loss : LinkLoss), s.mode ≠ .reset →
    let found := match loss with
      | .framing => none
      | .alignment offset => s.links[l].alignment.map fun _ => offset
    let fit := ∃ d, found = some d ∧ -250 ≤ d ∧ d ≤ 250
    let cause : LinkCause := if found = none then .framing else .alignment
    ((s.linkUp l = true ↔ fit) → exec (.operatorLinkDown l loss) s =
      .next { s with links := s.links.set l { s.links[l] with alignment := found } }) ∧
    (∀ d, s.linkUp l = false → found = some d → -250 ≤ d → d ≤ 250 →
      exec (.operatorLinkDown l loss) s = exec (.operatorLinkUp { link := l, offset := d }) s) ∧
    (s.linkUp l = true → ¬ fit →
      ∃ t, exec (.operatorLinkDown l loss) s = .next t ∧
        t = { s with links := s.links.set l { up := false, cause := some cause, alignment := found }, ports := t.ports
                     carriers := t.carriers, placements := t.placements, power := t.power, log := t.log
                     load := { s.load with linkWhole := s.load.linkWhole.set l false } } ∧
        t.ports[Port.ofLink l] =
          { queue := [], outgoing := [], lostRefusals := s.ports[Port.ofLink l].lostRefusals
            inService := s.ports[Port.ofLink l].inService.bind fun x =>
              if x.phase = .awaitingGrant then some { x with discarded := true } else none } ∧
        (∀ q, q ≠ Port.ofLink l → t.ports[q].queue = s.ports[q].queue ∧ t.ports[q].inService = s.ports[q].inService) ∧
        (∀ p ∈ t.placements, p.carrier.owner = l → t.eligible p = false) ∧
        (∀ c : Carrier, c.owner = l → t.carriers[c] = { s.carriers[c] with orphan := false }) ∧
        (s.log.sound → s.orphansReported t) ∧
        ((∃ i r, t.log.find .operatorLinkLost (.link l) = some (i, r) ∧ r.active = true ∧ r.lastFrame = s.timing.frame ∧
            r.detail = (if cause = .framing then 1 else 2)) ∨
          (t.log.find .operatorLinkLost (.link l) = none ∧ t.log.full = true)))

/-- OPERATOR_LINK_UP tells that the interface holds lock, with the frame marker at an offset. A DOWN link whose marker
lies within ±250 du comes UP with its last cause kept: its link mark is broken, every orphan flag is evaluated, a change
of one raising or clearing CARRIER_ORPHANED (R22, R23), and where none changes, its empty outgoing queue takes PLAN_OFFER
for a plan that still awaits its answer, MAIL for a full inbox and ATTENTION where its composite is true, in this order,
and an ACTIVE OPERATOR_LINK_LOST is cleared (R149, R166, R175, R178, R179, R181). On an UP link within its window, and on
a DOWN one beyond it, it tells the marker's place and nothing else (log entry 2); an UP link beyond it goes DOWN as
OPERATOR_LINK_DOWN says. -/
def Obligations.AnOperatorLinkComesUp : Prop :=
  ∀ (s : State) (l : Link) (d : Int), s.mode ≠ .reset →
    let fit := -250 ≤ d ∧ d ≤ 250
    ((s.linkUp l = true ↔ fit) → exec (.operatorLinkUp { link := l, offset := d }) s =
      .next { s with links := s.links.set l { s.links[l] with alignment := some d } }) ∧
    (s.linkUp l = true → ¬ fit → s.links[l].alignment.isSome = true →
      exec (.operatorLinkUp { link := l, offset := d }) s = exec (.operatorLinkDown l (.alignment d)) s) ∧
    (s.linkUp l = false → fit →
      let p := Port.ofLink l
      let links := s.links.set l { s.links[l] with up := true, alignment := some d }
      ∃ t, exec (.operatorLinkUp { link := l, offset := d }) s = .next t ∧
        t = { s with links := links, ports := t.ports, carriers := t.carriers, placements := t.placements, power := t.power
                     log := t.log, load := { s.load with linkWhole := s.load.linkWhole.set l false } } ∧
        (∀ q : Port, t.ports[q].queue = s.ports[q].queue ∧ t.ports[q].inService = s.ports[q].inService) ∧
        (∀ c : Carrier, t.carriers[c] = { s.carriers[c] with orphan := t.orphanCondition c }) ∧
        (s.log.sound → s.orphansReported t) ∧
        (∀ i r, s.log.find .operatorLinkLost (.link l) = some (i, r) → r.active = true →
          ∃ q, t.log.slots[i] = some q ∧ q.kind = .operatorLinkLost ∧ q.clearFrame = some s.timing.frame) ∧
        ((∀ c : Carrier, s.carriers[c].orphan = State.orphanCondition { s with links := links } c) →
          s.ports[p].outgoing = [] → (s.placements.map fun q => (q.head, q.carrier)).Nodup →
          ∃ offers mails attentions, t.ports[p].outgoing = offers ++ mails ++ attentions ∧
            (∀ k map o n, s.pendingPlan = some (k, o) → s.plans.slots[k] = .consent map o n →
              offers = if l ∈ o.affected ∧ o.answers[l] = .none then [offerMessage o.number k] else []) ∧
            (s.pendingPlan = none → offers = []) ∧
            (∀ k map o, s.pendingPlan = some (k, o) → s.plans.slots[k] = .commitWait map o → offers = []) ∧
            mails = (s.inboxes[p].toList.map mailMessage) ∧
            attentions = (if t.log.composite p = true then [attentionMessage t.log p] else [])))

/-! ## Frame timing (Chapter 11) -/

/-- In LOCKED a mark within the range of the period is a boundary and the new period, an early one is discarded, and one
after the limit finds the limit taken first (log entry 6). In HELD the first mark is the candidate, a mark within the
range after it locks the unit, as a boundary or merged into one of the same moment, and any other is the new candidate;
the locking mark moves each frame marker against the boundary, and a link is then UP exactly while its marker lies within
±250 du of it (R179; which marker is nearest is log entry 39). The limit takes a boundary and enters HELD with the period
kept; in HELD a boundary comes each period (R193). That the limits are taken at any moment, that a mark in HELD does not
first take held boundaries, and that MARK_TIMEOUT in HELD and HELD_BOUNDARY in LOCKED change nothing are log entries 34
and 2. -/
def Obligations.MarksAndLimitsMakeTheBoundaries : Prop :=
  ∀ (s : State) (m : Nat), s.mode ≠ .reset → s.timing.now ≤ m → s.timing.lastBoundary ≤ m →
    let x := s.timing
    let gap := m - x.lastBoundary
    let timed := fun (i : Instr) (y : Timing) => ∃ t, exec i s = .next t ∧ t.timing = y ∧
      (i ≠ .timingMark m → t.links = s.links)
    (x.state = .locked →
      (2497500 ≤ gap → gap ≤ 2502500 → timed (.timingMark m)
        { state := .locked, period := gap, lastBoundary := m, candidate := none, frame := x.frame + 1, now := m }) ∧
      (gap < 2497500 → exec (.timingMark m) s = .next (s.atMoment m)) ∧
      (2502500 < gap → timed (.timingMark m)
        { state := .held, period := x.period, lastBoundary := x.lastBoundary + 2502500, candidate := some m
          frame := x.frame + 1, now := m }) ∧
      timed .markTimeout
        { state := .held, period := x.period, lastBoundary := x.lastBoundary + 2502500, candidate := none
          frame := x.frame + 1, now := max x.now (x.lastBoundary + 2502500) } ∧
      exec .heldBoundary s = .next s) ∧
    (x.state = .held →
      (x.candidate = none → exec (.timingMark m) s =
        .next { s with timing := { x with candidate := some m, now := m } }) ∧
      (∀ c, x.candidate = some c → c ≤ m →
        (m - c < 2497500 ∨ 2502500 < m - c → exec (.timingMark m) s =
          .next { s with timing := { x with candidate := some m, now := m } }) ∧
        (2497500 ≤ m - c → m - c ≤ 2502500 →
          (m = x.lastBoundary → timed (.timingMark m) { x with state := .locked, period := m - c, candidate := none, now := m }) ∧
          (m ≠ x.lastBoundary → timed (.timingMark m)
            { state := .locked, period := m - c, lastBoundary := m, candidate := none, frame := x.frame + 1, now := m }) ∧
          (0 < x.period → ∃ t, exec (.timingMark m) s = .next t ∧ ∀ l : Link,
            (s.links[l].alignment = none → t.links[l].alignment = none ∧ t.links[l].up = false) ∧
            (∀ d, s.links[l].alignment = some d → ∃ e, t.links[l].alignment = some e ∧
              (x.period : Int) ∣ e - (d - gap) ∧ -(x.period : Int) < 2 * e ∧ 2 * e ≤ x.period ∧
              (t.links[l].up = true ↔ -250 ≤ e ∧ e ≤ 250))))) ∧
      timed .heldBoundary
        { x with lastBoundary := x.lastBoundary + x.period, frame := x.frame + 1
                 now := max x.now (x.lastBoundary + x.period) } ∧
      exec .markTimeout s = .next s)

/-- With nothing left due, a frame boundary leaves the configuration, the maps, the lanes, the weights, the links, the
inboxes, the arbiter and the wires as they are; it counts the consent time and calls for the expiry, the plan in
COMMIT_WAIT and all pending bindings, completes the recomputes that were running at the last boundary and marks the
others, and keeps every placement with its units and exclusion, every head link's state, delay, report, settings and test
(R18, R52, R152, R155, R193). That what it calls for are steps of their own is log entry 6, and the moment at which a
recompute completes log entry 8. -/
def Obligations.AFrameBoundaryIsHandedOn : Prop :=
  ∀ (s : State) (i : Instr), s.mode ≠ .reset → s.due = [] → s.takesBoundary i →
    ∃ t, exec i s = .next t ∧
      t = { s with timing := t.timing, power := t.power, placements := t.placements, log := t.log, ports := t.ports
                   plans := t.plans, load := t.load, uplinks := t.uplinks, heads := t.heads, due := t.due
                   satFrames := t.satFrames } ∧
      t.timing.frame = s.timing.frame + 1 ∧
      t.plans = { s.plans with slots := t.plans.slots } ∧
      (∀ (k : SlotIndex) (map : SectorMap) (o : Offer) (n : Nat), s.plans.slots[k] = .consent map o n →
        t.plans.slots[k] = .consent map o (n - 1) ∧ (n ≤ 1 → .consentExpiry ∈ t.due)) ∧
      (∀ (k : SlotIndex) (map : SectorMap) (o : Offer), s.plans.slots[k] = .commitWait map o →
        t.plans.slots[k] = .commitWait map o ∧ .planRevalidate k o.number ∈ t.due) ∧
      (∀ k : SlotIndex, s.plans.slots[k].offer? = none → t.plans.slots[k] = s.plans.slots[k]) ∧
      (∀ c : Carrier, s.carriers[c].pending.isSome = true → ∃ l, .bindingApply l ∈ t.due ∧
        ∀ d : Carrier, d ∈ l ↔ s.carriers[d].pending.isSome = true) ∧
      (∀ h : Head,
        (s.power[h].aged = false → t.power[h] = { s.power[h] with aged := s.power[h].running.isSome }) ∧
        (s.power[h].aged = true → s.power[h].again = false → t.power[h].running = none)) ∧
      t.placements.map (fun p => (p.head, p.carrier, p.first, p.units, p.exclusion)) =
        s.placements.map (fun p => (p.head, p.carrier, p.first, p.units, p.exclusion)) ∧
      (∀ h : Head, t.heads[h].state = s.heads[h].state ∧ t.heads[h].delay = s.heads[h].delay ∧
        t.heads[h].report = s.heads[h].report ∧ t.heads[h].settings = s.heads[h].settings ∧
        t.heads[h].test = s.heads[h].test)

/-- With nothing left due, at a frame boundary each head link counts: the markers of a running attempt go on by one where
all have returned, and the attempt is called lost where one has not; a MEASURE head without one is to begin one (R96); the
remeasure countdown of an in-service head falls and at 0 calls for a re-measure (R100); the locked frame count of a SEEK
head rises where lock held throughout, and calls for MEASURE where its conditions hold (R92); the blip window of every
head but an OFF one and the error window of an in-service one count to 99 and then call for their end (R106, R107); the
hold-off of a FAILED head rises and at its setting calls for its expiry (R109). Nothing else of any head link changes. That
what is called for are steps of their own is log entry 6. -/
def Obligations.AFrameBoundaryCountsForTheHeadLinks : Prop :=
  ∀ (s : State) (i : Instr), s.mode ≠ .reset → s.due = [] → s.takesBoundary i →
    ∃ t, exec i s = .next t ∧ ∀ h : Head,
      let x := s.heads[h]
      let y := t.heads[h]
      let serving := x.state = .up ∨ x.state = .degraded
      y = { x with markers := y.markers, remeasureCount := y.remeasureCount, lockWhole := x.framerLock
                   lockedCount := y.lockedCount, blipFrames := y.blipFrames, errorFrames := y.errorFrames
                   holdOffCount := y.holdOffCount } ∧
      (x.markers = none → y.markers = none ∧ (x.state = .measure → .attemptBegin h ∈ t.due)) ∧
      (∀ ms, x.markers = some ms →
        ((∃ a ∈ ms, a.roundTrip = none) → y.markers = some ms ∧ .markerLost h ∈ t.due) ∧
        ((∀ a ∈ ms, a.roundTrip ≠ none) →
          y.markers = some (ms ++ [{ sentFrame := s.timing.frame + 1, roundTrip := none }]))) ∧
      (serving → 0 < x.settings.remeasure → 0 < x.remeasureCount →
        y.remeasureCount = x.remeasureCount - 1 ∧ (x.remeasureCount = 1 → .remeasureBegin h ∈ t.due)) ∧
      (¬ serving ∨ x.settings.remeasure = 0 ∨ x.remeasureCount = 0 → y.remeasureCount = x.remeasureCount) ∧
      (x.state = .seek ∧ x.framerLock = true ∧ x.lockWhole = true → y.lockedCount = min 16 (x.lockedCount + 1)) ∧
      (x.state ≠ .seek ∨ x.framerLock = false ∨ x.lockWhole = false → y.lockedCount = x.lockedCount) ∧
      (x.state = .seek → 2 ^ (x.settings.hysteresis + 1) ≤ y.lockedCount → x.reportSeen = true →
        .seekLock h t.timing.lastBoundary ∈ t.due) ∧
      (x.state = .off → y.blipFrames = x.blipFrames) ∧
      (x.state ≠ .off → (x.blipFrames < 99 → y.blipFrames = x.blipFrames + 1) ∧
        (99 ≤ x.blipFrames → y.blipFrames = x.blipFrames ∧ .blipWindow h ∈ t.due)) ∧
      (¬ serving → y.errorFrames = x.errorFrames) ∧
      (serving → (x.errorFrames < 99 → y.errorFrames = x.errorFrames + 1) ∧
        (99 ≤ x.errorFrames → y.errorFrames = x.errorFrames ∧ .errorWindow h ∈ t.due)) ∧
      (x.state ≠ .failed → y.holdOffCount = x.holdOffCount) ∧
      (x.state = .failed → y.holdOffCount = min 65535 (x.holdOffCount + 1) ∧
        (x.settings.holdOff ≤ y.holdOffCount → .holdOff h ∈ t.due))

/-- With nothing left due, at a frame boundary every meter gives its mean and whether its frame was complete, which needs
the samples of a whole frame and the head in service for all of it, and starts from 0 (R78, R79, R124); the alignment
offset of a placement that is not EXCLUDED, on a head of known delay, becomes the largest such delay of its carrier less
its own, of any other 0 (R68); the held sets follow the offset, a whole number of sample periods by log entry 23 (R69);
each noise guard counts loud and quiet frames and calls for a mute or an unmute (R81); slip gates and the saturation
window count and call for their ends (R74, R77); the marks of the load monitor are set afresh, and the frame's placements
are counted unless the window starts with the new frame (R124, R125, R126). -/
def Obligations.AFrameBoundaryClosesTheFrame : Prop :=
  ∀ (s : State) (i : Instr), s.mode ≠ .reset → s.due = [] → s.takesBoundary i →
    ∃ t, exec i s = .next t ∧
      let mean := fun p : Placement => if p.meter.count = 0 then 0 else p.meter.sum / p.meter.count
      let complete := fun p : Placement => s.load.heads[p.head].whole && decide (p.meter.count = 12800 * p.units)
      t.placements.length = s.placements.length ∧
      (∀ (n : Nat) (p q : Placement), s.placements[n]? = some p → t.placements[n]? = some q →
        q.meter = { sum := 0, count := 0, lastMean := mean p, lastComplete := complete p } ∧
        (p.exclusion ≠ .none ∨ s.heads[p.head].delay = none → q.offset = 0) ∧
        (∀ d, p.exclusion = .none → s.heads[p.head].delay = some d →
          (∃ r ∈ s.placements, r.carrier = p.carrier ∧ r.exclusion = .none ∧ s.heads[r.head].delay = some (d + q.offset)) ∧
          ∀ r ∈ s.placements, ∀ e, r.carrier = p.carrier → r.exclusion = .none → s.heads[r.head].delay = some e →
            e ≤ d + q.offset) ∧
        ∀ before after, (before, after) ∈ [(p.downHeld, q.downHeld), (p.upHeld, q.upHeld)] →
          let k := 16 * q.offset / 3125
          (k ≤ before.length → after = before.drop (before.length - k)) ∧
          (before.length < k → after =
            List.replicate (k - before.length) (List.replicate p.units { i := 0, q := 0 }) ++ before)) ∧
      (∀ h : Head,
        let x := s.uplinks[h]
        let y := t.uplinks[h]
        let gate := if x.slipGate = 1 then 1 else x.slipGate - 1
        let on := s.placements.filter fun p => decide (p.head = h)
        let loud := ∀ p ∈ on, x.ceiling ≤ mean p
        (x.slipGate = 1 → .slipGate h ∈ t.due) ∧
        (on = [] → y = { x with slipGate := gate, muted := false, loud := 0, quiet := 0 }) ∧
        ((∃ p ∈ on, complete p = false) → y = { x with slipGate := gate }) ∧
        (on ≠ [] → (∀ p ∈ on, complete p = true) →
          (x.muted = false → ¬ loud → y = { x with slipGate := gate, loud := 0 }) ∧
          (x.muted = true → loud → y = { x with slipGate := gate, quiet := 0 }) ∧
          (x.muted = false → loud → y = { x with slipGate := gate, loud := min 1000 (x.loud + 1) } ∧
            (x.onset ≤ y.loud → ∃ p ∈ on, (∀ q ∈ on, mean p ≤ mean q) ∧ .mute h (mean p) ∈ t.due)) ∧
          (x.muted = true → ¬ loud → y = { x with slipGate := gate, quiet := min 1000 (x.quiet + 1) } ∧
            (x.release ≤ y.quiet → .unmute h ∈ t.due)))) ∧
      (s.satFrames < 99 → t.satFrames = s.satFrames + 1) ∧
      (99 ≤ s.satFrames → t.satFrames = s.satFrames ∧ .saturationWindow ∈ t.due) ∧
      (let counted := fun p : Placement => s.load.runWhole && s.load.heads[p.head].whole && complete p &&
         !s.uplinks[p.head].muted && s.load.linkWhole[p.carrier.owner]
       let late := decide (s.load.windowStart = s.timing.frame + 1)
       let frames := s.load.windowFrames + 1
       t.load = { s.load with runWhole := decide (s.mode = .run), linkWhole := t.load.linkWhole, heads := t.load.heads
                              windowFrames := if late then s.load.windowFrames else frames } ∧
       (∀ l : Link, t.load.linkWhole[l] = s.linkUp l) ∧
       (∀ h : Head, let x := s.load.heads[h]
         let mine := s.placements.filter fun p => decide (p.head = h) && counted p
         t.load.heads[h] =
           { x with whole := s.inService h
                    present := if late then x.present else x.present + mine.length
                    busy := if late then x.busy else x.busy + mine.countP fun p => decide (x.activity ≤ mean p) }) ∧
       (late = false → frames = s.load.window → .loadWindow ∈ t.due))

/-! ## The sample switch and the windows at work (Chapters 4 and 7) -/

/-- A mute that is due sets the guard, keeps the rest of the switch and raises UPLINK_NOISE with the smallest frame mean; an
unmute that is due resets the guard and clears it; a slip gate that is due to open opens; where none is due, nothing
changes (R74, R82). That they are steps of their own is log entry 6. -/
def Obligations.GuardsAndGatesActWhenDue : Prop :=
  ∀ (s : State) (h : Head) (rest : List Due), s.mode ≠ .reset →
    (∀ n, s.due = .mute h n :: rest → s.uplinks[h].muted = false → 0 < s.uplinks[h].loud →
      exec (.noiseGuardMute h) s =
        .next { s.raise .uplinkNoise (.head h) n with
          uplinks := s.uplinks.set h { s.uplinks[h] with muted := true, quiet := 0 }, due := rest }) ∧
    (s.due = .unmute h :: rest → s.uplinks[h].muted = true → 0 < s.uplinks[h].quiet →
      exec (.noiseGuardUnmute h) s =
        .next { s.clear .uplinkNoise (.head h) with
          uplinks := s.uplinks.set h { s.uplinks[h] with muted := false, loud := 0, quiet := 0 }, due := rest }) ∧
    (s.due = .slipGate h :: rest → s.uplinks[h].slipGate = 1 →
      exec (.slipGateOpen h) s =
        .next { s with uplinks := s.uplinks.set h { s.uplinks[h] with slipGate := 0 }, due := rest }) ∧
    (s.due = [] → exec (.noiseGuardMute h) s = .next s ∧ exec (.noiseGuardUnmute h) s = .next s ∧
      exec (.slipGateOpen h) s = .next s)

/-- The end of the saturation window stores every count and starts from 0, and raises UPLINK_SATURATION of each carrier
whose threshold is above 0 and whose count reaches it, with the count (R77), in ascending carrier order by log entry 36.
The end of the load window publishes the loads, starts the next window with this frame and evaluates the triggers in turn:
one that is not armed or awaits an answer is left, a test that fails clears its count and its deferred flag, one that
holds short of its windows counts up (R126, R127, R128, R131). The first that reaches its windows awaits its answer:
deferred, with the plans as they are, where a plan or a binding is pending, else taken, with the plans that a proposal of
its slot gives (R131, R132, R148). The answer sets a trigger that still awaits it to deferred at its windows, or, taken,
to count 0 and, where it is SINGLE, not armed; of one that does not, nothing (R133). That the answer is a step of its own,
with the later triggers evaluated after it, is log entry 29. -/
def Obligations.WindowsEndWhenDue : Prop :=
  ∀ (s : State) (rest : List Due), s.mode ≠ .reset →
    (s.due = .saturationWindow :: rest → s.satFrames = 99 →
      ∃ t, exec .saturationWindowEnd s = .next t ∧
        t = { s with monitors := t.monitors, satFrames := 0, log := t.log, ports := t.ports, due := rest } ∧
        (∀ c : Carrier, t.monitors[c] =
          { count := 0, last := s.monitors[c].count, threshold := s.monitors[c].threshold }) ∧
        (let met := fun c : Carrier => decide (0 < s.monitors[c].threshold) && decide (s.monitors[c].threshold ≤ s.monitors[c].count)
         let u := (allCarriers.filter met).foldl (fun v c => v.raise .uplinkSaturation (.carrier c) s.monitors[c].count) s
         t.log = u.log ∧ t.ports = u.ports)) ∧
    (s.due = .loadWindow :: rest → s.load.windowFrames = s.load.window →
      ∃ t r, exec .loadWindowEnd s = .next t ∧
        t = { s with load := t.load, plans := t.plans, ports := t.ports, due := t.due } ∧
        t.load.published = some r ∧ r.frame = s.timing.frame ∧ r.window = s.load.window ∧
        (∀ h : Head, let x := s.load.heads[h]
          r.heads[h] = if x.present = 0 then { load := 0, measured := false }
            else { load := 100 * x.busy / x.present, measured := true }) ∧
        (∀ x : Sector,
          let members := allHeads.filter fun h => decide (s.sectorMap[h] = some x)
          let busy := (members.map fun h => s.load.heads[h].busy).sum
          let present := (members.map fun h => s.load.heads[h].present).sum
          r.sectors[x] = if present = 0 then { load := 0, measured := false }
            else { load := 100 * busy / present, measured := true }) ∧
        t.load.windowStart = s.timing.frame ∧ t.load.windowFrames = 0 ∧ t.load.window = s.load.window ∧
        (∀ h : Head, t.load.heads[h] = { s.load.heads[h] with present := 0, busy := 0 }) ∧
        (let waits := fun i : TriggerIndex => s.load.triggers[i].armed = false ∨ s.load.triggers[i].awaiting = true
         let holds := fun i : TriggerIndex =>
           let x := s.load.triggers[i]
           let y := r.sectors[x.sector]
           y.measured = true ∧ (x.direction = .above → x.mark ≤ y.load) ∧ (x.direction = .below → y.load ≤ x.mark)
         let fires := fun i : TriggerIndex =>
           ¬ waits i ∧ holds i ∧ s.load.triggers[i].windows ≤ s.load.triggers[i].count + 1
         (∀ i : TriggerIndex, (∀ j, j ≤ i → ¬ fires j) →
           let x := s.load.triggers[i]
           (waits i → t.load.triggers[i] = x) ∧
           (¬ waits i → ¬ holds i → t.load.triggers[i] = { x with count := 0, deferred := false }) ∧
           (¬ waits i → holds i → t.load.triggers[i] = { x with count := x.count + 1 })) ∧
         (∀ i : TriggerIndex, fires i → (∀ j, j < i → ¬ fires j) →
           let x := s.load.triggers[i]
           let deferred := s.planPending || s.bindingPending
           t.load.triggers[i] = { x with count := x.windows, awaiting := true } ∧
           (∀ j, i < j → t.load.triggers[j] = s.load.triggers[j]) ∧ t.due = .triggerAnswer i deferred r.sectors :: rest ∧
           (deferred = true → t.plans = s.plans ∧ t.ports = s.ports) ∧
           (deferred = false → t.plans = (s.propose x.slot (.trigger i)).plans ∧
             t.ports = (s.propose x.slot (.trigger i)).ports)) ∧
         ((∀ i, ¬ fires i) → t.due = rest ∧ t.plans = s.plans ∧ t.ports = s.ports))) ∧
    (∀ (i : TriggerIndex) (deferred : Bool) (loads : Vector Load 12), s.due = .triggerAnswer i deferred loads :: rest →
      let x := s.load.triggers[i]
      ∃ t, exec .loadWindowEnd s = .next t ∧
        t = { s with load := { s.load with triggers := t.load.triggers }, plans := t.plans, ports := t.ports
                     due := t.due } ∧
        (x.awaiting = true → t.load.triggers[i] =
          if deferred then { x with count := x.windows, deferred := true, awaiting := false }
          else { x with armed := x.armed && decide (x.mode = .repeating), count := 0, deferred := false, awaiting := false }) ∧
        (x.awaiting = false → t.load.triggers[i] = x) ∧
        (∀ j, j < i → t.load.triggers[j] = s.load.triggers[j]) ∧
        ((∀ j, i < j → s.load.triggers[j].armed = false ∨ s.load.triggers[j].awaiting = true) →
          (∀ j, i < j → t.load.triggers[j] = s.load.triggers[j]) ∧ t.due = rest ∧ t.plans = s.plans ∧ t.ports = s.ports))

/-- A sample period, with nothing due: each head link carries what its state calls for, in TEST the pattern with each
byte's parity bit, and on the units of a RADIATING placement the oldest set that it holds back, or the carrier's samples
where it holds none, scaled by the attenuation in use; every other unit of a head in service in RUN carries samples of value
0, be it FREE, RESERVED or of a placement in another state (R65 to R67, R69, R88, R115); a DOWN operator link carries no
uplink, and in HOLD the anchor sample goes to C0 alone (R76, R196; that the anchor sum takes no alignment offset is log
entry 35); a RUNNING buffer gives up its oldest group, and where that leaves it near empty or near full it slips, with
BUFFER_SLIP of its fill (R72, R73, R74), in ascending head order by log entry 36. Every placement's held sets move on by one
and its meter takes the samples read from its units (R69, R78). That an offset holds back whole sets, which move on by one in
each period, is log entry 23, and what enters the line of a placement that is not RADIATING log entry 24: R66, R67 and R69 do
not say so. Only the wires, the placements' lines and meters, the monitors, the test patterns, the buffers and what their
slips raise change. Whether the parity is odd or even is a free value (log entry 37). -/
def Obligations.ASamplePeriodMovesTheSamples : Prop :=
  ∀ (s : State) (streams : Streams), s.mode ≠ .reset → s.due = [] →
    let zero : Sample := { i := 0, q := 0 }
    let read := fun p : Placement =>
      if s.uplinks[p.head].running = true then
        ((s.uplinks[p.head].groups.headD (Vector.replicate 8 zero)).toList.drop p.first.val).take p.units
      else List.replicate p.units zero
    let copied := fun p : Placement =>
      if s.downlinkState p = .radiating then streams[p.carrier].toList.take p.units else List.replicate p.units zero
    let shifted := fun (line : List (List Sample)) (new : List Sample) => if line = [] then [] else line.drop 1 ++ [new]
    let left := fun h : Head => s.uplinks[h].groups.drop 1
    let slips := fun h : Head => s.uplinks[h].running &&
      (decide ((left h).length ≤ s.uplinks[h].almostEmpty) || decide (64 - s.uplinks[h].almostFull ≤ (left h).length))
    let centred := fun h : Head => if 32 ≤ (left h).length then (left h).drop ((left h).length - 32)
      else match left h with
        | [] => List.replicate 32 (Vector.replicate 8 zero)
        | oldest :: _ => List.replicate (32 - (left h).length) oldest ++ left h
    ∃ t, exec (.samplePeriod streams) s = .next t ∧
      t = { s with wires := t.wires, placements := t.placements, monitors := t.monitors, heads := t.heads
                   uplinks := t.uplinks, log := t.log, ports := t.ports } ∧
      t.wires.subChannel = s.wires.subChannel ∧ t.wires.spi = s.wires.spi ∧
      t.placements = s.placements.map (fun p =>
        { p with
          downHeld := shifted p.downHeld (copied p), upHeld := shifted p.upHeld (read p)
          meter :=
            if s.uplinks[p.head].running = true then
              { p.meter with
                sum := p.meter.sum + ((read p).map fun x => (x.i.toInt * x.i.toInt + x.q.toInt * x.q.toInt).toNat).sum
                count := p.meter.count + (read p).length }
            else p.meter }) ∧
      (s.mode = .hold → t.monitors = s.monitors) ∧
      (∀ h : Head, let zeros : List Sample := List.replicate 8 zero
        (s.heads[h].state = .off → t.wires.heads[h] = .dark) ∧
        (s.heads[h].state = .seek ∨ s.heads[h].state = .measure ∨ s.heads[h].state = .failed →
          t.wires.heads[h] = .lanes zeros) ∧
        (s.heads[h].state = .test → ∃ words, t.wires.heads[h] = .loopback words ∧
          words.map (·.data) = (patternWords 8 s.heads[h].test.pattern).1 ∧
          (∀ w ∈ words, ∀ j, j < 4 →
            w.parity.getLsbD j = ((List.range 8).foldl (fun b n => b ^^ w.data.getLsbD (8 * j + n)) Config.oddParity)) ∧
          t.heads[h] = { s.heads[h] with
            test := { s.heads[h].test with pattern := (patternWords 8 s.heads[h].test.pattern).2 } }) ∧
        (s.heads[h].state ≠ .test → t.heads[h] = s.heads[h]) ∧
        (s.inService h = true → s.mode = .hold →
          t.wires.heads[h] = .lanes ((if s.linkUp 0 = true then Sample.scale (streams[(0 : Carrier)][0]) 20
            else zero) :: zeros.drop 1)) ∧
        (∀ p ∈ s.placements, p.head = h → s.downlinkState p = .radiating →
          (∀ q ∈ s.placements, q.head = h → q ≠ p →
            q.first.val + q.units ≤ p.first.val ∨ p.first.val + p.units ≤ q.first.val) →
          p.first.val + p.units ≤ 8 →
          ∃ l, t.wires.heads[h] = .lanes l ∧ l.length = 8 ∧ ∀ i, i < p.units →
            l[p.first.val + i]? = some (Sample.scale ((p.downHeld.headD (copied p)).getD i zero) p.inUse)) ∧
        (s.inService h = true → s.mode = .run → ∃ l, t.wires.heads[h] = .lanes l ∧ l.length = 8 ∧ ∀ u : LaneIndex,
          (∀ p ∈ s.placements, p.head = h → s.downlinkState p = .radiating → ¬ covers p.first.val p.units u) →
          l[u.val]? = some zero) ∧
        (s.uplinks[h].running = false → t.uplinks[h] = s.uplinks[h]) ∧
        (s.uplinks[h].running = true → slips h = false → t.uplinks[h] = { s.uplinks[h] with groups := left h }) ∧
        (slips h = true → (centred h).length = 32 ∧
          t.uplinks[h] = { s.uplinks[h] with groups := centred h, slipGate := 2 })) ∧
      (let u := (allHeads.filter slips).foldl (fun v h => v.raise .bufferSlip (.head h) (left h).length) s
       t.log = u.log ∧ t.ports = u.ports) ∧
      (∀ c : Carrier,
        (s.linkUp c.owner = false → t.wires.uplink[c] = []) ∧
        (s.linkUp c.owner = true → s.mode = .hold → c ≠ 0 →
          t.wires.uplink[c] = List.replicate s.carriers[c].width.units zero) ∧
        (s.linkUp c.owner = true → s.mode = .hold → c = 0 → t.wires.uplink[c] =
          let terms := (allHeads.filter fun h =>
              s.inService h && !s.uplinks[h].muted && decide (s.uplinks[h].slipGate = 0)).map fun h =>
            if s.uplinks[h].running = true then (s.uplinks[h].groups.headD (Vector.replicate 8 zero))[0] else zero
          [{ i := combineComponent (terms.map fun x => (x.i, 64)) 4, q := combineComponent (terms.map fun x => (x.q, 64)) 4 }]))

/-- A sample period in RUN, with nothing due: each sample of a carrier on an UP operator link combines, at their gains and
under the carrier's shift, the samples of exactly those heads that are in service, not muted, with their slip gate open and
with a placement of the carrier that is not EXCLUDED, each taken at its alignment offset (R64, R69, R75, R76); the monitor
counts its saturated components (R77), whether the link is UP or DOWN. That the offset is a line of whole held sets, of which
the oldest is taken, is the model's choice (log entries 23 and 24). -/
def Obligations.ASamplePeriodCombinesTheUplink : Prop :=
  ∀ (s : State) (streams : Streams), s.mode = .run → s.due = [] →
    let zero : Sample := { i := 0, q := 0 }
    let read := fun p : Placement =>
      if s.uplinks[p.head].running = true then
        ((s.uplinks[p.head].groups.headD (Vector.replicate 8 zero)).toList.drop p.first.val).take p.units
      else List.replicate p.units zero
    let gate := fun p : Placement =>
      s.inService p.head && !s.uplinks[p.head].muted && decide (s.uplinks[p.head].slipGate = 0) && decide (p.exclusion = .none)
    let terms := fun (c : Carrier) (j : Nat) =>
      (s.placements.filter fun p => decide (p.carrier = c) && gate p).map fun p =>
        ((p.upHeld.headD (read p)).getD j zero, s.uplinks[p.head].gain)
    let left := fun (c : Carrier) (j : Nat) => (terms c j).map fun x => (x.1.i, x.2)
    let right := fun (c : Carrier) (j : Nat) => (terms c j).map fun x => (x.1.q, x.2)
    ∃ t, exec (.samplePeriod streams) s = .next t ∧ ∀ c : Carrier,
      let x := s.carriers[c]
      let samples := List.range x.width.units
      (s.linkUp c.owner = true → t.wires.uplink[c] = samples.map fun j =>
        { i := combineComponent (left c j) x.shift, q := combineComponent (right c j) x.shift }) ∧
      t.monitors[c] = { s.monitors[c] with
        count := min 65535 (s.monitors[c].count +
          (samples.map fun j => saturated (left c j) x.shift + saturated (right c j) x.shift).sum) }

/-- An uplink group on an in-service head counts the words of which a byte fails its parity, one error a word, up to
10,240,000; the sense of the parity is a free value (log entry 37). A STOPPED buffer takes
nothing, a RUNNING one appends the group unless it is full, and where its fill then stands at a mark it is
re-centred to 32 groups, the oldest discarded or the oldest repeated ahead of itself, its slip gate closed and BUFFER_SLIP
raised with the fill (R71, R72, R73, R74, R107). -/
def Obligations.GroupsAreAppendedAndChecked : Prop :=
  ∀ (s : State) (h : Head) (words : Vector LaneWord 8), s.mode ≠ .reset →
    let x := s.uplinks[h]
    let g : Group := words.map (·.sample)
    let groups := if x.groups.length < 64 then x.groups ++ [g] else x.groups
    let bad := words.toList.countP fun w => decide (∃ j : Fin 4,
      w.parity.getLsbD j ≠ ((List.range 8).foldl (fun b n => b ^^ (w.sample.i ++ w.sample.q).getLsbD (8 * j + n)) Config.oddParity))
    let heads := if s.inService h = true
      then s.heads.set h { s.heads[h] with errors := min 10240000 (s.heads[h].errors + bad) } else s.heads
    let centred := if 32 ≤ groups.length then groups.drop (groups.length - 32)
      else match groups with
        | [] => List.replicate 32 (Vector.replicate 8 { i := 0, q := 0 })
        | oldest :: _ => List.replicate (32 - groups.length) oldest ++ groups
    (x.running = false → exec (.uplinkGroupComplete h words) s = .next { s with heads := heads }) ∧
    (x.running = true → x.almostEmpty < groups.length → groups.length < 64 - x.almostFull →
      exec (.uplinkGroupComplete h words) s =
        .next { s with heads := heads, uplinks := s.uplinks.set h { x with groups := groups } }) ∧
    (x.running = true → groups.length ≤ x.almostEmpty ∨ 64 - x.almostFull ≤ groups.length →
      centred.length = 32 ∧
      exec (.uplinkGroupComplete h words) s =
        .next { s.raise .bufferSlip (.head h) groups.length with
          heads := heads, uplinks := s.uplinks.set h { x with groups := centred, slipGate := 2 } })

/-- The amplitude factor A of each step is 65536 × 10^(−k/40) to the nearest integer, which is said in fortieth powers, and a
component scaled by a step is the exact product rounded half up; step 0 changes nothing (R67). A combined
component is the exact weighted sum over 64 times 2^s, rounded half up, unless it saturates, which the monitor counts:
then it is the nearest end of the 16-bit range (R76, R77). -/
def Obligations.SamplesAreRoundedHalfUpAndSaturate : Prop :=
  (∀ k : Fin 32, (2 * amplitudeFactor k - 1) ^ 40 * 10 ^ k.val ≤ 131072 ^ 40 ∧
    131072 ^ 40 ≤ (2 * amplitudeFactor k + 1) ^ 40 * 10 ^ k.val) ∧
  (∀ (x : BitVec 16) (k : Fin 32),
    let y := (scaleComponent x k).toInt
    y * 65536 - 32768 ≤ x.toInt * amplitudeFactor k ∧ x.toInt * amplitudeFactor k < y * 65536 + 32768 ∧
      scaleComponent x 0 = x) ∧
  (∀ (terms : List (BitVec 16 × Nat)) (shift : Nat),
    let sum := (terms.map fun t => t.1.toInt * (t.2 : Int)).sum
    let unit : Int := 32 * 2 ^ shift
    let y := (combineComponent terms shift).toInt
    (saturated terms shift = 0 → (2 * y - 1) * unit ≤ sum ∧ sum < (2 * y + 1) * unit) ∧
    (saturated terms shift ≠ 0 → saturated terms shift = 1 ∧
      ((y = 32767 ∧ (2 * y + 1) * unit ≤ sum) ∨ (y = -32768 ∧ sum < (2 * y - 1) * unit))))

/-! ## Events of a head link (Chapter 5) -/

/-- Light: a loss starts the light timer, except in OFF; a return stops it and counts a blip where it was running; the
blip limit in SEEK, FAILED, TEST and MEASURE stops it and takes SEEK back to the start and MEASURE to SEEK. Lock found
starts a new run; lock lost in these states does as the blip limit does, and not while light is absent (R91, R92,
R97, R105). That MEASURE is left with locked count 0, report seen no and the report timer stopped is log entry 12, that a
blip limit told before the timer stands at it only moves the time log entry 2. -/
def Obligations.LightAndLockAreFollowed : Prop :=
  ∀ (s : State) (h : Head) (m : Nat), s.mode ≠ .reset →
    let u := s.atMoment m
    let x := s.heads[h]
    let goes := fun (v : State) (y : HeadLink) => Host.Outcome.next (φ := Fault) (ρ := Refusal) { v with heads := s.heads.set h y }
    (x.lightAbsent = false → exec (.lightLost h m) s =
      goes u { x with lightAbsent := true, lightTimer := if x.state = .off then none else some (max s.timing.now m) }) ∧
    (x.lightAbsent = true → exec (.lightRestored h m) s =
      goes u { x with lightAbsent := false, lightTimer := none
                      blips := if x.lightTimer.isSome then min 255 (x.blips + 1) else x.blips }) ∧
    (∀ start, x.lightTimer = some start →
      (u.lightMs start < x.settings.blipLimit → exec (.blipLimitReached h m) s = .next u) ∧
      (x.settings.blipLimit ≤ u.lightMs start →
        (x.state = .seek → exec (.blipLimitReached h m) s =
          goes u { x with lightTimer := none, lockedCount := 0, reportSeen := false }) ∧
        (x.state = .failed ∨ x.state = .test → exec (.blipLimitReached h m) s = goes u { x with lightTimer := none }) ∧
        (x.state = .measure → exec (.blipLimitReached h m) s =
          goes u { x with lightTimer := none, state := .seek, markers := none, lockedCount := 0, reportSeen := false
                          attempt := 0, reportTimer := none }))) ∧
    (x.framerLock = false → exec (.lockFound h) s =
      goes s { x with framerLock := true, lockWhole := false
                      lockedCount := if x.state = .seek then 0 else x.lockedCount }) ∧
    (x.lightAbsent = true → exec (.lockLost h) s = .next s) ∧
    (x.lightAbsent = false →
      (x.state = .seek → exec (.lockLost h) s =
        goes s { x with framerLock := false, lockWhole := false, lockedCount := 0, reportSeen := false }) ∧
      (x.state = .failed ∨ x.state = .test ∨ x.state = .off → exec (.lockLost h) s =
        goes s { x with framerLock := false, lockWhole := false }) ∧
      (x.state = .measure → exec (.lockLost h) s =
        goes s { x with framerLock := false, lockWhole := false, state := .seek, markers := none, lockedCount := 0
                        reportSeen := false, attempt := 0, reportTimer := none }))

/-- A head in UP or DEGRADED drops to SEEK when it loses lock with light present, light for the blip limit, or its
reports for the lost limit: its delay is unknown, HEAD_LINK_LOST is held and HEAD_DEGRADED is not, the alarm log has
HEAD_LINK_LOST ACTIVE with the cause (2 lock, 1 light, 3 reports) or has dropped the raise in being full, its buffer is
STOPPED, its placements take part in no division, its power is recomputed and its service mark broken; no other head's
link or buffer changes (R99, R104, R105, R110). That the stopped error window, the remeasure countdown and the degraded window
count keep their values in the head's record is the model's choice (log entry 21). -/
def Obligations.AnInServiceHeadThatLosesItsLinkSeeks : Prop :=
  ∀ (s : State) (h : Head) (i : Instr) (m : Nat), s.mode ≠ .reset → s.inService h = true →
    let u := s.atMoment m
    let x := s.heads[h]
    (i = .lockLost h ∧ m = s.timing.now ∧ x.lightAbsent = false) ∨
      (i = .blipLimitReached h m ∧ ∃ start, x.lightTimer = some start ∧ x.settings.blipLimit ≤ u.lightMs start) ∨
      (i = .reportLostLimit h m ∧ ∃ start, x.reportTimer = some start ∧ x.settings.lostLimit ≤ u.reportMs start) →
    ∃ t, exec i s = .next t ∧
      t = { u with heads := t.heads, uplinks := t.uplinks, carriers := t.carriers, placements := t.placements
                   power := t.power, load := t.load, log := t.log, ports := t.ports } ∧
      (let y := t.heads[h]
       y = { x with state := .seek, delay := none, fibre := none, markers := none, lockedCount := 0, reportSeen := false
                    attempt := 0, reportTimer := none, held := y.held, lightTimer := y.lightTimer
                    framerLock := y.framerLock, lockWhole := y.lockWhole } ∧
        .headLinkLost ∈ y.held ∧ (x.state = .degraded → .headDegraded ∉ y.held)) ∧
      t.uplinks[h] = { s.uplinks[h] with running := false, groups := [] } ∧
      (∀ g, g ≠ h → t.heads[g] = s.heads[g] ∧ t.uplinks[g] = s.uplinks[g]) ∧
      (∀ p ∈ t.placements, p.head = h → t.eligible p = false) ∧
      t.power[h].running.isSome = true ∧ (s.power[h].running.isSome = true → t.power[h].again = true) ∧
      t.load.heads[h] = { s.load.heads[h] with whole := false } ∧
      (let cause := if i = .lockLost h then 2 else if i = .blipLimitReached h m then 1 else 3
       (∃ n r, t.log.find .headLinkLost (.head h) = some (n, r) ∧ r.active = true ∧ r.lastFrame = s.timing.frame ∧
          r.detail = cause) ∨
        (t.log.find .headLinkLost (.head h) = none ∧ t.log.full = true))

/-- A report that is intact is accepted in MEASURE, UP and DEGRADED, and in SEEK while lock is held: its capability,
latency, derate, PA-off flag and alarm bits are taken, HEAD_FAULT is held exactly while it shows one of them and follows
in the alarm log: raised with the detail of R161 where it was not held or the last report's detail differs, cleared by a
clean report, and else untouched; the derate and PA-off flag are handed to the power sharing unit, and the report timer
restarts; in SEEK report seen becomes yes, and where the locked frames are done the entry into MEASURE falls due as of
this moment. The period is judged behind HEAD_FAULT: under the minimum it raises REPORT_FAST with the period, up to the
maximum it clears REPORT_LATE, and the first report in MEASURE is not judged; where capability and PA-off flag repeat, the
log changes by these two alone. A report that is not accepted changes nothing but the time (R92 to R95, R103, R161). That
HEAD_FAULT goes first is log entry 36. That the entry into MEASURE is a step of its own is log entry 6. -/
def Obligations.AcceptedReportsAreTaken : Prop :=
  ∀ (s : State) (h : Head) (m : Nat) (r : HeadReport) (intact : Bool), s.mode ≠ .reset →
    let u := s.atMoment m
    let x := s.heads[h]
    let accepted := intact = true ∧
      (x.state = .measure ∨ x.state = .up ∨ x.state = .degraded ∨ (x.state = .seek ∧ x.framerLock = true))
    (¬ accepted → exec (.headReport h m r intact) s = .next u) ∧
    (accepted → ∃ t, exec (.headReport h m r intact) s = .next t ∧
      t = { u with heads := t.heads, carriers := t.carriers, placements := t.placements, power := t.power, log := t.log
                   ports := t.ports, due := t.due } ∧
      (let report : ReportRecord :=
        { derate := r.derate.val, paOff := r.paOff, overTemp := r.overTemp, supply := r.supply, paFault := r.paFault }
       let seeking := decide (x.state = .seek)
       t.heads[h] =
        { x with capability := if r.wide then .yes else .no, latency := some r.latency.val, report := some report
                 held := t.heads[h].held, reportSeen := x.reportSeen || seeking
                 reportTimer := if seeking then x.reportTimer else some (max s.timing.now m)
                 latePassed := x.latePassed && seeking, watched := x.watched || !seeking }) ∧
      (.headFault ∈ t.heads[h].held ↔
        r.derate ≠ 0 ∨ r.paOff = true ∨ r.overTemp = true ∨ r.supply = true ∨ r.paFault = true) ∧
      t.power[h].handedDerate = r.derate.val ∧ t.power[h].handedPaOff = r.paOff ∧
      (s.power[h].handedDerate ≠ r.derate.val ∨ s.power[h].handedPaOff ≠ r.paOff → t.power[h].running.isSome = true) ∧
      (∀ start, x.state ≠ .measure → x.reportTimer = some start → x.settings.reportMin ≤ u.reportMs start →
        u.reportMs start ≤ x.settings.reportMax → x.state ≠ .seek → .reportLate ∉ t.heads[h].held) ∧
      (∀ g, g ≠ h → t.heads[g] = s.heads[g]) ∧
      (x.state ≠ .seek → t.due = s.due) ∧
      (x.state = .seek →
        let waits := ∃ k, .seekLock h k ∈ s.due
        (2 ^ (x.settings.hysteresis + 1) ≤ x.lockedCount → ¬ waits →
          t.due = s.due ++ [.seekLock h (max s.timing.now m)]) ∧
        (x.lockedCount < 2 ^ (x.settings.hysteresis + 1) ∨ waits → t.due = s.due)) ∧
      (let detail := fun y : ReportRecord => y.derate + (if y.paOff then 8 else 0) + (if y.overTemp then 16 else 0) +
        (if y.supply then 32 else 0) + (if y.paFault then 64 else 0)
       let now := detail { derate := r.derate.val, paOff := r.paOff, overTemp := r.overTemp, supply := r.supply
                           paFault := r.paFault }
       let fresh := .headFault ∉ x.held ∨ x.report.map detail ≠ some now
       let untouched := ∀ (i : Fin 64) (y : AlarmRecord), y.kind = .headFault → y.subject = .head h →
         (t.log.slots[i] = some y → s.log.slots[i] = some y) ∧
         (y.active = true → s.log.slots[i] = some y → t.log.slots[i] = some y)
       (now ≠ 0 → fresh → s.log.raised t.log .headFault (.head h) s.timing.frame now) ∧
       (now = 0 → .headFault ∈ x.held → s.log.sound → t.log.quiet .headFault (.head h)) ∧
       ((now ≠ 0 ∧ ¬ fresh) ∨ (now = 0 ∧ .headFault ∉ x.held) → untouched) ∧
       (x.capability = (if r.wide then .yes else .no) → x.report.any (·.paOff) = r.paOff →
        t.placements = s.placements ∧ t.carriers = s.carriers ∧
        (s.power[h].handedDerate = r.derate.val → s.power[h].handedPaOff = r.paOff → t.power = s.power) ∧
        let v := if now = 0 then (if .headFault ∈ x.held then s.clear .headFault (.head h) else s)
          else if fresh then s.raise .headFault (.head h) now else s
        let held := if now = 0 then x.held.filter (fun k => k ≠ .headFault)
          else if .headFault ∈ x.held then x.held else x.held ++ [.headFault]
        (x.state = .seek ∨ x.reportTimer = none ∨ (x.state = .measure ∧ x.watched = false) →
          t.log = v.log ∧ t.ports = v.ports ∧ t.heads[h].held = held) ∧
        (∀ start, x.state ≠ .seek → x.reportTimer = some start → ¬ (x.state = .measure ∧ x.watched = false) →
          let period := u.reportMs start
          let w := if period < x.settings.reportMin then v.raise .reportFast (.head h) period
            else if period ≤ x.settings.reportMax ∧ .reportLate ∈ x.held then v.clear .reportLate (.head h) else v
          t.log = w.log ∧ t.ports = w.ports ∧
          t.heads[h].held = if x.settings.reportMin ≤ period ∧ period ≤ x.settings.reportMax then
            held.filter (fun k => k ≠ .reportLate) else held))))

/-- The exclusion of placements at run time (section 2.5). Where a delay is installed, by a MEASURE that enters UP or by a
re-measure beyond its tolerance, the placements of that head whose spread with it exceeds 1023 du become WINDOW, unless
they are INCAPABLE, and no other placement does; then, as where the head leaves service and its delay becomes unknown, the
WINDOW placements are retried in ascending head order, each with those of its carrier that stay or are back before it, and
return where the spread is at most 1023 du (R39, R40). A report that changes the capability to "no" makes the WIDE
placements of its head INCAPABLE; one that changes it to "yes" takes that from them, to WINDOW where the spread is too
wide (R38). A disabled head's placements are not EXCLUDED, and the others are retried (R90). Each change is handed on:
CARRIER_EXCLUDED is ACTIVE with the reason, or dropped by a full log, or not ACTIVE on a return; a placement that took
part in the division leaves it, with grant 0 and step 31; a head on which one enters or leaves it is recomputed, and the
carrier's orphan flag is evaluated (R31, R42), as every flag is where the head enters or leaves service; a flag that
becomes yes raises CARRIER_ORPHANED and one that becomes no clears it (R22, R23). Placements of other heads whose reason
stays do not change. That a request is one step is log entry 1, that a report tells its moment log entry 3. -/
def Obligations.ExclusionsFollowDelaysAndCapabilities : Prop :=
  ∀ (s t : State) (h : Head) (i : Instr) (m : Nat), s.mode ≠ .reset → s.lanesAgree → s.placementsInOrder → s.log.sound →
    exec i s = .next t →
    let after := fun p : Placement => (t.placement p.head p.carrier).getD p
    let apart := delaysApart t.heads s.placements
    let free := fun p : Placement => p.exclusion = .none
    let stays := fun p : Placement => free p ∧ (p.head = h → t.heads[h].delay ≠ none → ¬ apart p free)
    let retried := fun p : Placement =>
      (p.exclusion = .incapable → (after p).exclusion = .incapable) ∧
      (stays p → (after p).exclusion = .none) ∧
      (p.exclusion ≠ .incapable → ¬ stays p →
        (apart p (fun r => stays r ∨ (r.head < p.head ∧ (after r).exclusion = .none)) → (after p).exclusion = .window) ∧
        (¬ apart p (fun r => stays r ∨ (r.head < p.head ∧ (after r).exclusion = .none)) → (after p).exclusion = .none))
    let handed := fun p : Placement =>
      let q := after p
      let about : Subject := .carrierHead p.carrier p.head
      (t.placement p.head p.carrier).isSome = true ∧
      (q.exclusion = p.exclusion → p.head ≠ h → q = p) ∧
      (q.exclusion ≠ p.exclusion →
        (q.exclusion = .none → (p.head ≠ h → q = { p with exclusion := .none }) ∧ t.log.quiet .carrierExcluded about) ∧
        (q.exclusion ≠ .none → s.log.raised t.log .carrierExcluded about s.timing.frame
          (if q.exclusion = .incapable then 1 else 2)) ∧
        (s.eligible p = true → q =
          { p with exclusion := q.exclusion, outcome := .none, grant := 0, step := 31, basis := none, inUse := 31 }) ∧
        (s.eligible p ≠ t.eligible q → t.power[p.head].running.isSome = true ∧
          (s.power[p.head].running.isSome = true → t.power[p.head].again = true)) ∧
        t.carriers[p.carrier].orphan = t.orphanCondition p.carrier)
    ((∃ f trip, i = .markerReturn h f trip) → t.heads[h].delay ≠ s.heads[h].delay →
      s.orphansReported t ∧ (s.inService h = false → ∀ c : Carrier, t.carriers[c].orphan = t.orphanCondition c) ∧
      ∀ p ∈ s.placements, retried p ∧ handed p) ∧
    (i = .lockLost h ∨ i = .blipLimitReached h m ∨ i = .reportLostLimit h m ∨ i = .errorWindowEnd h ∨
        (s.ready Port.mp 1 = true ∧ ∃ b, i = .testStart Port.mp (byteOf h) b) →
      s.inService h = true → t.inService h = false →
      s.orphansReported t ∧ (∀ c : Carrier, t.carriers[c].orphan = t.orphanCondition c) ∧
      ∀ p ∈ s.placements, retried p ∧ handed p) ∧
    (i = .headDisable Port.mp (byteOf h) → s.ready Port.mp 1 = true → s.heads[h].state ≠ .off → s.spreadWithinLimit →
      s.incapableAreWide →
      s.orphansReported t ∧ (s.inService h = true → ∀ c : Carrier, t.carriers[c].orphan = t.orphanCondition c) ∧
      ∀ p ∈ s.placements, (p.head = h → (after p).exclusion = .none) ∧ (p.head ≠ h → retried p) ∧ handed p) ∧
    (∀ r : HeadReport, i = .headReport h m r true →
      s.heads[h].state = .measure ∨ s.heads[h].state = .up ∨ s.heads[h].state = .degraded ∨
        (s.heads[h].state = .seek ∧ s.heads[h].framerLock = true) →
      s.orphansReported t ∧ ∀ p ∈ s.placements, handed p ∧
        let judged := p.head = h ∧ s.carriers[p.carrier].width = .wide ∧
          s.heads[h].capability ≠ (if r.wide then .yes else .no)
        (¬ judged → (after p).exclusion = p.exclusion) ∧
        (judged → r.wide = false → (after p).exclusion = .incapable) ∧
        (judged → r.wide = true → p.exclusion ≠ .incapable → (after p).exclusion = p.exclusion) ∧
        (judged → r.wide = true → p.exclusion = .incapable →
          (apart p free → (after p).exclusion = .window) ∧ (¬ apart p free → (after p).exclusion = .none)))

/-- The report watch: a timer that passes the maximum raises REPORT_LATE with the maximum, and one that reaches the lost
limit takes MEASURE back to SEEK (R103, R104). A lost limit that is not above the maximum takes the head out before
REPORT_LATE can be raised, so that the passing then raises nothing (R104; of a limit equal to it, log entry 28). That an
interval passes the maximum once is log entry 28; that the limits are events, which short of them only move the time, log
entry 2; that MEASURE is left with locked count 0, report seen no and the report timer stopped log entry 12. -/
def Obligations.TheReportWatchActsAtItsLimits : Prop :=
  ∀ (s : State) (h : Head) (m start : Nat), s.mode ≠ .reset → s.heads[h].reportTimer = some start →
    let u := s.atMoment m
    let x := s.heads[h]
    (x.settings.reportMax < u.reportMs start → x.settings.reportMax < x.settings.lostLimit → x.latePassed = false →
      exec (.reportLate h m) s =
        .next { u.raise .reportLate (.head h) x.settings.reportMax with
          heads := s.heads.set h
            { x with latePassed := true, held := if .reportLate ∈ x.held then x.held else x.held ++ [.reportLate] } }) ∧
    (u.reportMs start ≤ x.settings.reportMax ∨ x.settings.lostLimit ≤ x.settings.reportMax ∨ x.latePassed = true →
      exec (.reportLate h m) s = .next u) ∧
    (x.settings.lostLimit ≤ u.reportMs start → x.state = .measure → exec (.reportLostLimit h m) s =
      .next { u with
        heads := s.heads.set h { x with state := .seek, markers := none, lockedCount := 0, reportSeen := false, attempt := 0
                                        reportTimer := none } }) ∧
    (u.reportMs start < x.settings.lostLimit → exec (.reportLostLimit h m) s = .next u)

/-- A measurement: an attempt that is due begins with one marker sent; a return is recorded, and the last of four is
judged. An attempt fails with reason 1 where their spread is beyond 2, 2 where the latency is unknown or above their mean,
3 where half of the difference is beyond 4095, and with 4 where a marker is lost: DELAY_UNSTABLE is raised with it, a
re-measure reloads its countdown, and a third failure in MEASURE fails the head. Else half of the difference is the delay:
MEASURE enters UP with a buffer of 32 zero groups and a closed gate, its service mark broken and HEAD_LINK_LOST and
HEAD_FAILED cleared, and a re-measure keeps the held delay within its tolerance and installs the new one beyond it with
DELAY_SHIFT (R96, R97, R98, R100 to R102, R109). That the attempt number stays in FAILED is log entry 22, that a return
names its marker by its frame 32, that the lower reason goes first 36. -/
def Obligations.DelayMeasurementsRunTheirCourse : Prop :=
  ∀ (s : State) (h : Head) (rest : List Due), s.mode ≠ .reset →
    let x := s.heads[h]
    let first : Marker := { sentFrame := s.timing.frame, roundTrip := none }
    let fails := fun (i : Instr) (reason : Nat) (due : List Due) =>
      let u := s.raise .delayUnstable (.head h) reason
      (x.state ≠ .measure → exec i s =
        .next { u with heads := s.heads.set h { x with markers := none, remeasureCount := x.settings.remeasure }
                       due := due }) ∧
      (x.state = .measure → x.attempt < 3 → exec i s =
        .next { u with heads := s.heads.set h { x with markers := none }, due := due }) ∧
      (x.state = .measure → 3 ≤ x.attempt → exec i s =
        .next { u.raise .headFailed (.head h) 2 with
          due := due
          heads := s.heads.set h
            { x with markers := none, state := .failed, holdOffCount := 0, reportTimer := none
                     held := if .headFailed ∈ x.held then x.held else x.held ++ [.headFailed] } })
    (s.due = .attemptBegin h :: rest → x.state = .measure → x.markers = none →
      exec (.measureAttemptBegin h) s =
        .next { s with heads := s.heads.set h { x with attempt := x.attempt + 1, markers := some [first] }, due := rest }) ∧
    (s.due = .remeasureBegin h :: rest → s.inService h = true → x.markers = none → x.remeasureCount = 0 →
      0 < x.settings.remeasure →
      exec (.remeasureCountdownEnd h) s =
        .next { s with heads := s.heads.set h { x with markers := some [first] }, due := rest }) ∧
    (s.due = .markerLost h :: rest → x.markers.isSome = true → fails (.markerLost h) 4 rest) ∧
    (∀ (before : List Marker) (f : Frame) (trip : Nat), x.markers = some (before ++ [{ sentFrame := f, roundTrip := none }]) →
      (∀ b ∈ before, b.roundTrip.isSome = true) → .markerLost h ∉ s.due →
      let trips := before.filterMap (·.roundTrip) ++ [min 65535 trip]
      let marked := before ++ [{ sentFrame := f, roundTrip := some (min 65535 trip) }]
      (before.length ≠ 3 → exec (.markerReturn h f trip) s =
        .next { s with heads := s.heads.set h { x with markers := some marked } }) ∧
      (before.length = 3 →
        let apart := ∃ a ∈ trips, ∃ b ∈ trips, b + 2 < a
        (apart → fails (.markerReturn h f trip) 1 s.due) ∧
        (¬ apart → (∀ latency, x.latency = some latency → trips.sum / 4 < latency) →
          fails (.markerReturn h f trip) 2 s.due) ∧
        (∀ latency, ¬ apart → x.latency = some latency → latency ≤ trips.sum / 4 →
          4095 < (trips.sum / 4 - latency) / 2 → fails (.markerReturn h f trip) 3 s.due)) ∧
      (∀ latency d, before.length = 3 → (∀ a ∈ trips, ∀ b ∈ trips, a ≤ b + 2) → x.latency = some latency →
        latency ≤ trips.sum / 4 → d = (trips.sum / 4 - latency) / 2 → d ≤ 4095 →
        (x.state = .measure →
          ∃ t, exec (.markerReturn h f trip) s = .next t ∧
            t = { s with heads := t.heads, uplinks := t.uplinks, carriers := t.carriers, placements := t.placements
                         power := t.power, load := t.load, log := t.log, ports := t.ports } ∧
            t.heads[h] =
              { x with state := .up, delay := some d, fibre := some (4 * d * 100 / (470 + 5 * x.settings.fibreCode))
                       attempt := 0, markers := none, degradedCount := 0, errorFrames := 0, errors := 0
                       remeasureCount := x.settings.remeasure, held := t.heads[h].held } ∧
            .headLinkLost ∉ t.heads[h].held ∧ .headFailed ∉ t.heads[h].held ∧
            t.uplinks[h] = { s.uplinks[h] with running := true, slipGate := 2
                                               groups := List.replicate 32 (Vector.replicate 8 { i := 0, q := 0 }) } ∧
            (s.log.sound → ∀ k ∈ [AlarmKind.headLinkLost, .headFailed],
              k ∈ x.held ∨ s.log.quiet k (.head h) → t.log.quiet k (.head h)) ∧
            t.load = { s.load with heads := s.load.heads.set h { s.load.heads[h] with whole := false } } ∧
            (∀ g, g ≠ h → t.heads[g] = s.heads[g] ∧ t.uplinks[g] = s.uplinks[g]) ∧
            t.power[h].running.isSome = true) ∧
        (∀ held, s.inService h = true → x.delay = some held → held ≤ d + x.settings.tolerance →
          d ≤ held + x.settings.tolerance →
          exec (.markerReturn h f trip) s =
            .next { s with
              heads := s.heads.set h { x with markers := none, remeasureCount := x.settings.remeasure } }) ∧
        (∀ held, s.inService h = true → x.delay = some held → d + x.settings.tolerance < held ∨ held + x.settings.tolerance < d →
          ∃ t, exec (.markerReturn h f trip) s = .next t ∧
            t = { s with heads := t.heads, carriers := t.carriers, placements := t.placements, power := t.power
                         log := t.log, ports := t.ports } ∧
            t.heads[h] =
              { x with markers := none, remeasureCount := x.settings.remeasure, delay := some d
                       fibre := some (4 * d * 100 / (470 + 5 * x.settings.fibreCode)) } ∧
            (∀ g, g ≠ h → t.heads[g] = s.heads[g]) ∧
            (s.log.sound → t.log.noted .delayShift (.head h) s.timing.frame d) ∧
            (s.placements = [] → t.log = (s.raise .delayShift (.head h) d).log))))

/-- A blip window that is due ends from 0, and with 5 blips or more raises LINK_BLIPS with their number. An error window
that is due judges its count: UP degrades at the threshold and raises HEAD_DEGRADED with the count, DEGRADED recovers
under the clear threshold and fails at the fail count, with HEAD_DEGRADED cleared and HEAD_FAILED raised with detail 1 in the
alarm log. A hold-off that is due takes FAILED to SEEK, and a head that has
done its locking frames with a report seen enters MEASURE, its report timer at 0 as of the moment at which its conditions
came to hold (R92, R103, R106 to R109). That the attempt number stays until MEASURE begins it at 0 is log entry 22, that
these ends are steps of their own log entry 6. -/
def Obligations.HeadWindowsEndWhenDue : Prop :=
  ∀ (s : State) (h : Head) (rest : List Due), s.mode ≠ .reset →
    let x := s.heads[h]
    let goes := fun y : HeadLink => Host.Outcome.next (φ := Fault) (ρ := Refusal) { s with heads := s.heads.set h y, due := rest }
    let after := fun (u : State) (y : HeadLink) =>
      Host.Outcome.next (φ := Fault) (ρ := Refusal) { u with heads := s.heads.set h y, due := rest }
    (s.due = .blipWindow h :: rest → 99 ≤ x.blipFrames → x.state ≠ .off →
      (x.blips < 5 → exec (.blipWindowEnd h) s = goes { x with blipFrames := 0, blips := 0 }) ∧
      (5 ≤ x.blips → exec (.blipWindowEnd h) s =
        after (s.raise .linkBlips (.head h) x.blips) { x with blipFrames := 0, blips := 0 })) ∧
    (s.due = .errorWindow h :: rest → 99 ≤ x.errorFrames →
      let y := { x with errorFrames := 0, errors := 0 }
      (x.state = .up → x.errors < x.settings.degradeThreshold → exec (.errorWindowEnd h) s = goes y) ∧
      (x.state = .up → x.settings.degradeThreshold ≤ x.errors →
        exec (.errorWindowEnd h) s = after (s.raise .headDegraded (.head h) x.errors)
          { y with state := .degraded, degradedCount := 0
                   held := if .headDegraded ∈ x.held then x.held else x.held ++ [.headDegraded] }) ∧
      (x.state = .degraded → x.errors < x.settings.clearThreshold →
        exec (.errorWindowEnd h) s = after (if .headDegraded ∈ x.held then s.clear .headDegraded (.head h) else s)
          { y with state := .up, degradedCount := 0, held := x.held.filter fun k => k ≠ .headDegraded }) ∧
      (x.state = .degraded → x.settings.clearThreshold ≤ x.errors →
        let n := min 255 (x.degradedCount + 1)
        (n < x.settings.failCount → exec (.errorWindowEnd h) s = goes { y with degradedCount := n }) ∧
        (x.settings.failCount ≤ n → ∃ t, exec (.errorWindowEnd h) s = .next t ∧ t.heads[h].state = .failed ∧
          t.heads[h].delay = none ∧ t.heads[h].holdOffCount = 0 ∧ .headFailed ∈ t.heads[h].held ∧
          .headDegraded ∉ t.heads[h].held ∧ t.uplinks[h].running = false ∧ t.due = rest ∧
          (s.log.sound → s.log.raised t.log .headFailed (.head h) s.timing.frame 1 ∧
            (.headDegraded ∈ x.held → t.log.quiet .headDegraded (.head h))) ∧
          ∀ g, g ≠ h → t.heads[g] = s.heads[g] ∧ t.uplinks[g] = s.uplinks[g]))) ∧
    (s.due = .holdOff h :: rest → x.state = .failed → x.settings.holdOff ≤ x.holdOffCount →
      exec (.holdOffExpiry h) s = goes { x with state := .seek, lockedCount := 0, reportSeen := false }) ∧
    (∀ m, s.due = .seekLock h m :: rest → x.state = .seek → 2 ^ (x.settings.hysteresis + 1) ≤ x.lockedCount →
      x.reportSeen = true →
      exec (.seekLockComplete h) s =
        goes { x with state := .measure, attempt := 0, markers := none, reportTimer := some m, latePassed := false
                      watched := false })
end

