-- ==== Sys2Proof/Laws/State.lean ====
section
/-!
SUPPORT. What each named update of the state leaves in each field: one lemma for each field of each update.
-/

namespace Sys2Proof.Machine

variable (s : State)

@[simp] theorem State.setMode_mode (x : Mode) : (s.setMode x).mode = x := rfl
@[simp] theorem State.setMode_timing (x : Mode) : (s.setMode x).timing = s.timing := rfl
@[simp] theorem State.setMode_carriers (x : Mode) : (s.setMode x).carriers = s.carriers := rfl
@[simp] theorem State.setMode_sectorMap (x : Mode) : (s.setMode x).sectorMap = s.sectorMap := rfl
@[simp] theorem State.setMode_lanes (x : Mode) : (s.setMode x).lanes = s.lanes := rfl
@[simp] theorem State.setMode_placements (x : Mode) : (s.setMode x).placements = s.placements := rfl
@[simp] theorem State.setMode_power (x : Mode) : (s.setMode x).power = s.power := rfl
@[simp] theorem State.setMode_weights (x : Mode) : (s.setMode x).weights = s.weights := rfl
@[simp] theorem State.setMode_uplinks (x : Mode) : (s.setMode x).uplinks = s.uplinks := rfl
@[simp] theorem State.setMode_monitors (x : Mode) : (s.setMode x).monitors = s.monitors := rfl
@[simp] theorem State.setMode_satFrames (x : Mode) : (s.setMode x).satFrames = s.satFrames := rfl
@[simp] theorem State.setMode_heads (x : Mode) : (s.setMode x).heads = s.heads := rfl
@[simp] theorem State.setMode_load (x : Mode) : (s.setMode x).load = s.load := rfl
@[simp] theorem State.setMode_plans (x : Mode) : (s.setMode x).plans = s.plans := rfl
@[simp] theorem State.setMode_log (x : Mode) : (s.setMode x).log = s.log := rfl
@[simp] theorem State.setMode_inboxes (x : Mode) : (s.setMode x).inboxes = s.inboxes := rfl
@[simp] theorem State.setMode_ports (x : Mode) : (s.setMode x).ports = s.ports := rfl
@[simp] theorem State.setMode_arbiter (x : Mode) : (s.setMode x).arbiter = s.arbiter := rfl
@[simp] theorem State.setMode_links (x : Mode) : (s.setMode x).links = s.links := rfl
@[simp] theorem State.setMode_wires (x : Mode) : (s.setMode x).wires = s.wires := rfl
@[simp] theorem State.setMode_due (x : Mode) : (s.setMode x).due = s.due := rfl
@[simp] theorem State.setMode_pending (x : Mode) : (s.setMode x).pending = s.pending := rfl

@[simp] theorem State.setTiming_mode (x : Timing) : (s.setTiming x).mode = s.mode := rfl
@[simp] theorem State.setTiming_timing (x : Timing) : (s.setTiming x).timing = x := rfl
@[simp] theorem State.setTiming_carriers (x : Timing) : (s.setTiming x).carriers = s.carriers := rfl
@[simp] theorem State.setTiming_sectorMap (x : Timing) : (s.setTiming x).sectorMap = s.sectorMap := rfl
@[simp] theorem State.setTiming_lanes (x : Timing) : (s.setTiming x).lanes = s.lanes := rfl
@[simp] theorem State.setTiming_placements (x : Timing) : (s.setTiming x).placements = s.placements := rfl
@[simp] theorem State.setTiming_power (x : Timing) : (s.setTiming x).power = s.power := rfl
@[simp] theorem State.setTiming_weights (x : Timing) : (s.setTiming x).weights = s.weights := rfl
@[simp] theorem State.setTiming_uplinks (x : Timing) : (s.setTiming x).uplinks = s.uplinks := rfl
@[simp] theorem State.setTiming_monitors (x : Timing) : (s.setTiming x).monitors = s.monitors := rfl
@[simp] theorem State.setTiming_satFrames (x : Timing) : (s.setTiming x).satFrames = s.satFrames := rfl
@[simp] theorem State.setTiming_heads (x : Timing) : (s.setTiming x).heads = s.heads := rfl
@[simp] theorem State.setTiming_load (x : Timing) : (s.setTiming x).load = s.load := rfl
@[simp] theorem State.setTiming_plans (x : Timing) : (s.setTiming x).plans = s.plans := rfl
@[simp] theorem State.setTiming_log (x : Timing) : (s.setTiming x).log = s.log := rfl
@[simp] theorem State.setTiming_inboxes (x : Timing) : (s.setTiming x).inboxes = s.inboxes := rfl
@[simp] theorem State.setTiming_ports (x : Timing) : (s.setTiming x).ports = s.ports := rfl
@[simp] theorem State.setTiming_arbiter (x : Timing) : (s.setTiming x).arbiter = s.arbiter := rfl
@[simp] theorem State.setTiming_links (x : Timing) : (s.setTiming x).links = s.links := rfl
@[simp] theorem State.setTiming_wires (x : Timing) : (s.setTiming x).wires = s.wires := rfl
@[simp] theorem State.setTiming_due (x : Timing) : (s.setTiming x).due = s.due := rfl
@[simp] theorem State.setTiming_pending (x : Timing) : (s.setTiming x).pending = s.pending := rfl

@[simp] theorem State.setDue_mode (x : List Due) : (s.setDue x).mode = s.mode := rfl
@[simp] theorem State.setDue_timing (x : List Due) : (s.setDue x).timing = s.timing := rfl
@[simp] theorem State.setDue_carriers (x : List Due) : (s.setDue x).carriers = s.carriers := rfl
@[simp] theorem State.setDue_sectorMap (x : List Due) : (s.setDue x).sectorMap = s.sectorMap := rfl
@[simp] theorem State.setDue_lanes (x : List Due) : (s.setDue x).lanes = s.lanes := rfl
@[simp] theorem State.setDue_placements (x : List Due) : (s.setDue x).placements = s.placements := rfl
@[simp] theorem State.setDue_power (x : List Due) : (s.setDue x).power = s.power := rfl
@[simp] theorem State.setDue_weights (x : List Due) : (s.setDue x).weights = s.weights := rfl
@[simp] theorem State.setDue_uplinks (x : List Due) : (s.setDue x).uplinks = s.uplinks := rfl
@[simp] theorem State.setDue_monitors (x : List Due) : (s.setDue x).monitors = s.monitors := rfl
@[simp] theorem State.setDue_satFrames (x : List Due) : (s.setDue x).satFrames = s.satFrames := rfl
@[simp] theorem State.setDue_heads (x : List Due) : (s.setDue x).heads = s.heads := rfl
@[simp] theorem State.setDue_load (x : List Due) : (s.setDue x).load = s.load := rfl
@[simp] theorem State.setDue_plans (x : List Due) : (s.setDue x).plans = s.plans := rfl
@[simp] theorem State.setDue_log (x : List Due) : (s.setDue x).log = s.log := rfl
@[simp] theorem State.setDue_inboxes (x : List Due) : (s.setDue x).inboxes = s.inboxes := rfl
@[simp] theorem State.setDue_ports (x : List Due) : (s.setDue x).ports = s.ports := rfl
@[simp] theorem State.setDue_arbiter (x : List Due) : (s.setDue x).arbiter = s.arbiter := rfl
@[simp] theorem State.setDue_links (x : List Due) : (s.setDue x).links = s.links := rfl
@[simp] theorem State.setDue_wires (x : List Due) : (s.setDue x).wires = s.wires := rfl
@[simp] theorem State.setDue_due (x : List Due) : (s.setDue x).due = x := rfl
@[simp] theorem State.setDue_pending (x : List Due) : (s.setDue x).pending = s.pending := rfl

@[simp] theorem State.setWires_mode (x : Wires) : (s.setWires x).mode = s.mode := rfl
@[simp] theorem State.setWires_timing (x : Wires) : (s.setWires x).timing = s.timing := rfl
@[simp] theorem State.setWires_carriers (x : Wires) : (s.setWires x).carriers = s.carriers := rfl
@[simp] theorem State.setWires_sectorMap (x : Wires) : (s.setWires x).sectorMap = s.sectorMap := rfl
@[simp] theorem State.setWires_lanes (x : Wires) : (s.setWires x).lanes = s.lanes := rfl
@[simp] theorem State.setWires_placements (x : Wires) : (s.setWires x).placements = s.placements := rfl
@[simp] theorem State.setWires_power (x : Wires) : (s.setWires x).power = s.power := rfl
@[simp] theorem State.setWires_weights (x : Wires) : (s.setWires x).weights = s.weights := rfl
@[simp] theorem State.setWires_uplinks (x : Wires) : (s.setWires x).uplinks = s.uplinks := rfl
@[simp] theorem State.setWires_monitors (x : Wires) : (s.setWires x).monitors = s.monitors := rfl
@[simp] theorem State.setWires_satFrames (x : Wires) : (s.setWires x).satFrames = s.satFrames := rfl
@[simp] theorem State.setWires_heads (x : Wires) : (s.setWires x).heads = s.heads := rfl
@[simp] theorem State.setWires_load (x : Wires) : (s.setWires x).load = s.load := rfl
@[simp] theorem State.setWires_plans (x : Wires) : (s.setWires x).plans = s.plans := rfl
@[simp] theorem State.setWires_log (x : Wires) : (s.setWires x).log = s.log := rfl
@[simp] theorem State.setWires_inboxes (x : Wires) : (s.setWires x).inboxes = s.inboxes := rfl
@[simp] theorem State.setWires_ports (x : Wires) : (s.setWires x).ports = s.ports := rfl
@[simp] theorem State.setWires_arbiter (x : Wires) : (s.setWires x).arbiter = s.arbiter := rfl
@[simp] theorem State.setWires_links (x : Wires) : (s.setWires x).links = s.links := rfl
@[simp] theorem State.setWires_wires (x : Wires) : (s.setWires x).wires = x := rfl
@[simp] theorem State.setWires_due (x : Wires) : (s.setWires x).due = s.due := rfl
@[simp] theorem State.setWires_pending (x : Wires) : (s.setWires x).pending = s.pending := rfl

@[simp] theorem State.setPlacements_mode (x : List Placement) : (s.setPlacements x).mode = s.mode := rfl
@[simp] theorem State.setPlacements_timing (x : List Placement) : (s.setPlacements x).timing = s.timing := rfl
@[simp] theorem State.setPlacements_carriers (x : List Placement) : (s.setPlacements x).carriers = s.carriers := rfl
@[simp] theorem State.setPlacements_sectorMap (x : List Placement) : (s.setPlacements x).sectorMap = s.sectorMap := rfl
@[simp] theorem State.setPlacements_lanes (x : List Placement) : (s.setPlacements x).lanes = s.lanes := rfl
@[simp] theorem State.setPlacements_placements (x : List Placement) : (s.setPlacements x).placements = x := rfl
@[simp] theorem State.setPlacements_power (x : List Placement) : (s.setPlacements x).power = s.power := rfl
@[simp] theorem State.setPlacements_weights (x : List Placement) : (s.setPlacements x).weights = s.weights := rfl
@[simp] theorem State.setPlacements_uplinks (x : List Placement) : (s.setPlacements x).uplinks = s.uplinks := rfl
@[simp] theorem State.setPlacements_monitors (x : List Placement) : (s.setPlacements x).monitors = s.monitors := rfl
@[simp] theorem State.setPlacements_satFrames (x : List Placement) : (s.setPlacements x).satFrames = s.satFrames := rfl
@[simp] theorem State.setPlacements_heads (x : List Placement) : (s.setPlacements x).heads = s.heads := rfl
@[simp] theorem State.setPlacements_load (x : List Placement) : (s.setPlacements x).load = s.load := rfl
@[simp] theorem State.setPlacements_plans (x : List Placement) : (s.setPlacements x).plans = s.plans := rfl
@[simp] theorem State.setPlacements_log (x : List Placement) : (s.setPlacements x).log = s.log := rfl
@[simp] theorem State.setPlacements_inboxes (x : List Placement) : (s.setPlacements x).inboxes = s.inboxes := rfl
@[simp] theorem State.setPlacements_ports (x : List Placement) : (s.setPlacements x).ports = s.ports := rfl
@[simp] theorem State.setPlacements_arbiter (x : List Placement) : (s.setPlacements x).arbiter = s.arbiter := rfl
@[simp] theorem State.setPlacements_links (x : List Placement) : (s.setPlacements x).links = s.links := rfl
@[simp] theorem State.setPlacements_wires (x : List Placement) : (s.setPlacements x).wires = s.wires := rfl
@[simp] theorem State.setPlacements_due (x : List Placement) : (s.setPlacements x).due = s.due := rfl
@[simp] theorem State.setPlacements_pending (x : List Placement) : (s.setPlacements x).pending = s.pending := rfl

@[simp] theorem State.setSectorMap_mode (x : SectorMap) : (s.setSectorMap x).mode = s.mode := rfl
@[simp] theorem State.setSectorMap_timing (x : SectorMap) : (s.setSectorMap x).timing = s.timing := rfl
@[simp] theorem State.setSectorMap_carriers (x : SectorMap) : (s.setSectorMap x).carriers = s.carriers := rfl
@[simp] theorem State.setSectorMap_sectorMap (x : SectorMap) : (s.setSectorMap x).sectorMap = x := rfl
@[simp] theorem State.setSectorMap_lanes (x : SectorMap) : (s.setSectorMap x).lanes = s.lanes := rfl
@[simp] theorem State.setSectorMap_placements (x : SectorMap) : (s.setSectorMap x).placements = s.placements := rfl
@[simp] theorem State.setSectorMap_power (x : SectorMap) : (s.setSectorMap x).power = s.power := rfl
@[simp] theorem State.setSectorMap_weights (x : SectorMap) : (s.setSectorMap x).weights = s.weights := rfl
@[simp] theorem State.setSectorMap_uplinks (x : SectorMap) : (s.setSectorMap x).uplinks = s.uplinks := rfl
@[simp] theorem State.setSectorMap_monitors (x : SectorMap) : (s.setSectorMap x).monitors = s.monitors := rfl
@[simp] theorem State.setSectorMap_satFrames (x : SectorMap) : (s.setSectorMap x).satFrames = s.satFrames := rfl
@[simp] theorem State.setSectorMap_heads (x : SectorMap) : (s.setSectorMap x).heads = s.heads := rfl
@[simp] theorem State.setSectorMap_load (x : SectorMap) : (s.setSectorMap x).load = s.load := rfl
@[simp] theorem State.setSectorMap_plans (x : SectorMap) : (s.setSectorMap x).plans = s.plans := rfl
@[simp] theorem State.setSectorMap_log (x : SectorMap) : (s.setSectorMap x).log = s.log := rfl
@[simp] theorem State.setSectorMap_inboxes (x : SectorMap) : (s.setSectorMap x).inboxes = s.inboxes := rfl
@[simp] theorem State.setSectorMap_ports (x : SectorMap) : (s.setSectorMap x).ports = s.ports := rfl
@[simp] theorem State.setSectorMap_arbiter (x : SectorMap) : (s.setSectorMap x).arbiter = s.arbiter := rfl
@[simp] theorem State.setSectorMap_links (x : SectorMap) : (s.setSectorMap x).links = s.links := rfl
@[simp] theorem State.setSectorMap_wires (x : SectorMap) : (s.setSectorMap x).wires = s.wires := rfl
@[simp] theorem State.setSectorMap_due (x : SectorMap) : (s.setSectorMap x).due = s.due := rfl
@[simp] theorem State.setSectorMap_pending (x : SectorMap) : (s.setSectorMap x).pending = s.pending := rfl

@[simp] theorem State.setPlans_mode (x : PlanController) : (s.setPlans x).mode = s.mode := rfl
@[simp] theorem State.setPlans_timing (x : PlanController) : (s.setPlans x).timing = s.timing := rfl
@[simp] theorem State.setPlans_carriers (x : PlanController) : (s.setPlans x).carriers = s.carriers := rfl
@[simp] theorem State.setPlans_sectorMap (x : PlanController) : (s.setPlans x).sectorMap = s.sectorMap := rfl
@[simp] theorem State.setPlans_lanes (x : PlanController) : (s.setPlans x).lanes = s.lanes := rfl
@[simp] theorem State.setPlans_placements (x : PlanController) : (s.setPlans x).placements = s.placements := rfl
@[simp] theorem State.setPlans_power (x : PlanController) : (s.setPlans x).power = s.power := rfl
@[simp] theorem State.setPlans_weights (x : PlanController) : (s.setPlans x).weights = s.weights := rfl
@[simp] theorem State.setPlans_uplinks (x : PlanController) : (s.setPlans x).uplinks = s.uplinks := rfl
@[simp] theorem State.setPlans_monitors (x : PlanController) : (s.setPlans x).monitors = s.monitors := rfl
@[simp] theorem State.setPlans_satFrames (x : PlanController) : (s.setPlans x).satFrames = s.satFrames := rfl
@[simp] theorem State.setPlans_heads (x : PlanController) : (s.setPlans x).heads = s.heads := rfl
@[simp] theorem State.setPlans_load (x : PlanController) : (s.setPlans x).load = s.load := rfl
@[simp] theorem State.setPlans_plans (x : PlanController) : (s.setPlans x).plans = x := rfl
@[simp] theorem State.setPlans_log (x : PlanController) : (s.setPlans x).log = s.log := rfl
@[simp] theorem State.setPlans_inboxes (x : PlanController) : (s.setPlans x).inboxes = s.inboxes := rfl
@[simp] theorem State.setPlans_ports (x : PlanController) : (s.setPlans x).ports = s.ports := rfl
@[simp] theorem State.setPlans_arbiter (x : PlanController) : (s.setPlans x).arbiter = s.arbiter := rfl
@[simp] theorem State.setPlans_links (x : PlanController) : (s.setPlans x).links = s.links := rfl
@[simp] theorem State.setPlans_wires (x : PlanController) : (s.setPlans x).wires = s.wires := rfl
@[simp] theorem State.setPlans_due (x : PlanController) : (s.setPlans x).due = s.due := rfl
@[simp] theorem State.setPlans_pending (x : PlanController) : (s.setPlans x).pending = s.pending := rfl

@[simp] theorem State.setLoad_mode (x : LoadMonitor) : (s.setLoad x).mode = s.mode := rfl
@[simp] theorem State.setLoad_timing (x : LoadMonitor) : (s.setLoad x).timing = s.timing := rfl
@[simp] theorem State.setLoad_carriers (x : LoadMonitor) : (s.setLoad x).carriers = s.carriers := rfl
@[simp] theorem State.setLoad_sectorMap (x : LoadMonitor) : (s.setLoad x).sectorMap = s.sectorMap := rfl
@[simp] theorem State.setLoad_lanes (x : LoadMonitor) : (s.setLoad x).lanes = s.lanes := rfl
@[simp] theorem State.setLoad_placements (x : LoadMonitor) : (s.setLoad x).placements = s.placements := rfl
@[simp] theorem State.setLoad_power (x : LoadMonitor) : (s.setLoad x).power = s.power := rfl
@[simp] theorem State.setLoad_weights (x : LoadMonitor) : (s.setLoad x).weights = s.weights := rfl
@[simp] theorem State.setLoad_uplinks (x : LoadMonitor) : (s.setLoad x).uplinks = s.uplinks := rfl
@[simp] theorem State.setLoad_monitors (x : LoadMonitor) : (s.setLoad x).monitors = s.monitors := rfl
@[simp] theorem State.setLoad_satFrames (x : LoadMonitor) : (s.setLoad x).satFrames = s.satFrames := rfl
@[simp] theorem State.setLoad_heads (x : LoadMonitor) : (s.setLoad x).heads = s.heads := rfl
@[simp] theorem State.setLoad_load (x : LoadMonitor) : (s.setLoad x).load = x := rfl
@[simp] theorem State.setLoad_plans (x : LoadMonitor) : (s.setLoad x).plans = s.plans := rfl
@[simp] theorem State.setLoad_log (x : LoadMonitor) : (s.setLoad x).log = s.log := rfl
@[simp] theorem State.setLoad_inboxes (x : LoadMonitor) : (s.setLoad x).inboxes = s.inboxes := rfl
@[simp] theorem State.setLoad_ports (x : LoadMonitor) : (s.setLoad x).ports = s.ports := rfl
@[simp] theorem State.setLoad_arbiter (x : LoadMonitor) : (s.setLoad x).arbiter = s.arbiter := rfl
@[simp] theorem State.setLoad_links (x : LoadMonitor) : (s.setLoad x).links = s.links := rfl
@[simp] theorem State.setLoad_wires (x : LoadMonitor) : (s.setLoad x).wires = s.wires := rfl
@[simp] theorem State.setLoad_due (x : LoadMonitor) : (s.setLoad x).due = s.due := rfl
@[simp] theorem State.setLoad_pending (x : LoadMonitor) : (s.setLoad x).pending = s.pending := rfl

@[simp] theorem State.setLog_mode (x : AlarmLog) : (s.setLog x).mode = s.mode := rfl
@[simp] theorem State.setLog_timing (x : AlarmLog) : (s.setLog x).timing = s.timing := rfl
@[simp] theorem State.setLog_carriers (x : AlarmLog) : (s.setLog x).carriers = s.carriers := rfl
@[simp] theorem State.setLog_sectorMap (x : AlarmLog) : (s.setLog x).sectorMap = s.sectorMap := rfl
@[simp] theorem State.setLog_lanes (x : AlarmLog) : (s.setLog x).lanes = s.lanes := rfl
@[simp] theorem State.setLog_placements (x : AlarmLog) : (s.setLog x).placements = s.placements := rfl
@[simp] theorem State.setLog_power (x : AlarmLog) : (s.setLog x).power = s.power := rfl
@[simp] theorem State.setLog_weights (x : AlarmLog) : (s.setLog x).weights = s.weights := rfl
@[simp] theorem State.setLog_uplinks (x : AlarmLog) : (s.setLog x).uplinks = s.uplinks := rfl
@[simp] theorem State.setLog_monitors (x : AlarmLog) : (s.setLog x).monitors = s.monitors := rfl
@[simp] theorem State.setLog_satFrames (x : AlarmLog) : (s.setLog x).satFrames = s.satFrames := rfl
@[simp] theorem State.setLog_heads (x : AlarmLog) : (s.setLog x).heads = s.heads := rfl
@[simp] theorem State.setLog_load (x : AlarmLog) : (s.setLog x).load = s.load := rfl
@[simp] theorem State.setLog_plans (x : AlarmLog) : (s.setLog x).plans = s.plans := rfl
@[simp] theorem State.setLog_log (x : AlarmLog) : (s.setLog x).log = x := rfl
@[simp] theorem State.setLog_inboxes (x : AlarmLog) : (s.setLog x).inboxes = s.inboxes := rfl
@[simp] theorem State.setLog_ports (x : AlarmLog) : (s.setLog x).ports = s.ports := rfl
@[simp] theorem State.setLog_arbiter (x : AlarmLog) : (s.setLog x).arbiter = s.arbiter := rfl
@[simp] theorem State.setLog_links (x : AlarmLog) : (s.setLog x).links = s.links := rfl
@[simp] theorem State.setLog_wires (x : AlarmLog) : (s.setLog x).wires = s.wires := rfl
@[simp] theorem State.setLog_due (x : AlarmLog) : (s.setLog x).due = s.due := rfl
@[simp] theorem State.setLog_pending (x : AlarmLog) : (s.setLog x).pending = s.pending := rfl

@[simp] theorem State.setArbiter_mode (x : Arbiter) : (s.setArbiter x).mode = s.mode := rfl
@[simp] theorem State.setArbiter_timing (x : Arbiter) : (s.setArbiter x).timing = s.timing := rfl
@[simp] theorem State.setArbiter_carriers (x : Arbiter) : (s.setArbiter x).carriers = s.carriers := rfl
@[simp] theorem State.setArbiter_sectorMap (x : Arbiter) : (s.setArbiter x).sectorMap = s.sectorMap := rfl
@[simp] theorem State.setArbiter_lanes (x : Arbiter) : (s.setArbiter x).lanes = s.lanes := rfl
@[simp] theorem State.setArbiter_placements (x : Arbiter) : (s.setArbiter x).placements = s.placements := rfl
@[simp] theorem State.setArbiter_power (x : Arbiter) : (s.setArbiter x).power = s.power := rfl
@[simp] theorem State.setArbiter_weights (x : Arbiter) : (s.setArbiter x).weights = s.weights := rfl
@[simp] theorem State.setArbiter_uplinks (x : Arbiter) : (s.setArbiter x).uplinks = s.uplinks := rfl
@[simp] theorem State.setArbiter_monitors (x : Arbiter) : (s.setArbiter x).monitors = s.monitors := rfl
@[simp] theorem State.setArbiter_satFrames (x : Arbiter) : (s.setArbiter x).satFrames = s.satFrames := rfl
@[simp] theorem State.setArbiter_heads (x : Arbiter) : (s.setArbiter x).heads = s.heads := rfl
@[simp] theorem State.setArbiter_load (x : Arbiter) : (s.setArbiter x).load = s.load := rfl
@[simp] theorem State.setArbiter_plans (x : Arbiter) : (s.setArbiter x).plans = s.plans := rfl
@[simp] theorem State.setArbiter_log (x : Arbiter) : (s.setArbiter x).log = s.log := rfl
@[simp] theorem State.setArbiter_inboxes (x : Arbiter) : (s.setArbiter x).inboxes = s.inboxes := rfl
@[simp] theorem State.setArbiter_ports (x : Arbiter) : (s.setArbiter x).ports = s.ports := rfl
@[simp] theorem State.setArbiter_arbiter (x : Arbiter) : (s.setArbiter x).arbiter = x := rfl
@[simp] theorem State.setArbiter_links (x : Arbiter) : (s.setArbiter x).links = s.links := rfl
@[simp] theorem State.setArbiter_wires (x : Arbiter) : (s.setArbiter x).wires = s.wires := rfl
@[simp] theorem State.setArbiter_due (x : Arbiter) : (s.setArbiter x).due = s.due := rfl
@[simp] theorem State.setArbiter_pending (x : Arbiter) : (s.setArbiter x).pending = s.pending := rfl

@[simp] theorem State.setSatFrames_mode (x : Nat) : (s.setSatFrames x).mode = s.mode := rfl
@[simp] theorem State.setSatFrames_timing (x : Nat) : (s.setSatFrames x).timing = s.timing := rfl
@[simp] theorem State.setSatFrames_carriers (x : Nat) : (s.setSatFrames x).carriers = s.carriers := rfl
@[simp] theorem State.setSatFrames_sectorMap (x : Nat) : (s.setSatFrames x).sectorMap = s.sectorMap := rfl
@[simp] theorem State.setSatFrames_lanes (x : Nat) : (s.setSatFrames x).lanes = s.lanes := rfl
@[simp] theorem State.setSatFrames_placements (x : Nat) : (s.setSatFrames x).placements = s.placements := rfl
@[simp] theorem State.setSatFrames_power (x : Nat) : (s.setSatFrames x).power = s.power := rfl
@[simp] theorem State.setSatFrames_weights (x : Nat) : (s.setSatFrames x).weights = s.weights := rfl
@[simp] theorem State.setSatFrames_uplinks (x : Nat) : (s.setSatFrames x).uplinks = s.uplinks := rfl
@[simp] theorem State.setSatFrames_monitors (x : Nat) : (s.setSatFrames x).monitors = s.monitors := rfl
@[simp] theorem State.setSatFrames_satFrames (x : Nat) : (s.setSatFrames x).satFrames = x := rfl
@[simp] theorem State.setSatFrames_heads (x : Nat) : (s.setSatFrames x).heads = s.heads := rfl
@[simp] theorem State.setSatFrames_load (x : Nat) : (s.setSatFrames x).load = s.load := rfl
@[simp] theorem State.setSatFrames_plans (x : Nat) : (s.setSatFrames x).plans = s.plans := rfl
@[simp] theorem State.setSatFrames_log (x : Nat) : (s.setSatFrames x).log = s.log := rfl
@[simp] theorem State.setSatFrames_inboxes (x : Nat) : (s.setSatFrames x).inboxes = s.inboxes := rfl
@[simp] theorem State.setSatFrames_ports (x : Nat) : (s.setSatFrames x).ports = s.ports := rfl
@[simp] theorem State.setSatFrames_arbiter (x : Nat) : (s.setSatFrames x).arbiter = s.arbiter := rfl
@[simp] theorem State.setSatFrames_links (x : Nat) : (s.setSatFrames x).links = s.links := rfl
@[simp] theorem State.setSatFrames_wires (x : Nat) : (s.setSatFrames x).wires = s.wires := rfl
@[simp] theorem State.setSatFrames_due (x : Nat) : (s.setSatFrames x).due = s.due := rfl
@[simp] theorem State.setSatFrames_pending (x : Nat) : (s.setSatFrames x).pending = s.pending := rfl

@[simp] theorem State.setInbox_mode (p : Port) (x : Option Mail) : (s.setInbox p x).mode = s.mode := rfl
@[simp] theorem State.setInbox_timing (p : Port) (x : Option Mail) : (s.setInbox p x).timing = s.timing := rfl
@[simp] theorem State.setInbox_carriers (p : Port) (x : Option Mail) : (s.setInbox p x).carriers = s.carriers := rfl
@[simp] theorem State.setInbox_sectorMap (p : Port) (x : Option Mail) : (s.setInbox p x).sectorMap = s.sectorMap := rfl
@[simp] theorem State.setInbox_lanes (p : Port) (x : Option Mail) : (s.setInbox p x).lanes = s.lanes := rfl
@[simp] theorem State.setInbox_placements (p : Port) (x : Option Mail) : (s.setInbox p x).placements = s.placements := rfl
@[simp] theorem State.setInbox_power (p : Port) (x : Option Mail) : (s.setInbox p x).power = s.power := rfl
@[simp] theorem State.setInbox_weights (p : Port) (x : Option Mail) : (s.setInbox p x).weights = s.weights := rfl
@[simp] theorem State.setInbox_uplinks (p : Port) (x : Option Mail) : (s.setInbox p x).uplinks = s.uplinks := rfl
@[simp] theorem State.setInbox_monitors (p : Port) (x : Option Mail) : (s.setInbox p x).monitors = s.monitors := rfl
@[simp] theorem State.setInbox_satFrames (p : Port) (x : Option Mail) : (s.setInbox p x).satFrames = s.satFrames := rfl
@[simp] theorem State.setInbox_heads (p : Port) (x : Option Mail) : (s.setInbox p x).heads = s.heads := rfl
@[simp] theorem State.setInbox_load (p : Port) (x : Option Mail) : (s.setInbox p x).load = s.load := rfl
@[simp] theorem State.setInbox_plans (p : Port) (x : Option Mail) : (s.setInbox p x).plans = s.plans := rfl
@[simp] theorem State.setInbox_log (p : Port) (x : Option Mail) : (s.setInbox p x).log = s.log := rfl
@[simp] theorem State.setInbox_inboxes (p : Port) (x : Option Mail) : (s.setInbox p x).inboxes = s.inboxes.set p x := rfl
@[simp] theorem State.setInbox_ports (p : Port) (x : Option Mail) : (s.setInbox p x).ports = s.ports := rfl
@[simp] theorem State.setInbox_arbiter (p : Port) (x : Option Mail) : (s.setInbox p x).arbiter = s.arbiter := rfl
@[simp] theorem State.setInbox_links (p : Port) (x : Option Mail) : (s.setInbox p x).links = s.links := rfl
@[simp] theorem State.setInbox_wires (p : Port) (x : Option Mail) : (s.setInbox p x).wires = s.wires := rfl
@[simp] theorem State.setInbox_due (p : Port) (x : Option Mail) : (s.setInbox p x).due = s.due := rfl
@[simp] theorem State.setInbox_pending (p : Port) (x : Option Mail) : (s.setInbox p x).pending = s.pending := rfl

@[simp] theorem State.setWeight_mode (l : Link) (x : Nat) : (s.setWeight l x).mode = s.mode := rfl
@[simp] theorem State.setWeight_timing (l : Link) (x : Nat) : (s.setWeight l x).timing = s.timing := rfl
@[simp] theorem State.setWeight_carriers (l : Link) (x : Nat) : (s.setWeight l x).carriers = s.carriers := rfl
@[simp] theorem State.setWeight_sectorMap (l : Link) (x : Nat) : (s.setWeight l x).sectorMap = s.sectorMap := rfl
@[simp] theorem State.setWeight_lanes (l : Link) (x : Nat) : (s.setWeight l x).lanes = s.lanes := rfl
@[simp] theorem State.setWeight_placements (l : Link) (x : Nat) : (s.setWeight l x).placements = s.placements := rfl
@[simp] theorem State.setWeight_power (l : Link) (x : Nat) : (s.setWeight l x).power = s.power := rfl
@[simp] theorem State.setWeight_weights (l : Link) (x : Nat) : (s.setWeight l x).weights = s.weights.set l x := rfl
@[simp] theorem State.setWeight_uplinks (l : Link) (x : Nat) : (s.setWeight l x).uplinks = s.uplinks := rfl
@[simp] theorem State.setWeight_monitors (l : Link) (x : Nat) : (s.setWeight l x).monitors = s.monitors := rfl
@[simp] theorem State.setWeight_satFrames (l : Link) (x : Nat) : (s.setWeight l x).satFrames = s.satFrames := rfl
@[simp] theorem State.setWeight_heads (l : Link) (x : Nat) : (s.setWeight l x).heads = s.heads := rfl
@[simp] theorem State.setWeight_load (l : Link) (x : Nat) : (s.setWeight l x).load = s.load := rfl
@[simp] theorem State.setWeight_plans (l : Link) (x : Nat) : (s.setWeight l x).plans = s.plans := rfl
@[simp] theorem State.setWeight_log (l : Link) (x : Nat) : (s.setWeight l x).log = s.log := rfl
@[simp] theorem State.setWeight_inboxes (l : Link) (x : Nat) : (s.setWeight l x).inboxes = s.inboxes := rfl
@[simp] theorem State.setWeight_ports (l : Link) (x : Nat) : (s.setWeight l x).ports = s.ports := rfl
@[simp] theorem State.setWeight_arbiter (l : Link) (x : Nat) : (s.setWeight l x).arbiter = s.arbiter := rfl
@[simp] theorem State.setWeight_links (l : Link) (x : Nat) : (s.setWeight l x).links = s.links := rfl
@[simp] theorem State.setWeight_wires (l : Link) (x : Nat) : (s.setWeight l x).wires = s.wires := rfl
@[simp] theorem State.setWeight_due (l : Link) (x : Nat) : (s.setWeight l x).due = s.due := rfl
@[simp] theorem State.setWeight_pending (l : Link) (x : Nat) : (s.setWeight l x).pending = s.pending := rfl

@[simp] theorem State.modCarrier_mode (c : Carrier) (f : CarrierRecord → CarrierRecord) : (s.modCarrier c f).mode = s.mode := rfl
@[simp] theorem State.modCarrier_timing (c : Carrier) (f : CarrierRecord → CarrierRecord) : (s.modCarrier c f).timing = s.timing := rfl
@[simp] theorem State.modCarrier_carriers (c : Carrier) (f : CarrierRecord → CarrierRecord) : (s.modCarrier c f).carriers = s.carriers.set c (f s.carriers[c]) := rfl
@[simp] theorem State.modCarrier_sectorMap (c : Carrier) (f : CarrierRecord → CarrierRecord) : (s.modCarrier c f).sectorMap = s.sectorMap := rfl
@[simp] theorem State.modCarrier_lanes (c : Carrier) (f : CarrierRecord → CarrierRecord) : (s.modCarrier c f).lanes = s.lanes := rfl
@[simp] theorem State.modCarrier_placements (c : Carrier) (f : CarrierRecord → CarrierRecord) : (s.modCarrier c f).placements = s.placements := rfl
@[simp] theorem State.modCarrier_power (c : Carrier) (f : CarrierRecord → CarrierRecord) : (s.modCarrier c f).power = s.power := rfl
@[simp] theorem State.modCarrier_weights (c : Carrier) (f : CarrierRecord → CarrierRecord) : (s.modCarrier c f).weights = s.weights := rfl
@[simp] theorem State.modCarrier_uplinks (c : Carrier) (f : CarrierRecord → CarrierRecord) : (s.modCarrier c f).uplinks = s.uplinks := rfl
@[simp] theorem State.modCarrier_monitors (c : Carrier) (f : CarrierRecord → CarrierRecord) : (s.modCarrier c f).monitors = s.monitors := rfl
@[simp] theorem State.modCarrier_satFrames (c : Carrier) (f : CarrierRecord → CarrierRecord) : (s.modCarrier c f).satFrames = s.satFrames := rfl
@[simp] theorem State.modCarrier_heads (c : Carrier) (f : CarrierRecord → CarrierRecord) : (s.modCarrier c f).heads = s.heads := rfl
@[simp] theorem State.modCarrier_load (c : Carrier) (f : CarrierRecord → CarrierRecord) : (s.modCarrier c f).load = s.load := rfl
@[simp] theorem State.modCarrier_plans (c : Carrier) (f : CarrierRecord → CarrierRecord) : (s.modCarrier c f).plans = s.plans := rfl
@[simp] theorem State.modCarrier_log (c : Carrier) (f : CarrierRecord → CarrierRecord) : (s.modCarrier c f).log = s.log := rfl
@[simp] theorem State.modCarrier_inboxes (c : Carrier) (f : CarrierRecord → CarrierRecord) : (s.modCarrier c f).inboxes = s.inboxes := rfl
@[simp] theorem State.modCarrier_ports (c : Carrier) (f : CarrierRecord → CarrierRecord) : (s.modCarrier c f).ports = s.ports := rfl
@[simp] theorem State.modCarrier_arbiter (c : Carrier) (f : CarrierRecord → CarrierRecord) : (s.modCarrier c f).arbiter = s.arbiter := rfl
@[simp] theorem State.modCarrier_links (c : Carrier) (f : CarrierRecord → CarrierRecord) : (s.modCarrier c f).links = s.links := rfl
@[simp] theorem State.modCarrier_wires (c : Carrier) (f : CarrierRecord → CarrierRecord) : (s.modCarrier c f).wires = s.wires := rfl
@[simp] theorem State.modCarrier_due (c : Carrier) (f : CarrierRecord → CarrierRecord) : (s.modCarrier c f).due = s.due := rfl
@[simp] theorem State.modCarrier_pending (c : Carrier) (f : CarrierRecord → CarrierRecord) : (s.modCarrier c f).pending = s.pending := rfl

@[simp] theorem State.modLanes_mode (h : Head) (f : Vector LaneUnit 8 → Vector LaneUnit 8) : (s.modLanes h f).mode = s.mode := rfl
@[simp] theorem State.modLanes_timing (h : Head) (f : Vector LaneUnit 8 → Vector LaneUnit 8) : (s.modLanes h f).timing = s.timing := rfl
@[simp] theorem State.modLanes_carriers (h : Head) (f : Vector LaneUnit 8 → Vector LaneUnit 8) : (s.modLanes h f).carriers = s.carriers := rfl
@[simp] theorem State.modLanes_sectorMap (h : Head) (f : Vector LaneUnit 8 → Vector LaneUnit 8) : (s.modLanes h f).sectorMap = s.sectorMap := rfl
@[simp] theorem State.modLanes_lanes (h : Head) (f : Vector LaneUnit 8 → Vector LaneUnit 8) : (s.modLanes h f).lanes = s.lanes.set h (f s.lanes[h]) := rfl
@[simp] theorem State.modLanes_placements (h : Head) (f : Vector LaneUnit 8 → Vector LaneUnit 8) : (s.modLanes h f).placements = s.placements := rfl
@[simp] theorem State.modLanes_power (h : Head) (f : Vector LaneUnit 8 → Vector LaneUnit 8) : (s.modLanes h f).power = s.power := rfl
@[simp] theorem State.modLanes_weights (h : Head) (f : Vector LaneUnit 8 → Vector LaneUnit 8) : (s.modLanes h f).weights = s.weights := rfl
@[simp] theorem State.modLanes_uplinks (h : Head) (f : Vector LaneUnit 8 → Vector LaneUnit 8) : (s.modLanes h f).uplinks = s.uplinks := rfl
@[simp] theorem State.modLanes_monitors (h : Head) (f : Vector LaneUnit 8 → Vector LaneUnit 8) : (s.modLanes h f).monitors = s.monitors := rfl
@[simp] theorem State.modLanes_satFrames (h : Head) (f : Vector LaneUnit 8 → Vector LaneUnit 8) : (s.modLanes h f).satFrames = s.satFrames := rfl
@[simp] theorem State.modLanes_heads (h : Head) (f : Vector LaneUnit 8 → Vector LaneUnit 8) : (s.modLanes h f).heads = s.heads := rfl
@[simp] theorem State.modLanes_load (h : Head) (f : Vector LaneUnit 8 → Vector LaneUnit 8) : (s.modLanes h f).load = s.load := rfl
@[simp] theorem State.modLanes_plans (h : Head) (f : Vector LaneUnit 8 → Vector LaneUnit 8) : (s.modLanes h f).plans = s.plans := rfl
@[simp] theorem State.modLanes_log (h : Head) (f : Vector LaneUnit 8 → Vector LaneUnit 8) : (s.modLanes h f).log = s.log := rfl
@[simp] theorem State.modLanes_inboxes (h : Head) (f : Vector LaneUnit 8 → Vector LaneUnit 8) : (s.modLanes h f).inboxes = s.inboxes := rfl
@[simp] theorem State.modLanes_ports (h : Head) (f : Vector LaneUnit 8 → Vector LaneUnit 8) : (s.modLanes h f).ports = s.ports := rfl
@[simp] theorem State.modLanes_arbiter (h : Head) (f : Vector LaneUnit 8 → Vector LaneUnit 8) : (s.modLanes h f).arbiter = s.arbiter := rfl
@[simp] theorem State.modLanes_links (h : Head) (f : Vector LaneUnit 8 → Vector LaneUnit 8) : (s.modLanes h f).links = s.links := rfl
@[simp] theorem State.modLanes_wires (h : Head) (f : Vector LaneUnit 8 → Vector LaneUnit 8) : (s.modLanes h f).wires = s.wires := rfl
@[simp] theorem State.modLanes_due (h : Head) (f : Vector LaneUnit 8 → Vector LaneUnit 8) : (s.modLanes h f).due = s.due := rfl
@[simp] theorem State.modLanes_pending (h : Head) (f : Vector LaneUnit 8 → Vector LaneUnit 8) : (s.modLanes h f).pending = s.pending := rfl

@[simp] theorem State.modPower_mode (h : Head) (f : PowerHead → PowerHead) : (s.modPower h f).mode = s.mode := rfl
@[simp] theorem State.modPower_timing (h : Head) (f : PowerHead → PowerHead) : (s.modPower h f).timing = s.timing := rfl
@[simp] theorem State.modPower_carriers (h : Head) (f : PowerHead → PowerHead) : (s.modPower h f).carriers = s.carriers := rfl
@[simp] theorem State.modPower_sectorMap (h : Head) (f : PowerHead → PowerHead) : (s.modPower h f).sectorMap = s.sectorMap := rfl
@[simp] theorem State.modPower_lanes (h : Head) (f : PowerHead → PowerHead) : (s.modPower h f).lanes = s.lanes := rfl
@[simp] theorem State.modPower_placements (h : Head) (f : PowerHead → PowerHead) : (s.modPower h f).placements = s.placements := rfl
@[simp] theorem State.modPower_power (h : Head) (f : PowerHead → PowerHead) : (s.modPower h f).power = s.power.set h (f s.power[h]) := rfl
@[simp] theorem State.modPower_weights (h : Head) (f : PowerHead → PowerHead) : (s.modPower h f).weights = s.weights := rfl
@[simp] theorem State.modPower_uplinks (h : Head) (f : PowerHead → PowerHead) : (s.modPower h f).uplinks = s.uplinks := rfl
@[simp] theorem State.modPower_monitors (h : Head) (f : PowerHead → PowerHead) : (s.modPower h f).monitors = s.monitors := rfl
@[simp] theorem State.modPower_satFrames (h : Head) (f : PowerHead → PowerHead) : (s.modPower h f).satFrames = s.satFrames := rfl
@[simp] theorem State.modPower_heads (h : Head) (f : PowerHead → PowerHead) : (s.modPower h f).heads = s.heads := rfl
@[simp] theorem State.modPower_load (h : Head) (f : PowerHead → PowerHead) : (s.modPower h f).load = s.load := rfl
@[simp] theorem State.modPower_plans (h : Head) (f : PowerHead → PowerHead) : (s.modPower h f).plans = s.plans := rfl
@[simp] theorem State.modPower_log (h : Head) (f : PowerHead → PowerHead) : (s.modPower h f).log = s.log := rfl
@[simp] theorem State.modPower_inboxes (h : Head) (f : PowerHead → PowerHead) : (s.modPower h f).inboxes = s.inboxes := rfl
@[simp] theorem State.modPower_ports (h : Head) (f : PowerHead → PowerHead) : (s.modPower h f).ports = s.ports := rfl
@[simp] theorem State.modPower_arbiter (h : Head) (f : PowerHead → PowerHead) : (s.modPower h f).arbiter = s.arbiter := rfl
@[simp] theorem State.modPower_links (h : Head) (f : PowerHead → PowerHead) : (s.modPower h f).links = s.links := rfl
@[simp] theorem State.modPower_wires (h : Head) (f : PowerHead → PowerHead) : (s.modPower h f).wires = s.wires := rfl
@[simp] theorem State.modPower_due (h : Head) (f : PowerHead → PowerHead) : (s.modPower h f).due = s.due := rfl
@[simp] theorem State.modPower_pending (h : Head) (f : PowerHead → PowerHead) : (s.modPower h f).pending = s.pending := rfl

@[simp] theorem State.modUplink_mode (h : Head) (f : UplinkHead → UplinkHead) : (s.modUplink h f).mode = s.mode := rfl
@[simp] theorem State.modUplink_timing (h : Head) (f : UplinkHead → UplinkHead) : (s.modUplink h f).timing = s.timing := rfl
@[simp] theorem State.modUplink_carriers (h : Head) (f : UplinkHead → UplinkHead) : (s.modUplink h f).carriers = s.carriers := rfl
@[simp] theorem State.modUplink_sectorMap (h : Head) (f : UplinkHead → UplinkHead) : (s.modUplink h f).sectorMap = s.sectorMap := rfl
@[simp] theorem State.modUplink_lanes (h : Head) (f : UplinkHead → UplinkHead) : (s.modUplink h f).lanes = s.lanes := rfl
@[simp] theorem State.modUplink_placements (h : Head) (f : UplinkHead → UplinkHead) : (s.modUplink h f).placements = s.placements := rfl
@[simp] theorem State.modUplink_power (h : Head) (f : UplinkHead → UplinkHead) : (s.modUplink h f).power = s.power := rfl
@[simp] theorem State.modUplink_weights (h : Head) (f : UplinkHead → UplinkHead) : (s.modUplink h f).weights = s.weights := rfl
@[simp] theorem State.modUplink_uplinks (h : Head) (f : UplinkHead → UplinkHead) : (s.modUplink h f).uplinks = s.uplinks.set h (f s.uplinks[h]) := rfl
@[simp] theorem State.modUplink_monitors (h : Head) (f : UplinkHead → UplinkHead) : (s.modUplink h f).monitors = s.monitors := rfl
@[simp] theorem State.modUplink_satFrames (h : Head) (f : UplinkHead → UplinkHead) : (s.modUplink h f).satFrames = s.satFrames := rfl
@[simp] theorem State.modUplink_heads (h : Head) (f : UplinkHead → UplinkHead) : (s.modUplink h f).heads = s.heads := rfl
@[simp] theorem State.modUplink_load (h : Head) (f : UplinkHead → UplinkHead) : (s.modUplink h f).load = s.load := rfl
@[simp] theorem State.modUplink_plans (h : Head) (f : UplinkHead → UplinkHead) : (s.modUplink h f).plans = s.plans := rfl
@[simp] theorem State.modUplink_log (h : Head) (f : UplinkHead → UplinkHead) : (s.modUplink h f).log = s.log := rfl
@[simp] theorem State.modUplink_inboxes (h : Head) (f : UplinkHead → UplinkHead) : (s.modUplink h f).inboxes = s.inboxes := rfl
@[simp] theorem State.modUplink_ports (h : Head) (f : UplinkHead → UplinkHead) : (s.modUplink h f).ports = s.ports := rfl
@[simp] theorem State.modUplink_arbiter (h : Head) (f : UplinkHead → UplinkHead) : (s.modUplink h f).arbiter = s.arbiter := rfl
@[simp] theorem State.modUplink_links (h : Head) (f : UplinkHead → UplinkHead) : (s.modUplink h f).links = s.links := rfl
@[simp] theorem State.modUplink_wires (h : Head) (f : UplinkHead → UplinkHead) : (s.modUplink h f).wires = s.wires := rfl
@[simp] theorem State.modUplink_due (h : Head) (f : UplinkHead → UplinkHead) : (s.modUplink h f).due = s.due := rfl
@[simp] theorem State.modUplink_pending (h : Head) (f : UplinkHead → UplinkHead) : (s.modUplink h f).pending = s.pending := rfl

@[simp] theorem State.modMonitor_mode (c : Carrier) (f : SaturationMonitor → SaturationMonitor) : (s.modMonitor c f).mode = s.mode := rfl
@[simp] theorem State.modMonitor_timing (c : Carrier) (f : SaturationMonitor → SaturationMonitor) : (s.modMonitor c f).timing = s.timing := rfl
@[simp] theorem State.modMonitor_carriers (c : Carrier) (f : SaturationMonitor → SaturationMonitor) : (s.modMonitor c f).carriers = s.carriers := rfl
@[simp] theorem State.modMonitor_sectorMap (c : Carrier) (f : SaturationMonitor → SaturationMonitor) : (s.modMonitor c f).sectorMap = s.sectorMap := rfl
@[simp] theorem State.modMonitor_lanes (c : Carrier) (f : SaturationMonitor → SaturationMonitor) : (s.modMonitor c f).lanes = s.lanes := rfl
@[simp] theorem State.modMonitor_placements (c : Carrier) (f : SaturationMonitor → SaturationMonitor) : (s.modMonitor c f).placements = s.placements := rfl
@[simp] theorem State.modMonitor_power (c : Carrier) (f : SaturationMonitor → SaturationMonitor) : (s.modMonitor c f).power = s.power := rfl
@[simp] theorem State.modMonitor_weights (c : Carrier) (f : SaturationMonitor → SaturationMonitor) : (s.modMonitor c f).weights = s.weights := rfl
@[simp] theorem State.modMonitor_uplinks (c : Carrier) (f : SaturationMonitor → SaturationMonitor) : (s.modMonitor c f).uplinks = s.uplinks := rfl
@[simp] theorem State.modMonitor_monitors (c : Carrier) (f : SaturationMonitor → SaturationMonitor) : (s.modMonitor c f).monitors = s.monitors.set c (f s.monitors[c]) := rfl
@[simp] theorem State.modMonitor_satFrames (c : Carrier) (f : SaturationMonitor → SaturationMonitor) : (s.modMonitor c f).satFrames = s.satFrames := rfl
@[simp] theorem State.modMonitor_heads (c : Carrier) (f : SaturationMonitor → SaturationMonitor) : (s.modMonitor c f).heads = s.heads := rfl
@[simp] theorem State.modMonitor_load (c : Carrier) (f : SaturationMonitor → SaturationMonitor) : (s.modMonitor c f).load = s.load := rfl
@[simp] theorem State.modMonitor_plans (c : Carrier) (f : SaturationMonitor → SaturationMonitor) : (s.modMonitor c f).plans = s.plans := rfl
@[simp] theorem State.modMonitor_log (c : Carrier) (f : SaturationMonitor → SaturationMonitor) : (s.modMonitor c f).log = s.log := rfl
@[simp] theorem State.modMonitor_inboxes (c : Carrier) (f : SaturationMonitor → SaturationMonitor) : (s.modMonitor c f).inboxes = s.inboxes := rfl
@[simp] theorem State.modMonitor_ports (c : Carrier) (f : SaturationMonitor → SaturationMonitor) : (s.modMonitor c f).ports = s.ports := rfl
@[simp] theorem State.modMonitor_arbiter (c : Carrier) (f : SaturationMonitor → SaturationMonitor) : (s.modMonitor c f).arbiter = s.arbiter := rfl
@[simp] theorem State.modMonitor_links (c : Carrier) (f : SaturationMonitor → SaturationMonitor) : (s.modMonitor c f).links = s.links := rfl
@[simp] theorem State.modMonitor_wires (c : Carrier) (f : SaturationMonitor → SaturationMonitor) : (s.modMonitor c f).wires = s.wires := rfl
@[simp] theorem State.modMonitor_due (c : Carrier) (f : SaturationMonitor → SaturationMonitor) : (s.modMonitor c f).due = s.due := rfl
@[simp] theorem State.modMonitor_pending (c : Carrier) (f : SaturationMonitor → SaturationMonitor) : (s.modMonitor c f).pending = s.pending := rfl

@[simp] theorem State.modHead_mode (h : Head) (f : HeadLink → HeadLink) : (s.modHead h f).mode = s.mode := rfl
@[simp] theorem State.modHead_timing (h : Head) (f : HeadLink → HeadLink) : (s.modHead h f).timing = s.timing := rfl
@[simp] theorem State.modHead_carriers (h : Head) (f : HeadLink → HeadLink) : (s.modHead h f).carriers = s.carriers := rfl
@[simp] theorem State.modHead_sectorMap (h : Head) (f : HeadLink → HeadLink) : (s.modHead h f).sectorMap = s.sectorMap := rfl
@[simp] theorem State.modHead_lanes (h : Head) (f : HeadLink → HeadLink) : (s.modHead h f).lanes = s.lanes := rfl
@[simp] theorem State.modHead_placements (h : Head) (f : HeadLink → HeadLink) : (s.modHead h f).placements = s.placements := rfl
@[simp] theorem State.modHead_power (h : Head) (f : HeadLink → HeadLink) : (s.modHead h f).power = s.power := rfl
@[simp] theorem State.modHead_weights (h : Head) (f : HeadLink → HeadLink) : (s.modHead h f).weights = s.weights := rfl
@[simp] theorem State.modHead_uplinks (h : Head) (f : HeadLink → HeadLink) : (s.modHead h f).uplinks = s.uplinks := rfl
@[simp] theorem State.modHead_monitors (h : Head) (f : HeadLink → HeadLink) : (s.modHead h f).monitors = s.monitors := rfl
@[simp] theorem State.modHead_satFrames (h : Head) (f : HeadLink → HeadLink) : (s.modHead h f).satFrames = s.satFrames := rfl
@[simp] theorem State.modHead_heads (h : Head) (f : HeadLink → HeadLink) : (s.modHead h f).heads = s.heads.set h (f s.heads[h]) := rfl
@[simp] theorem State.modHead_load (h : Head) (f : HeadLink → HeadLink) : (s.modHead h f).load = s.load := rfl
@[simp] theorem State.modHead_plans (h : Head) (f : HeadLink → HeadLink) : (s.modHead h f).plans = s.plans := rfl
@[simp] theorem State.modHead_log (h : Head) (f : HeadLink → HeadLink) : (s.modHead h f).log = s.log := rfl
@[simp] theorem State.modHead_inboxes (h : Head) (f : HeadLink → HeadLink) : (s.modHead h f).inboxes = s.inboxes := rfl
@[simp] theorem State.modHead_ports (h : Head) (f : HeadLink → HeadLink) : (s.modHead h f).ports = s.ports := rfl
@[simp] theorem State.modHead_arbiter (h : Head) (f : HeadLink → HeadLink) : (s.modHead h f).arbiter = s.arbiter := rfl
@[simp] theorem State.modHead_links (h : Head) (f : HeadLink → HeadLink) : (s.modHead h f).links = s.links := rfl
@[simp] theorem State.modHead_wires (h : Head) (f : HeadLink → HeadLink) : (s.modHead h f).wires = s.wires := rfl
@[simp] theorem State.modHead_due (h : Head) (f : HeadLink → HeadLink) : (s.modHead h f).due = s.due := rfl
@[simp] theorem State.modHead_pending (h : Head) (f : HeadLink → HeadLink) : (s.modHead h f).pending = s.pending := rfl

@[simp] theorem State.modPort_mode (p : Port) (f : PortRecord → PortRecord) : (s.modPort p f).mode = s.mode := rfl
@[simp] theorem State.modPort_timing (p : Port) (f : PortRecord → PortRecord) : (s.modPort p f).timing = s.timing := rfl
@[simp] theorem State.modPort_carriers (p : Port) (f : PortRecord → PortRecord) : (s.modPort p f).carriers = s.carriers := rfl
@[simp] theorem State.modPort_sectorMap (p : Port) (f : PortRecord → PortRecord) : (s.modPort p f).sectorMap = s.sectorMap := rfl
@[simp] theorem State.modPort_lanes (p : Port) (f : PortRecord → PortRecord) : (s.modPort p f).lanes = s.lanes := rfl
@[simp] theorem State.modPort_placements (p : Port) (f : PortRecord → PortRecord) : (s.modPort p f).placements = s.placements := rfl
@[simp] theorem State.modPort_power (p : Port) (f : PortRecord → PortRecord) : (s.modPort p f).power = s.power := rfl
@[simp] theorem State.modPort_weights (p : Port) (f : PortRecord → PortRecord) : (s.modPort p f).weights = s.weights := rfl
@[simp] theorem State.modPort_uplinks (p : Port) (f : PortRecord → PortRecord) : (s.modPort p f).uplinks = s.uplinks := rfl
@[simp] theorem State.modPort_monitors (p : Port) (f : PortRecord → PortRecord) : (s.modPort p f).monitors = s.monitors := rfl
@[simp] theorem State.modPort_satFrames (p : Port) (f : PortRecord → PortRecord) : (s.modPort p f).satFrames = s.satFrames := rfl
@[simp] theorem State.modPort_heads (p : Port) (f : PortRecord → PortRecord) : (s.modPort p f).heads = s.heads := rfl
@[simp] theorem State.modPort_load (p : Port) (f : PortRecord → PortRecord) : (s.modPort p f).load = s.load := rfl
@[simp] theorem State.modPort_plans (p : Port) (f : PortRecord → PortRecord) : (s.modPort p f).plans = s.plans := rfl
@[simp] theorem State.modPort_log (p : Port) (f : PortRecord → PortRecord) : (s.modPort p f).log = s.log := rfl
@[simp] theorem State.modPort_inboxes (p : Port) (f : PortRecord → PortRecord) : (s.modPort p f).inboxes = s.inboxes := rfl
@[simp] theorem State.modPort_ports (p : Port) (f : PortRecord → PortRecord) : (s.modPort p f).ports = s.ports.set p (f s.ports[p]) := rfl
@[simp] theorem State.modPort_arbiter (p : Port) (f : PortRecord → PortRecord) : (s.modPort p f).arbiter = s.arbiter := rfl
@[simp] theorem State.modPort_links (p : Port) (f : PortRecord → PortRecord) : (s.modPort p f).links = s.links := rfl
@[simp] theorem State.modPort_wires (p : Port) (f : PortRecord → PortRecord) : (s.modPort p f).wires = s.wires := rfl
@[simp] theorem State.modPort_due (p : Port) (f : PortRecord → PortRecord) : (s.modPort p f).due = s.due := rfl
@[simp] theorem State.modPort_pending (p : Port) (f : PortRecord → PortRecord) : (s.modPort p f).pending = s.pending := rfl

@[simp] theorem State.modLink_mode (l : Link) (f : LinkRecord → LinkRecord) : (s.modLink l f).mode = s.mode := rfl
@[simp] theorem State.modLink_timing (l : Link) (f : LinkRecord → LinkRecord) : (s.modLink l f).timing = s.timing := rfl
@[simp] theorem State.modLink_carriers (l : Link) (f : LinkRecord → LinkRecord) : (s.modLink l f).carriers = s.carriers := rfl
@[simp] theorem State.modLink_sectorMap (l : Link) (f : LinkRecord → LinkRecord) : (s.modLink l f).sectorMap = s.sectorMap := rfl
@[simp] theorem State.modLink_lanes (l : Link) (f : LinkRecord → LinkRecord) : (s.modLink l f).lanes = s.lanes := rfl
@[simp] theorem State.modLink_placements (l : Link) (f : LinkRecord → LinkRecord) : (s.modLink l f).placements = s.placements := rfl
@[simp] theorem State.modLink_power (l : Link) (f : LinkRecord → LinkRecord) : (s.modLink l f).power = s.power := rfl
@[simp] theorem State.modLink_weights (l : Link) (f : LinkRecord → LinkRecord) : (s.modLink l f).weights = s.weights := rfl
@[simp] theorem State.modLink_uplinks (l : Link) (f : LinkRecord → LinkRecord) : (s.modLink l f).uplinks = s.uplinks := rfl
@[simp] theorem State.modLink_monitors (l : Link) (f : LinkRecord → LinkRecord) : (s.modLink l f).monitors = s.monitors := rfl
@[simp] theorem State.modLink_satFrames (l : Link) (f : LinkRecord → LinkRecord) : (s.modLink l f).satFrames = s.satFrames := rfl
@[simp] theorem State.modLink_heads (l : Link) (f : LinkRecord → LinkRecord) : (s.modLink l f).heads = s.heads := rfl
@[simp] theorem State.modLink_load (l : Link) (f : LinkRecord → LinkRecord) : (s.modLink l f).load = s.load := rfl
@[simp] theorem State.modLink_plans (l : Link) (f : LinkRecord → LinkRecord) : (s.modLink l f).plans = s.plans := rfl
@[simp] theorem State.modLink_log (l : Link) (f : LinkRecord → LinkRecord) : (s.modLink l f).log = s.log := rfl
@[simp] theorem State.modLink_inboxes (l : Link) (f : LinkRecord → LinkRecord) : (s.modLink l f).inboxes = s.inboxes := rfl
@[simp] theorem State.modLink_ports (l : Link) (f : LinkRecord → LinkRecord) : (s.modLink l f).ports = s.ports := rfl
@[simp] theorem State.modLink_arbiter (l : Link) (f : LinkRecord → LinkRecord) : (s.modLink l f).arbiter = s.arbiter := rfl
@[simp] theorem State.modLink_links (l : Link) (f : LinkRecord → LinkRecord) : (s.modLink l f).links = s.links.set l (f s.links[l]) := rfl
@[simp] theorem State.modLink_wires (l : Link) (f : LinkRecord → LinkRecord) : (s.modLink l f).wires = s.wires := rfl
@[simp] theorem State.modLink_due (l : Link) (f : LinkRecord → LinkRecord) : (s.modLink l f).due = s.due := rfl
@[simp] theorem State.modLink_pending (l : Link) (f : LinkRecord → LinkRecord) : (s.modLink l f).pending = s.pending := rfl

@[simp] theorem State.modPlacement_mode (h : Head) (c : Carrier) (f : Placement → Placement) : (s.modPlacement h c f).mode = s.mode := rfl
@[simp] theorem State.modPlacement_timing (h : Head) (c : Carrier) (f : Placement → Placement) : (s.modPlacement h c f).timing = s.timing := rfl
@[simp] theorem State.modPlacement_carriers (h : Head) (c : Carrier) (f : Placement → Placement) : (s.modPlacement h c f).carriers = s.carriers := rfl
@[simp] theorem State.modPlacement_sectorMap (h : Head) (c : Carrier) (f : Placement → Placement) : (s.modPlacement h c f).sectorMap = s.sectorMap := rfl
@[simp] theorem State.modPlacement_lanes (h : Head) (c : Carrier) (f : Placement → Placement) : (s.modPlacement h c f).lanes = s.lanes := rfl
@[simp] theorem State.modPlacement_placements (h : Head) (c : Carrier) (f : Placement → Placement) : (s.modPlacement h c f).placements = s.placements.map fun p => if p.head = h ∧ p.carrier = c then f p else p := rfl
@[simp] theorem State.modPlacement_power (h : Head) (c : Carrier) (f : Placement → Placement) : (s.modPlacement h c f).power = s.power := rfl
@[simp] theorem State.modPlacement_weights (h : Head) (c : Carrier) (f : Placement → Placement) : (s.modPlacement h c f).weights = s.weights := rfl
@[simp] theorem State.modPlacement_uplinks (h : Head) (c : Carrier) (f : Placement → Placement) : (s.modPlacement h c f).uplinks = s.uplinks := rfl
@[simp] theorem State.modPlacement_monitors (h : Head) (c : Carrier) (f : Placement → Placement) : (s.modPlacement h c f).monitors = s.monitors := rfl
@[simp] theorem State.modPlacement_satFrames (h : Head) (c : Carrier) (f : Placement → Placement) : (s.modPlacement h c f).satFrames = s.satFrames := rfl
@[simp] theorem State.modPlacement_heads (h : Head) (c : Carrier) (f : Placement → Placement) : (s.modPlacement h c f).heads = s.heads := rfl
@[simp] theorem State.modPlacement_load (h : Head) (c : Carrier) (f : Placement → Placement) : (s.modPlacement h c f).load = s.load := rfl
@[simp] theorem State.modPlacement_plans (h : Head) (c : Carrier) (f : Placement → Placement) : (s.modPlacement h c f).plans = s.plans := rfl
@[simp] theorem State.modPlacement_log (h : Head) (c : Carrier) (f : Placement → Placement) : (s.modPlacement h c f).log = s.log := rfl
@[simp] theorem State.modPlacement_inboxes (h : Head) (c : Carrier) (f : Placement → Placement) : (s.modPlacement h c f).inboxes = s.inboxes := rfl
@[simp] theorem State.modPlacement_ports (h : Head) (c : Carrier) (f : Placement → Placement) : (s.modPlacement h c f).ports = s.ports := rfl
@[simp] theorem State.modPlacement_arbiter (h : Head) (c : Carrier) (f : Placement → Placement) : (s.modPlacement h c f).arbiter = s.arbiter := rfl
@[simp] theorem State.modPlacement_links (h : Head) (c : Carrier) (f : Placement → Placement) : (s.modPlacement h c f).links = s.links := rfl
@[simp] theorem State.modPlacement_wires (h : Head) (c : Carrier) (f : Placement → Placement) : (s.modPlacement h c f).wires = s.wires := rfl
@[simp] theorem State.modPlacement_due (h : Head) (c : Carrier) (f : Placement → Placement) : (s.modPlacement h c f).due = s.due := rfl
@[simp] theorem State.modPlacement_pending (h : Head) (c : Carrier) (f : Placement → Placement) : (s.modPlacement h c f).pending = s.pending := rfl

@[simp] theorem State.modTest_mode (h : Head) (f : TestState → TestState) : (s.modTest h f).mode = s.mode := rfl
@[simp] theorem State.modTest_timing (h : Head) (f : TestState → TestState) : (s.modTest h f).timing = s.timing := rfl
@[simp] theorem State.modTest_carriers (h : Head) (f : TestState → TestState) : (s.modTest h f).carriers = s.carriers := rfl
@[simp] theorem State.modTest_sectorMap (h : Head) (f : TestState → TestState) : (s.modTest h f).sectorMap = s.sectorMap := rfl
@[simp] theorem State.modTest_lanes (h : Head) (f : TestState → TestState) : (s.modTest h f).lanes = s.lanes := rfl
@[simp] theorem State.modTest_placements (h : Head) (f : TestState → TestState) : (s.modTest h f).placements = s.placements := rfl
@[simp] theorem State.modTest_power (h : Head) (f : TestState → TestState) : (s.modTest h f).power = s.power := rfl
@[simp] theorem State.modTest_weights (h : Head) (f : TestState → TestState) : (s.modTest h f).weights = s.weights := rfl
@[simp] theorem State.modTest_uplinks (h : Head) (f : TestState → TestState) : (s.modTest h f).uplinks = s.uplinks := rfl
@[simp] theorem State.modTest_monitors (h : Head) (f : TestState → TestState) : (s.modTest h f).monitors = s.monitors := rfl
@[simp] theorem State.modTest_satFrames (h : Head) (f : TestState → TestState) : (s.modTest h f).satFrames = s.satFrames := rfl
@[simp] theorem State.modTest_heads (h : Head) (f : TestState → TestState) : (s.modTest h f).heads = s.heads.set h { s.heads[h] with test := f s.heads[h].test } := rfl
@[simp] theorem State.modTest_load (h : Head) (f : TestState → TestState) : (s.modTest h f).load = s.load := rfl
@[simp] theorem State.modTest_plans (h : Head) (f : TestState → TestState) : (s.modTest h f).plans = s.plans := rfl
@[simp] theorem State.modTest_log (h : Head) (f : TestState → TestState) : (s.modTest h f).log = s.log := rfl
@[simp] theorem State.modTest_inboxes (h : Head) (f : TestState → TestState) : (s.modTest h f).inboxes = s.inboxes := rfl
@[simp] theorem State.modTest_ports (h : Head) (f : TestState → TestState) : (s.modTest h f).ports = s.ports := rfl
@[simp] theorem State.modTest_arbiter (h : Head) (f : TestState → TestState) : (s.modTest h f).arbiter = s.arbiter := rfl
@[simp] theorem State.modTest_links (h : Head) (f : TestState → TestState) : (s.modTest h f).links = s.links := rfl
@[simp] theorem State.modTest_wires (h : Head) (f : TestState → TestState) : (s.modTest h f).wires = s.wires := rfl
@[simp] theorem State.modTest_due (h : Head) (f : TestState → TestState) : (s.modTest h f).due = s.due := rfl
@[simp] theorem State.modTest_pending (h : Head) (f : TestState → TestState) : (s.modTest h f).pending = s.pending := rfl

@[simp] theorem State.modLoadHead_mode (h : Head) (f : LoadHead → LoadHead) : (s.modLoadHead h f).mode = s.mode := rfl
@[simp] theorem State.modLoadHead_timing (h : Head) (f : LoadHead → LoadHead) : (s.modLoadHead h f).timing = s.timing := rfl
@[simp] theorem State.modLoadHead_carriers (h : Head) (f : LoadHead → LoadHead) : (s.modLoadHead h f).carriers = s.carriers := rfl
@[simp] theorem State.modLoadHead_sectorMap (h : Head) (f : LoadHead → LoadHead) : (s.modLoadHead h f).sectorMap = s.sectorMap := rfl
@[simp] theorem State.modLoadHead_lanes (h : Head) (f : LoadHead → LoadHead) : (s.modLoadHead h f).lanes = s.lanes := rfl
@[simp] theorem State.modLoadHead_placements (h : Head) (f : LoadHead → LoadHead) : (s.modLoadHead h f).placements = s.placements := rfl
@[simp] theorem State.modLoadHead_power (h : Head) (f : LoadHead → LoadHead) : (s.modLoadHead h f).power = s.power := rfl
@[simp] theorem State.modLoadHead_weights (h : Head) (f : LoadHead → LoadHead) : (s.modLoadHead h f).weights = s.weights := rfl
@[simp] theorem State.modLoadHead_uplinks (h : Head) (f : LoadHead → LoadHead) : (s.modLoadHead h f).uplinks = s.uplinks := rfl
@[simp] theorem State.modLoadHead_monitors (h : Head) (f : LoadHead → LoadHead) : (s.modLoadHead h f).monitors = s.monitors := rfl
@[simp] theorem State.modLoadHead_satFrames (h : Head) (f : LoadHead → LoadHead) : (s.modLoadHead h f).satFrames = s.satFrames := rfl
@[simp] theorem State.modLoadHead_heads (h : Head) (f : LoadHead → LoadHead) : (s.modLoadHead h f).heads = s.heads := rfl
@[simp] theorem State.modLoadHead_load (h : Head) (f : LoadHead → LoadHead) : (s.modLoadHead h f).load = { s.load with heads := s.load.heads.set h (f s.load.heads[h]) } := rfl
@[simp] theorem State.modLoadHead_plans (h : Head) (f : LoadHead → LoadHead) : (s.modLoadHead h f).plans = s.plans := rfl
@[simp] theorem State.modLoadHead_log (h : Head) (f : LoadHead → LoadHead) : (s.modLoadHead h f).log = s.log := rfl
@[simp] theorem State.modLoadHead_inboxes (h : Head) (f : LoadHead → LoadHead) : (s.modLoadHead h f).inboxes = s.inboxes := rfl
@[simp] theorem State.modLoadHead_ports (h : Head) (f : LoadHead → LoadHead) : (s.modLoadHead h f).ports = s.ports := rfl
@[simp] theorem State.modLoadHead_arbiter (h : Head) (f : LoadHead → LoadHead) : (s.modLoadHead h f).arbiter = s.arbiter := rfl
@[simp] theorem State.modLoadHead_links (h : Head) (f : LoadHead → LoadHead) : (s.modLoadHead h f).links = s.links := rfl
@[simp] theorem State.modLoadHead_wires (h : Head) (f : LoadHead → LoadHead) : (s.modLoadHead h f).wires = s.wires := rfl
@[simp] theorem State.modLoadHead_due (h : Head) (f : LoadHead → LoadHead) : (s.modLoadHead h f).due = s.due := rfl
@[simp] theorem State.modLoadHead_pending (h : Head) (f : LoadHead → LoadHead) : (s.modLoadHead h f).pending = s.pending := rfl

@[simp] theorem State.modTrigger_mode (t : TriggerIndex) (f : Trigger → Trigger) : (s.modTrigger t f).mode = s.mode := rfl
@[simp] theorem State.modTrigger_timing (t : TriggerIndex) (f : Trigger → Trigger) : (s.modTrigger t f).timing = s.timing := rfl
@[simp] theorem State.modTrigger_carriers (t : TriggerIndex) (f : Trigger → Trigger) : (s.modTrigger t f).carriers = s.carriers := rfl
@[simp] theorem State.modTrigger_sectorMap (t : TriggerIndex) (f : Trigger → Trigger) : (s.modTrigger t f).sectorMap = s.sectorMap := rfl
@[simp] theorem State.modTrigger_lanes (t : TriggerIndex) (f : Trigger → Trigger) : (s.modTrigger t f).lanes = s.lanes := rfl
@[simp] theorem State.modTrigger_placements (t : TriggerIndex) (f : Trigger → Trigger) : (s.modTrigger t f).placements = s.placements := rfl
@[simp] theorem State.modTrigger_power (t : TriggerIndex) (f : Trigger → Trigger) : (s.modTrigger t f).power = s.power := rfl
@[simp] theorem State.modTrigger_weights (t : TriggerIndex) (f : Trigger → Trigger) : (s.modTrigger t f).weights = s.weights := rfl
@[simp] theorem State.modTrigger_uplinks (t : TriggerIndex) (f : Trigger → Trigger) : (s.modTrigger t f).uplinks = s.uplinks := rfl
@[simp] theorem State.modTrigger_monitors (t : TriggerIndex) (f : Trigger → Trigger) : (s.modTrigger t f).monitors = s.monitors := rfl
@[simp] theorem State.modTrigger_satFrames (t : TriggerIndex) (f : Trigger → Trigger) : (s.modTrigger t f).satFrames = s.satFrames := rfl
@[simp] theorem State.modTrigger_heads (t : TriggerIndex) (f : Trigger → Trigger) : (s.modTrigger t f).heads = s.heads := rfl
@[simp] theorem State.modTrigger_load (t : TriggerIndex) (f : Trigger → Trigger) : (s.modTrigger t f).load = { s.load with triggers := s.load.triggers.set t (f s.load.triggers[t]) } := rfl
@[simp] theorem State.modTrigger_plans (t : TriggerIndex) (f : Trigger → Trigger) : (s.modTrigger t f).plans = s.plans := rfl
@[simp] theorem State.modTrigger_log (t : TriggerIndex) (f : Trigger → Trigger) : (s.modTrigger t f).log = s.log := rfl
@[simp] theorem State.modTrigger_inboxes (t : TriggerIndex) (f : Trigger → Trigger) : (s.modTrigger t f).inboxes = s.inboxes := rfl
@[simp] theorem State.modTrigger_ports (t : TriggerIndex) (f : Trigger → Trigger) : (s.modTrigger t f).ports = s.ports := rfl
@[simp] theorem State.modTrigger_arbiter (t : TriggerIndex) (f : Trigger → Trigger) : (s.modTrigger t f).arbiter = s.arbiter := rfl
@[simp] theorem State.modTrigger_links (t : TriggerIndex) (f : Trigger → Trigger) : (s.modTrigger t f).links = s.links := rfl
@[simp] theorem State.modTrigger_wires (t : TriggerIndex) (f : Trigger → Trigger) : (s.modTrigger t f).wires = s.wires := rfl
@[simp] theorem State.modTrigger_due (t : TriggerIndex) (f : Trigger → Trigger) : (s.modTrigger t f).due = s.due := rfl
@[simp] theorem State.modTrigger_pending (t : TriggerIndex) (f : Trigger → Trigger) : (s.modTrigger t f).pending = s.pending := rfl

@[simp] theorem State.setSlot_mode (k : SlotIndex) (x : PlanSlot) : (s.setSlot k x).mode = s.mode := rfl
@[simp] theorem State.setSlot_timing (k : SlotIndex) (x : PlanSlot) : (s.setSlot k x).timing = s.timing := rfl
@[simp] theorem State.setSlot_carriers (k : SlotIndex) (x : PlanSlot) : (s.setSlot k x).carriers = s.carriers := rfl
@[simp] theorem State.setSlot_sectorMap (k : SlotIndex) (x : PlanSlot) : (s.setSlot k x).sectorMap = s.sectorMap := rfl
@[simp] theorem State.setSlot_lanes (k : SlotIndex) (x : PlanSlot) : (s.setSlot k x).lanes = s.lanes := rfl
@[simp] theorem State.setSlot_placements (k : SlotIndex) (x : PlanSlot) : (s.setSlot k x).placements = s.placements := rfl
@[simp] theorem State.setSlot_power (k : SlotIndex) (x : PlanSlot) : (s.setSlot k x).power = s.power := rfl
@[simp] theorem State.setSlot_weights (k : SlotIndex) (x : PlanSlot) : (s.setSlot k x).weights = s.weights := rfl
@[simp] theorem State.setSlot_uplinks (k : SlotIndex) (x : PlanSlot) : (s.setSlot k x).uplinks = s.uplinks := rfl
@[simp] theorem State.setSlot_monitors (k : SlotIndex) (x : PlanSlot) : (s.setSlot k x).monitors = s.monitors := rfl
@[simp] theorem State.setSlot_satFrames (k : SlotIndex) (x : PlanSlot) : (s.setSlot k x).satFrames = s.satFrames := rfl
@[simp] theorem State.setSlot_heads (k : SlotIndex) (x : PlanSlot) : (s.setSlot k x).heads = s.heads := rfl
@[simp] theorem State.setSlot_load (k : SlotIndex) (x : PlanSlot) : (s.setSlot k x).load = s.load := rfl
@[simp] theorem State.setSlot_plans (k : SlotIndex) (x : PlanSlot) : (s.setSlot k x).plans = { s.plans with slots := s.plans.slots.set k x } := rfl
@[simp] theorem State.setSlot_log (k : SlotIndex) (x : PlanSlot) : (s.setSlot k x).log = s.log := rfl
@[simp] theorem State.setSlot_inboxes (k : SlotIndex) (x : PlanSlot) : (s.setSlot k x).inboxes = s.inboxes := rfl
@[simp] theorem State.setSlot_ports (k : SlotIndex) (x : PlanSlot) : (s.setSlot k x).ports = s.ports := rfl
@[simp] theorem State.setSlot_arbiter (k : SlotIndex) (x : PlanSlot) : (s.setSlot k x).arbiter = s.arbiter := rfl
@[simp] theorem State.setSlot_links (k : SlotIndex) (x : PlanSlot) : (s.setSlot k x).links = s.links := rfl
@[simp] theorem State.setSlot_wires (k : SlotIndex) (x : PlanSlot) : (s.setSlot k x).wires = s.wires := rfl
@[simp] theorem State.setSlot_due (k : SlotIndex) (x : PlanSlot) : (s.setSlot k x).due = s.due := rfl
@[simp] theorem State.setSlot_pending (k : SlotIndex) (x : PlanSlot) : (s.setSlot k x).pending = s.pending := rfl

/-! ## The parity of lane words -/

/-- A word fails its parity exactly where some one of its four bytes does (R107). -/
theorem parityFails_iff (w : Word) (parity : BitVec 4) :
    parityFails w parity = true ↔ ∃ j : Fin 4, parity.getLsbD j ≠ byteParity (w.extractLsb' (8 * j) 8) := by
  have bits : ∀ j : Fin 4, (parityBits w).getLsbD j = byteParity (w.extractLsb' (8 * j) 8) := by
    have place : ∀ (f : Fin 4 → Bool) (j : Fin 4),
        (BitVec.ofBool (f 3) ++ BitVec.ofBool (f 2) ++ BitVec.ofBool (f 1) ++ BitVec.ofBool (f 0)).getLsbD j = f j := by
      decide
    exact place fun j => byteParity (w.extractLsb' (8 * j) 8)
  simp only [parityFails, decide_eq_true_eq, ← bits]
  constructor
  · intro h
    refine Classical.byContradiction fun none => h (BitVec.eq_of_getLsbD_eq fun i hi => ?_)
    exact Classical.byContradiction fun e => none ⟨⟨i, hi⟩, e⟩
  · rintro ⟨j, h⟩ rfl
    exact h rfl

/-- A word with the parity bits that match it does not fail. -/
@[simp] theorem parityFails_parityBits (w : Word) : parityFails w (parityBits w) = false := by simp [parityFails]

/-- With any of the matching parity bits turned over it fails. -/
@[simp] theorem parityFails_xor (w : Word) (flip : BitVec 4) : parityFails w (parityBits w ^^^ flip) = decide (flip ≠ 0) := by
  have turned : ∀ p f : BitVec 4, decide (p ^^^ f ≠ p) = decide (f ≠ 0) := by decide
  exact turned (parityBits w) flip

end Sys2Proof.Machine
end

