-- ==== Sys2Proof/Laws/Frames.lean ====
section
/-!
SUPPORT. What the shared operations leave alone, said once for each: a state without the parts an operation may
write is the same before and after it.
-/

namespace Sys2Proof.Machine

/-- The state without the alarm log and the ports. -/
def State.sansLog (s : State) : State := { s with log := AlarmLog.reset, ports := Vector.replicate 5 PortRecord.reset }

/-- The state without the alarm log, the ports and the power sharing unit's part. -/
def State.sansPower (s : State) : State := { s.sansLog with power := Vector.replicate 16 PowerHead.reset }

/-- The state without the parts that exclusion, eligibility and orphan changes write. -/
def State.sansConfig (s : State) : State :=
  { s.sansPower with carriers := Vector.replicate 16 CarrierRecord.reset, placements := [] }

/-- The state without the parts that a head link's transitions write as well. -/
def State.sansHead (s : State) : State :=
  { s.sansConfig with heads := Vector.replicate 16 HeadLink.reset, uplinks := Vector.replicate 16 UplinkHead.reset,
                      load := LoadMonitor.reset }

/-- What each operation of a list keeps, the whole list keeps. -/
theorem forAll_keeps {α β : Type} (view : State → β) (g : α → State → State) (h : ∀ a t, view (g a t) = view t)
    (l : List α) (s : State) : view (forAll l g s) = view s := by
  induction l generalizing s with
  | nil => rfl
  | cons a l ih => exact (ih (g a s)).trans (h a s)

/-- What each operation of a list preserves, the whole list preserves. -/
theorem forAll_preserves {α : Type} (P : State → Prop) (g : α → State → State) (h : ∀ a t, P t → P (g a t))
    (l : List α) (s : State) (hs : P s) : P (forAll l g s) := by
  induction l generalizing s with
  | nil => exact hs
  | cons a l ih => exact ih (g a s) (h a s hs)

/-! ## A coarser view is kept where a finer one is -/

theorem sansPower_of_sansLog {s t : State} (h : t.sansLog = s.sansLog) : t.sansPower = s.sansPower :=
  congrArg (fun x : State => { x with power := Vector.replicate 16 PowerHead.reset }) h

theorem sansConfig_of_sansPower {s t : State} (h : t.sansPower = s.sansPower) : t.sansConfig = s.sansConfig :=
  congrArg (fun x : State => { x with carriers := Vector.replicate 16 CarrierRecord.reset, placements := [] }) h

theorem sansHead_of_sansConfig {s t : State} (h : t.sansConfig = s.sansConfig) : t.sansHead = s.sansHead :=
  congrArg (fun x : State => { x with heads := Vector.replicate 16 HeadLink.reset
                                      uplinks := Vector.replicate 16 UplinkHead.reset
                                      load := LoadMonitor.reset }) h

/-- The frame that a kept view gives, as an equation on the whole state. -/
theorem eq_of_sansLog {s t : State} (h : t.sansLog = s.sansLog) : t = { s with log := t.log, ports := t.ports } :=
  congrArg (fun x : State => { x with log := t.log, ports := t.ports }) h

theorem eq_of_sansPower {s t : State} (h : t.sansPower = s.sansPower) :
    t = { s with log := t.log, ports := t.ports, power := t.power } :=
  congrArg (fun x : State => { x with log := t.log, ports := t.ports, power := t.power }) h

theorem eq_of_sansConfig {s t : State} (h : t.sansConfig = s.sansConfig) :
    t = { s with log := t.log, ports := t.ports, power := t.power, carriers := t.carriers, placements := t.placements } :=
  congrArg (fun x : State => { x with log := t.log, ports := t.ports, power := t.power
                                      carriers := t.carriers, placements := t.placements }) h

theorem eq_of_sansHead {s t : State} (h : t.sansHead = s.sansHead) :
    t = { s with log := t.log, ports := t.ports, power := t.power, carriers := t.carriers, placements := t.placements,
                 heads := t.heads, uplinks := t.uplinks, load := t.load } :=
  congrArg (fun x : State => { x with log := t.log, ports := t.ports, power := t.power
                                      carriers := t.carriers, placements := t.placements
                                      heads := t.heads, uplinks := t.uplinks, load := t.load }) h

/-! ## Messages and the alarm log -/

theorem sendUnsolicited_sansLog (s : State) (p : Port) (m : Message) : (s.sendUnsolicited p m).sansLog = s.sansLog := by
  unfold State.sendUnsolicited
  split <;> rfl

theorem withLog_sansLog (s : State) (log : AlarmLog) (quiet : Option Link) :
    (s.withLog log quiet).sansLog = s.sansLog := by
  unfold State.withLog
  refine (forAll_keeps State.sansLog _ (fun l t => ?_) _ _).trans rfl
  dsimp only
  split
  · exact sendUnsolicited_sansLog _ _ _
  · rfl

theorem raise_sansLog (s : State) (k : AlarmKind) (x : Subject) (d : Nat) : (s.raise k x d).sansLog = s.sansLog := by
  unfold State.raise
  split
  · exact withLog_sansLog _ _ _
  · split
    · exact withLog_sansLog _ _ _
    · split
      · exact (withLog_sansLog _ _ _).trans (withLog_sansLog _ _ _)
      · rfl

theorem clear_sansLog (s : State) (k : AlarmKind) (x : Subject) (quiet : Option Link) :
    (s.clear k x quiet).sansLog = s.sansLog := by
  unfold State.clear
  split
  · rfl
  · split
    · exact withLog_sansLog _ _ _
    · rfl

/-! ## Recomputes -/

theorem startRecompute_sansPower (s : State) (h : Head) : (s.startRecompute h).sansPower = s.sansPower := rfl

theorem requestRecompute_sansPower (s : State) (h : Head) : (s.requestRecompute h).sansPower = s.sansPower := by
  unfold State.requestRecompute
  split <;> rfl

theorem requestOnce_sansPower (s s0 : State) (h : Head) : (s.requestOnce s0 h).sansPower = s.sansPower := by
  unfold State.requestOnce
  split
  · rfl
  · exact requestRecompute_sansPower s h

theorem handPower_sansPower (s s0 : State) (h : Head) (d : Nat) (b : Bool) :
    (s.handPower s0 h d b).sansPower = s.sansPower := by
  unfold State.handPower
  split
  · rfl
  · exact requestOnce_sansPower _ _ _

/-! ## Eligibility, orphans, exclusion -/

theorem evalOrphan_sansConfig (s : State) (c : Carrier) : (s.evalOrphan c).sansConfig = s.sansConfig := by
  unfold State.evalOrphan
  dsimp only
  split
  · rfl
  · split
    · exact (sansConfig_of_sansPower (sansPower_of_sansLog (raise_sansLog _ _ _ _))).trans rfl
    · exact (sansConfig_of_sansPower (sansPower_of_sansLog (clear_sansLog _ _ _ _))).trans rfl

theorem evalOrphans_sansConfig (s : State) : s.evalOrphans.sansConfig = s.sansConfig :=
  forAll_keeps State.sansConfig _ (fun c t => evalOrphan_sansConfig t c) _ _

theorem loseEligibility_sansConfig (s : State) (p : Placement) : (s.loseEligibility p).sansConfig = s.sansConfig := by
  unfold State.loseEligibility
  dsimp only
  split
  · exact (sansConfig_of_sansPower (sansPower_of_sansLog (clear_sansLog _ _ _ _))).trans rfl
  · rfl

theorem settle_sansConfig (s0 s1 : State) : (settle s0 s1).sansConfig = s1.sansConfig := by
  unfold settle
  refine (evalOrphans_sansConfig _).trans ?_
  refine (forAll_keeps State.sansConfig _
    (fun h t => sansConfig_of_sansPower (requestRecompute_sansPower t h)) _ _).trans ?_
  exact forAll_keeps State.sansConfig _ (fun p t => loseEligibility_sansConfig t p) _ _

theorem setExclusion_sansConfig (s : State) (h : Head) (c : Carrier) (x : Exclusion) :
    (s.setExclusion h c x).sansConfig = s.sansConfig := by
  unfold State.setExclusion
  split
  · rfl
  · split
    · rfl
    · dsimp only
      split
      · exact (sansConfig_of_sansPower (sansPower_of_sansLog (clear_sansLog _ _ _ _))).trans (settle_sansConfig _ _)
      · exact (sansConfig_of_sansPower (sansPower_of_sansLog (raise_sansLog _ _ _ _))).trans (settle_sansConfig _ _)

theorem retryPass_sansConfig (s : State) : s.retryPass.sansConfig = s.sansConfig :=
  forAll_keeps State.sansConfig _ (fun p t => by
    unfold State.retryPlacement
    split
    · rfl
    · split
      · exact setExclusion_sansConfig _ _ _ _
      · rfl) _ _

theorem testDelay_sansConfig (s : State) (h : Head) (c : Carrier) : (s.testDelay h c).sansConfig = s.sansConfig := by
  unfold State.testDelay
  split
  · rfl
  · split
    · rfl
    · split
      · exact setExclusion_sansConfig _ _ _ _
      · rfl

theorem delayChanged_sansConfig (s : State) (h : Head) : (s.delayChanged h).sansConfig = s.sansConfig := by
  unfold State.delayChanged
  dsimp only
  refine (retryPass_sansConfig _).trans ?_
  split
  · exact forAll_keeps State.sansConfig _ (fun p t => testDelay_sansConfig t h _) _ _
  · rfl

theorem capabilityChanged_sansConfig (s : State) (h : Head) : (s.capabilityChanged h).sansConfig = s.sansConfig :=
  forAll_keeps State.sansConfig _ (fun p t => by
    unfold State.testCapability
    split
    · rfl
    · split
      · rfl
      · split
        · exact setExclusion_sansConfig _ _ _ _
        · split
          · exact setExclusion_sansConfig _ _ _ _
          · rfl) _ _

theorem evalCreated_sansConfig (s : State) (h : Head) (c : Carrier) : (s.evalCreated h c).sansConfig = s.sansConfig := by
  unfold State.evalCreated
  split
  · exact setExclusion_sansConfig _ _ _ _
  · split
    · exact setExclusion_sansConfig _ _ _ _
    · rfl

/-! ## Head link transitions -/

theorem raiseHeld_sansHead (s : State) (h : Head) (k : AlarmKind) (d : Nat) : (s.raiseHeld h k d).sansHead = s.sansHead :=
  (sansHead_of_sansConfig (sansConfig_of_sansPower (sansPower_of_sansLog (raise_sansLog _ _ _ _)))).trans rfl

theorem clearHeld_sansHead (s : State) (h : Head) (k : AlarmKind) : (s.clearHeld h k).sansHead = s.sansHead := by
  unfold State.clearHeld
  split
  · exact (sansHead_of_sansConfig (sansConfig_of_sansPower (sansPower_of_sansLog (clear_sansLog _ _ _ _)))).trans rfl
  · rfl

theorem resetGuard_sansHead (s : State) (h : Head) : (s.resetGuard h).sansHead = s.sansHead :=
  (sansHead_of_sansConfig (sansConfig_of_sansPower (sansPower_of_sansLog (clear_sansLog _ _ _ _)))).trans rfl

theorem handOnLeave_sansHead (s s0 : State) (h : Head) : (s.handOnLeave s0 h).sansHead = s.sansHead := by
  unfold State.handOnLeave
  refine Eq.trans (rfl : _ = State.sansHead (((settle s0 s).delayChanged h).requestOnce s0 h)) ?_
  refine (sansHead_of_sansConfig (sansConfig_of_sansPower (requestOnce_sansPower _ _ _))).trans ?_
  exact sansHead_of_sansConfig ((delayChanged_sansConfig _ _).trans (settle_sansConfig _ _))

theorem leaveService_sansHead (s : State) (h : Head) (x : LinkState) : (s.leaveService h x).sansHead = s.sansHead := by
  unfold State.leaveService
  dsimp only
  refine (handOnLeave_sansHead _ _ _).trans ?_
  split
  · exact Eq.trans rfl (clearHeld_sansHead s h _)
  · rfl

theorem leaveFor_sansHead (s : State) (h : Head) (x : LinkState) : (s.leaveFor h x).sansHead = s.sansHead := by
  unfold State.leaveFor
  split
  · exact leaveService_sansHead s h x
  · rfl

theorem loseLink_sansHead (s : State) (h : Head) (d : Nat) : (s.loseLink h d).sansHead = s.sansHead :=
  Eq.trans rfl ((raiseHeld_sansHead _ _ _ _).trans (leaveService_sansHead _ _ _))

theorem enterFailed_sansHead (s : State) (h : Head) (d : Nat) : (s.enterFailed h d).sansHead = s.sansHead :=
  (leaveFor_sansHead _ _ _).trans (Eq.trans rfl (raiseHeld_sansHead _ _ _ _))

theorem enterService_sansHead (s : State) (h : Head) (d : Nat) : (s.enterService h d).sansHead = s.sansHead := by
  unfold State.enterService
  dsimp only
  refine (clearHeld_sansHead _ _ _).trans ((clearHeld_sansHead _ _ _).trans ?_)
  refine Eq.trans (rfl : _ = State.sansHead (State.requestOnce _ s h)) ?_
  refine (sansHead_of_sansConfig (sansConfig_of_sansPower (requestOnce_sansPower _ _ _))).trans ?_
  exact (sansHead_of_sansConfig ((delayChanged_sansConfig _ _).trans (settle_sansConfig _ _))).trans rfl

end Sys2Proof.Machine
end

