-- ==== Sys2Proof/Laws/Due.lean ====
section
/-!
SUPPORT. What taking a due thing can do, what is left where nothing is due, what a watch of a head link's timers and an
operator link interface's finding can do, and that raising and clearing do not look at the head links, the uplinks or what is due.
-/

namespace Sys2Proof.Machine

/-! ## Taking what is due -/

/-- Taking a due thing finds none and changes nothing, or takes the first of its kind and does it. -/
theorem takeDue_cases (s : State) (wanted : Due → Bool) :
    (s.due.find? wanted = none ∧ s.takeDue wanted = s) ∨
      ∃ d, s.due.find? wanted = some d ∧ s.takeDue wanted = (s.setDue (s.due.erase d)).perform d := by
  unfold State.takeDue
  split
  · exact .inl ⟨‹_›, rfl⟩
  · exact .inr ⟨_, ‹_›, rfl⟩

/-- The front of what is due is taken where it is wanted. -/
theorem takeDue_front {s : State} {d : Due} {rest : List Due} {wanted : Due → Bool} (h : s.due = d :: rest)
    (hw : wanted d = true) : s.takeDue wanted = (s.setDue rest).perform d := by
  simp [State.takeDue, h, hw]

/-- Where nothing is due, nothing is taken. -/
theorem takeDue_idle {s : State} (h : s.due = []) (wanted : Due → Bool) : s.takeDue wanted = s := by
  simp [State.takeDue, h]

/-- A state with nothing due is itself with its dues emptied. -/
theorem setDue_idle {s : State} (h : s.due = []) : s.setDue [] = s := by
  cases s; cases h; rfl

theorem performAll_idle {s : State} (h : s.due = []) (n : Nat) : s.performAll n = s := by
  induction n with
  | zero => rfl
  | succ n ih => simp [State.performAll, h, forAll, setDue_idle h, ih]

/-- Where nothing is due, the flush before a boundary, a sample period or a RESTART changes nothing. -/
theorem flushDue_idle {s : State} (h : s.due = []) : s.flushDue = s := performAll_idle h 9

theorem voidAnswers_idle {s : State} (h : s.due = []) : s.voidAnswers = s := by
  simp [State.voidAnswers, h, setDue_idle h]

theorem beforeRestart_idle {s : State} (h : s.due = []) : s.beforeRestart = s := by
  simp [State.beforeRestart, voidAnswers_idle h, flushDue_idle h, setDue_idle h]

/-- Where no trigger's answer is due, none is taken. -/
theorem answerNext_idle {s : State} (h : s.due.find? Due.isAnswer = none) : s.answerNext = s := by
  simp [State.answerNext, h]

theorem answerAll_idle {s : State} (h : s.due.find? Due.isAnswer = none) : s.answerAll = s := by
  unfold State.answerAll
  induction allTriggers with
  | nil => rfl
  | cons t rest ih => exact (congrArg (forAll rest fun _ u => u.answerNext) (answerNext_idle h)).trans ih

/-- A revalidation before which no window end has begun is the revalidation alone (R155). -/
theorem revalidateDue_idle {s : State} (h : s.due.find? Due.isAnswer = none) (k : SlotIndex) (n : Nat) :
    s.revalidateDue k n = s.revalidate k n := by
  rw [State.revalidateDue, answerAll_idle h]

/-- SET_LOAD_WINDOW finds no window end to take where none is due. -/
theorem takeWindowEnd_idle {s : State} (h : .loadWindow ∉ s.due) : s.takeWindowEnd = s := by
  simp [State.takeWindowEnd, h]

/-! ## The timers of a head link -/

/-- A timer passes a maximum only short of the lost limit (R104). -/
theorem HeadSettings.passedBy_iff (x : HeadSettings) (ms : Nat) :
    x.passedBy ms = true ↔ x.reportMax < ms ∧ x.reportMax < x.lostLimit := by
  simp [HeadSettings.passedBy]

/-- The watch of the report period maximum does nothing, or the running timer passes the maximum for the first time. -/
theorem watchMaximum_cases (s : State) (h : Head) :
    s.watchMaximum h = s ∨ ∃ start, s.heads[h].reportTimer = some start ∧
      s.heads[h].settings.passedBy (s.reportMs start) = true ∧ s.heads[h].latePassed = false ∧
      s.watchMaximum h = s.passMaximum h := by
  unfold State.watchMaximum
  cases ht : s.heads[h].reportTimer with
  | none => exact .inl rfl
  | some start =>
    dsimp only
    split
    · rename_i hp
      simp only [Bool.and_eq_true, Bool.not_eq_true'] at hp
      exact .inr ⟨start, rfl, hp.1, hp.2, rfl⟩
    · exact .inl rfl

/-- The watch of the report lost limit does nothing, or the running timer has reached the limit. -/
theorem watchLost_cases (s : State) (h : Head) :
    s.watchLost h = s ∨ ∃ start, s.heads[h].reportTimer = some start ∧
      s.heads[h].settings.lostLimit ≤ s.reportMs start ∧ s.watchLost h = s.loseReports h := by
  unfold State.watchLost
  cases ht : s.heads[h].reportTimer with
  | none => exact .inl rfl
  | some start =>
    dsimp only
    split
    · exact .inr ⟨start, rfl, ‹_›, rfl⟩
    · exact .inl rfl

/-- The watch of the blip limit does nothing, or the running light timer has reached the limit. -/
theorem watchLight_cases (s : State) (h : Head) :
    s.watchLight h = s ∨ ∃ start, s.heads[h].lightTimer = some start ∧
      s.heads[h].settings.blipLimit ≤ s.lightMs start ∧ s.watchLight h = s.loseLight h := by
  unfold State.watchLight
  cases ht : s.heads[h].lightTimer with
  | none => exact .inl rfl
  | some start =>
    dsimp only
    split
    · exact .inr ⟨start, rfl, ‹_›, rfl⟩
    · exact .inl rfl

/-! ## Operator links -/

/-- The two conditions of R179. -/
theorem LinkRecord.fit_iff (x : LinkRecord) : x.fit = true ↔ ∃ d, x.alignment = some d ∧ -250 ≤ d ∧ d ≤ 250 := by
  unfold LinkRecord.fit
  cases x.alignment with
  | none => simp
  | some d =>
    simp only [Bool.and_eq_true, decide_eq_true_eq, Option.some.injEq, exists_eq_left']
    rfl

/-- What an interface finds either leaves its link as it is, brings a DOWN link UP or takes an UP link DOWN (R179). -/
theorem followLink_cases (s : State) (l : Link) (a : Option Int) :
    let t := s.modLink l fun x => { x with alignment := a }
    (s.linkUp l = t.links[l].fit ∧ s.followLink l a = t) ∨
      (s.linkUp l = false ∧ t.links[l].fit = true ∧ s.followLink l a = t.linkCameUp l) ∨
      (s.linkUp l = true ∧ t.links[l].fit = false ∧
        s.followLink l a = t.linkDown l (if a.isNone then .framing else .alignment)) := by
  simp only [State.followLink]
  generalize hf : LinkRecord.fit _ = f
  cases hu : s.linkUp l <;> cases f <;> simp

/-! ## Raising and clearing look at the log, the ports and the placements -/

/-- What commutes with each operation of a list commutes with the whole list. -/
theorem forAll_commutes {α : Type} (f : State → State) (g : α → State → State) (h : ∀ a t, g a (f t) = f (g a t))
    (l : List α) (s : State) : forAll l g (f s) = f (forAll l g s) := by
  induction l generalizing s with
  | nil => rfl
  | cons a l ih => exact (congrArg (forAll l g) (h a s)).trans (ih (g a s))

/-- A state with another set of head links, uplinks and dues. -/
def State.swapped (s : State) (heads : Vector HeadLink 16) (uplinks : Vector UplinkHead 16) (due : List Due) : State :=
  { s with heads := heads, uplinks := uplinks, due := due }

theorem sendUnsolicited_swapped (s : State) (x : Vector HeadLink 16) (y : Vector UplinkHead 16) (z : List Due) (p : Port)
    (m : Message) : (s.swapped x y z).sendUnsolicited p m = (s.sendUnsolicited p m).swapped x y z := by
  unfold State.sendUnsolicited
  have : ((s.swapped x y z).portOpen p && (s.swapped x y z).room p 1) = (s.portOpen p && s.room p 1) := rfl
  rw [this]
  split <;> rfl

theorem withLog_swapped (s : State) (x : Vector HeadLink 16) (y : Vector UplinkHead 16) (z : List Due) (log : AlarmLog)
    (quiet : Option Link) : (s.swapped x y z).withLog log quiet = (s.withLog log quiet).swapped x y z := by
  refine forAll_commutes (fun t => t.swapped x y z) _ ?_ allLinks (s.setLog log)
  intro l t
  have : (s.swapped x y z).log = s.log := rfl
  simp only [this]
  split
  · exact sendUnsolicited_swapped t x y z _ _
  · rfl

/-- A raise does not look at the head links, the uplinks or what is due, and leaves them alone. -/
theorem raise_swapped (s : State) (x : Vector HeadLink 16) (y : Vector UplinkHead 16) (z : List Due) (k : AlarmKind)
    (b : Subject) (d : Nat) : (s.swapped x y z).raise k b d = (s.raise k b d).swapped x y z := by
  unfold State.raise
  have hl : (s.swapped x y z).log = s.log := rfl
  rw [hl]
  cases s.log.find k b with
  | some ir => exact withLog_swapped s x y z _ none
  | none =>
    cases s.log.freeSlot with
    | some i => exact withLog_swapped s x y z _ none
    | none =>
      have ho : (s.swapped x y z).oldestCleared = s.oldestCleared := rfl
      simp only [ho]
      cases s.oldestCleared with
      | none => rfl
      | some i =>
        simp only [withLog_swapped]
        rfl

/-- A clear does not look at the head links, the uplinks or what is due, and leaves them alone. -/
theorem clear_swapped (s : State) (x : Vector HeadLink 16) (y : Vector UplinkHead 16) (z : List Due) (k : AlarmKind)
    (b : Subject) (quiet : Option Link) : (s.swapped x y z).clear k b quiet = (s.clear k b quiet).swapped x y z := by
  unfold State.clear
  have hl : (s.swapped x y z).log = s.log := rfl
  rw [hl]
  cases s.log.find k b with
  | none => rfl
  | some ir =>
    simp only
    split
    · exact withLog_swapped s x y z _ quiet
    · rfl

end Sys2Proof.Machine
end

