-- ==== Sys2Proof/Laws/Requests.lean ====
section
/-!
SUPPORT. A request on a ready port is taken up, carried out and answered in one step: what that step does, said once
for the requests that do not use the arbiter and once for those that do.
-/

namespace Sys2Proof.Machine

/-- What readiness says, field by field. -/
theorem ready_iff (s : State) (p : Port) (n : Nat) :
    s.ready p n = true ↔
      s.portOpen p = true ∧ s.ports[p].inService = none ∧ s.ports[p].queue = [] ∧
        s.ports[p].outgoing.length + n ≤ Config.outgoingQueueDepth := by
  simp [State.ready, PortRecord.idle, State.room, and_assoc]

/-- The port of a request that has been taken up. -/
theorem taken_port (s : State) (p : Port) (r : Request) :
    (s.taken p r).ports[p] =
      { s.ports[p] with queue := [], inService := some { message := r.toMessage, phase := .awaitingGrant, discarded := false } } := by
  simp [State.taken]

/-- The ports other than the one of a request that has been taken up. -/
theorem taken_other (s : State) (p q : Port) (r : Request) (h : q ≠ p) : (s.taken p r).ports[q] = s.ports[q] := by
  have hv : (p : Nat) ≠ q := fun e => h (Fin.ext e.symm)
  simp [State.taken, hv]

/-- A message on a ready port is taken up: it is the request in service, and the queue is empty again. -/
theorem enterRequest_arrive (s : State) (p : Port) (r : Request) (n : Nat) (h : s.ready p n = true) :
    (s.arrive p r.toMessage).enterRequest p = (s.taken p r).dispatch p r.toMessage := by
  obtain ⟨-, hi, hq, -⟩ := (ready_iff s p n).1 h
  simp only [Fin.getElem_fin] at hi hq
  simp [State.arrive, State.enterRequest, State.takeUp, State.taken, State.modPort, hi, hq, Config.requestQueueDepth]

/-- A request row on a ready port, up to the arbiter's choice. -/
theorem request_ready (s : State) (p : Port) (r : Request) (n : Nat) (h : s.ready p n = true) :
    s.request p r =
      if ((s.taken p r).dispatch p r.toMessage).arbiterChoice = some p then
        ((s.taken p r).dispatch p r.toMessage).arbiterGrant
      else (s.taken p r).dispatch p r.toMessage := by
  have he := enterRequest_arrive s p r n h
  obtain ⟨ho, hi, hq, -⟩ := (ready_iff s p n).1 h
  simp only [Fin.getElem_fin] at hi hq
  simp [State.request, ho, PortRecord.idle, hi, hq, he]

/-- A port that the arbiter would choose awaits its grant. -/
theorem awaitsGrant_of_choice {s : State} {p : Port} (h : s.arbiterChoice = some p) : s.ports[p].awaitsGrant = true :=
  List.find?_some (p := fun q : Port => s.ports[q].awaitsGrant) h

/-- A reply finds room: it joins the outgoing queue of its port and its request leaves service (R186, R188). -/
theorem deliver_reply (t : State) (p : Port) (a : Answer) (x : InService) (hx : t.ports[p].inService = some x)
    (hd : x.discarded = false) (ha : ∀ c, a ≠ .waits c)
    (hroom : t.ports[p].outgoing.length + (replyMessages x.message a).length ≤ Config.outgoingQueueDepth) :
    t.deliver p a =
      { t with ports := t.ports.set p { t.ports[p].sent (replyMessages x.message a) with inService := none } } := by
  simp only [Fin.getElem_fin] at hx hroom
  cases a with
  | waits c => exact absurd rfl (ha c)
  | reply y l =>
    simp [State.deliver, hx, hd, State.room, hroom, State.enqueue, State.endService, State.modPort, PortRecord.sent]
  | segmented l =>
    simp [State.deliver, hx, hd, State.room, hroom, State.enqueue, State.endService, State.modPort, PortRecord.sent]

/-- A request that does not use the arbiter, on a ready port, when what carries it out leaves that port alone: the
owner's new state, with the reply behind what the port had to send. -/
theorem request_direct (s t : State) (p : Port) (r : Request) (a : Answer)
    (h : s.ready p (replyMessages r.toMessage a).length = true)
    (hm : Message.malformed r.toMessage = false) (hu : Message.usesArbiter r.toMessage = false)
    (hr : Message.request r.toMessage = r) (hs : carryOut p r (s.taken p r) = (t, a))
    (hp : t.ports[p] = (s.taken p r).ports[p]) (ha : ∀ c, a ≠ .waits c) :
    s.request p r =
      { t with ports := t.ports.set p (s.ports[p].sent (replyMessages r.toMessage a)) } := by
  obtain ⟨-, hi, hq, hroom⟩ := (ready_iff s p _).1 h
  have hd : (s.taken p r).dispatch p r.toMessage =
      { t with ports := t.ports.set p (s.ports[p].sent (replyMessages r.toMessage a)) } := by
    have hx : t.ports[p].inService = some { message := r.toMessage, phase := .awaitingGrant, discarded := false } := by
      rw [hp, taken_port]
    have ho : t.ports[p].outgoing = s.ports[p].outgoing := by rw [hp, taken_port]
    have := deliver_reply t p a _ hx rfl ha (by rw [ho]; exact hroom)
    simp only [State.dispatch, hm, hu, Bool.false_eq_true, if_false, State.serve, hr, hs]
    rw [this, hp, taken_port, PortRecord.sent, PortRecord.sent, ← hi, ← hq]
  rw [request_ready s p r _ h, if_neg]
  · exact hd
  · intro hc
    have := awaitsGrant_of_choice hc
    rw [hd] at this
    simp only [Fin.getElem_fin] at hi
    simp [PortRecord.awaitsGrant, PortRecord.sent, hi] at this

/-- Every port stands once in the arbiter's cyclic order, wherever it begins. -/
theorem cyclic_find :
    ∀ l p : Port, [l + 1, l + 2, l + 3, l + 4, l].find? (fun q => decide (q = p)) = some p := by decide

/-- The arbiter chooses the port of a request just taken up when it is free and no other port waits (R187). -/
theorem arbiterChoice_taken (s : State) (p : Port) (r : Request) (h : s.arbiterFree = true)
    (hu : Message.usesArbiter r.toMessage = true) : (s.taken p r).arbiterChoice = some p := by
  have ho : ∀ q ≠ p, (s.taken p r).ports[q].awaitsGrant = false := by
    intro q hq
    rw [taken_other s p q r hq]
    have h2 := (Bool.and_eq_true _ _ ▸ h).2
    have := List.all_eq_true.1 h2 q (List.mem_finRange q)
    simpa using this
  have hp : (s.taken p r).ports[p].awaitsGrant = true := by
    rw [taken_port]
    simp [PortRecord.awaitsGrant, hu]
  have hsub : ∀ q, (s.taken p r).ports[q].awaitsGrant = decide (q = p) := by
    intro q
    by_cases hq : q = p
    · subst hq; exact hp.trans (by simp)
    · rw [ho q hq]; simp [hq]
  have hlast : (s.taken p r).arbiter = s.arbiter := rfl
  simp only [State.arbiterChoice, hsub, hlast, Arbiter.order]
  exact cyclic_find s.arbiter.last p

/-- A request that uses the arbiter, on a ready port with the arbiter free, when its owner answers it and leaves
that port alone: the owner's new state, the arbiter free again with this port last served, and the reply behind
what the port had to send. -/
theorem request_granted (s t : State) (p : Port) (r : Request) (a : Answer)
    (h : s.ready p (replyMessages r.toMessage a).length = true) (hf : s.arbiterFree = true)
    (hm : Message.malformed r.toMessage = false) (hu : Message.usesArbiter r.toMessage = true)
    (hr : Message.request r.toMessage = r)
    (hs : carryOut p r ((s.taken p r).setArbiter { s.arbiter with granted := some p }) = (t, a))
    (hp : t.ports[p] = (s.taken p r).ports[p]) (ha : ∀ c, a ≠ .waits c) :
    s.request p r =
      { t with arbiter := { granted := none, last := p }
               ports := t.ports.set p (s.ports[p].sent (replyMessages r.toMessage a)) } := by
  obtain ⟨-, hi, hq, hroom⟩ := (ready_iff s p _).1 h
  have hd : (s.taken p r).dispatch p r.toMessage = s.taken p r := by simp [State.dispatch, hm, hu]
  have hg : s.arbiter.granted = none := by
    simp only [State.arbiterFree, Bool.and_eq_true, Option.isNone_iff_eq_none] at hf
    exact hf.1
  have hc := arbiterChoice_taken s p r hf hu
  rw [request_ready s p r _ h, hd, if_pos hc]
  have hg' : (s.taken p r).arbiter.granted = none := hg
  simp only [State.arbiterGrant, hg', hc]
  have hin : (s.taken p r).ports[p].inService =
      some { message := r.toMessage, phase := .awaitingGrant, discarded := false } := by rw [taken_port]
  simp only [State.grant, hin, hr]
  have hta : (s.taken p r).arbiter = s.arbiter := rfl
  rw [hta, hs]
  have hx : (t.setArbiter { granted := none, last := p }).ports[p].inService =
      some { message := r.toMessage, phase := .awaitingGrant, discarded := false } := by
    show t.ports[p].inService = _
    rw [hp, taken_port]
  have ho : (t.setArbiter { granted := none, last := p }).ports[p].outgoing = s.ports[p].outgoing := by
    show t.ports[p].outgoing = _
    rw [hp, taken_port]
  rw [deliver_reply _ p a _ hx rfl ha (by rw [ho]; exact hroom)]
  have hpp : (t.setArbiter { granted := none, last := p }).ports[p] = (s.taken p r).ports[p] := hp
  rw [hpp, taken_port, PortRecord.sent, PortRecord.sent, ← hi, ← hq]
  rfl

end Sys2Proof.Machine
end

