-- ==== Sys2Proof/WellFormed.lean ====
section
/-!
DEFINITION. Which commands can be sent as messages at all: the checks a command's operands meet before the
part sees them. A command that fails one is still given a meaning; it is not one that a port can deliver.
-/

namespace Sys2Proof

/-- A message that arrives whole has as many payload bytes as its length byte says (R183). -/
def Message.wf (m : Message) : Bool := m.payload.length == m.lengthByte.toNat

/-- The payload length that a request with this command's operands has, where it can vary. -/
def Instr.payloadLength : Instr → Nat
  | .bind _ _ sectors => 1 + sectors.length
  | .planEdit _ _ _ entries => 2 + 2 * entries.length
  | .post _ _ payload => 1 + payload.length
  | _ => 0

/-- A command is well formed when a port can deliver it: an arriving message is whole (R183), and a request
row's payload fits a message of at most 62 payload bytes (R183). -/
def Instr.wf (i : Instr) : Bool :=
  match i with
  | .requestArrival _ m _ => m.wf
  | i => decide (i.payloadLength ≤ Config.payloadMax)

end Sys2Proof
end

