-- ==== Sys2Proof/Tests/Slice0.lean ====
section
/-!
SUPPORT. The model's own tests: the smoke tests of WellFormed, the spec's worked examples (each comment names the
chapter whose figures are expected), and for every obligation with hypotheses a state and operands that meet them.
-/

set_option Elab.async false

open Sys2Proof Sys2Proof.Machine

namespace Sys2Proof.Tests

/-! ## Well-formed commands -/

theorem test_wf_message_whole : (Instr.requestArrival 0 ⟨40, 1, [7]⟩ true).wf = true := by decide

theorem test_wf_refuses_a_short_message : (Instr.requestArrival 0 ⟨40, 2, [7]⟩ true).wf = false := by decide

theorem test_wf_payload_at_the_limit : (Instr.post 4 0 (List.replicate 61 1)).wf = true := by decide

theorem test_wf_refuses_a_long_payload : (Instr.post 4 0 (List.replicate 62 1)).wf = false := by decide

theorem test_wf_refuses_a_long_edit : (Instr.planEdit 4 0 0 (List.replicate 31 (0, 0))).wf = false := by decide

theorem test_wf_refuses_a_long_bind : (Instr.bind 0 0 (List.replicate 62 0)).wf = false := by decide

/-- No row of the table gives bits. -/
theorem test_decode_spells_nothing : decodeTableWord 16 0 = none := by decide

/-! ## Worked examples of the spec -/

/-- Chapter 3, worked cases: OL0 has weight 2, OL1 to OL3 have weight 1. -/
def weights : Vector Nat 4 := ⟨#[2, 1, 1, 1], rfl⟩

def requests : List (Carrier × Nat) := [(0, 800), (1, 400), (4, 600), (8, 300)]

theorem test_division_case_1 : requests.map (grantOf 2000 requests weights) = [755, 377, 566, 300] := by decide +kernel

theorem test_steps_case_1 : [chooseStep 800 755, chooseStep 400 377, chooseStep 600 566, chooseStep 300 300] =
    [some 1, some 1, some 1, some 0] := by decide +kernel

/-- Case 2: C8 asks for 500 mW. -/
theorem test_division_case_2 :
    let l : List (Carrier × Nat) := [(0, 800), (1, 400), (4, 600), (8, 500)]
    l.map (grantOf 2000 l weights) = [666, 333, 500, 500] := by decide +kernel

/-- Case 3: derate 4. -/
theorem test_division_case_3 : requests.map (grantOf 1000 requests weights) = [333, 166, 250, 250] ∧
    chooseStep 800 333 = some 8 ∧ chooseStep 300 250 = some 2 := by decide +kernel

/-- Case 4: starvation, with equal weights and with no weights. -/
theorem test_division_case_4 :
    let l : List (Carrier × Nat) := [(2, 8000), (13, 100)]
    l.map (grantOf 200 l (Vector.replicate 4 1)) = [100, 100] ∧ chooseStep 8000 100 = none ∧ chooseStep 100 100 = some 0 ∧
    l.map (grantOf 200 l (Vector.replicate 4 0)) = [197, 2] ∧ chooseStep 8000 197 = none ∧ chooseStep 100 2 = none := by
  decide +kernel

/-- Chapter 4, R67: step 2 takes 1000 to 891 and −1000 to −891. -/
theorem test_scaling : scaleComponent 1000 2 = 891 ∧ scaleComponent (-1000) 2 = -891 := by decide +kernel

/-- Chapter 4, worked case: C6 on three heads. -/
theorem test_combining :
    let i : List (BitVec 16 × Nat) := [(1000, 64), (-2000, 64), (30000, 128)]
    let q : List (BitVec 16 × Nat) := [(500, 64), (700, 64), (-400, 128)]
    combineComponent i 1 = 29500 ∧ combineComponent q 1 = 200 ∧ combineComponent i 0 = 32767 ∧
    combineComponent q 0 = 400 ∧ saturated i 0 = 1 ∧ saturated i 1 = 0 := by decide +kernel

/-- The same case while the third head's slip gate is closed. -/
theorem test_combining_after_a_slip :
    combineComponent [(1000, 64), (-2000, 64)] 1 = -500 ∧ combineComponent [(500, 64), (700, 64)] 1 = 600 := by
  decide +kernel

/-- Chapter 11, the anchor path: 20000 at step 20, and three heads combined with shift 4. -/
theorem test_anchor : scaleComponent 20000 20 = 6324 ∧ combineComponent [(1000, 64), (2000, 64), (-500, 64)] 4 = 156 := by
  decide +kernel

/-- Chapter 5, fibre length at d = 1225 du. -/
theorem test_fibre_length : fibreLength 4 1225 = 1000 ∧ fibreLength 0 1225 = 1042 ∧ fibreLength 11 1225 = 933 := by decide

/-- Chapter 5, bringing up H6: attempt 1 fails with reason 1, attempt 2 gives 1226 du and 1000 m. -/
theorem test_attempts : judgeAttempt [2751, 2755, 2752, 2752] (some 300) = .inr 1 ∧
    judgeAttempt [2752, 2753, 2751, 2752] (some 300) = .inl 1226 ∧ fibreLength 4 1226 = 1000 := by decide

/-- Chapter 2, admission on H7: C4 at U4, C14 at U6, C9 at U1. -/
def h7Cell : State :=
  { State.reset with
    lanes := State.reset.lanes.set 7 ⟨#[.owned 2, .owned 13, .owned 6, .owned 6, .owned 8, .owned 8, .owned 8, .owned 8], rfl⟩
    heads := State.reset.heads.set 7 { HeadLink.reset with state := .up, capability := .yes, delay := some 520 }
    carriers := (State.reset.carriers.set 4 { CarrierRecord.reset with width := .medium }).set 14
      { CarrierRecord.reset with width := .medium } }

theorem test_admission : h7Cell.admission 7 [8, 13] [4, 9, 14] (fun _ => [7]) = .admitted [(4, 4), (14, 6), (9, 1)] := by
  decide +kernel

/-- Chapter 7, halftime: floors of 100 × busy / present. -/
theorem test_loads : (loadOf 2230 3500).load = 63 ∧ (loadOf 700 960).load = 72 ∧ (loadOf 2260 2960).load = 76 := by decide

/-! ## A small cell to run commands on -/

/-- All operator links UP, their markers on the boundary. -/
def linked : State :=
  { State.reset with links := Vector.replicate 4 { up := true, cause := none, alignment := some 0 } }

/-- H3 UP with delay 98 du: a head link after bring-up. -/
def upHead : HeadLink :=
  { HeadLink.reset with
    state := .up, capability := .yes, latency := some 20, delay := some 98, fibre := some 80, framerLock := true
    report := some { derate := 0, paOff := false, overTemp := false, supply := false, paFault := false }
    reportTimer := some 0, watched := true, remeasureCount := 6000 }

/-- The placement of C0 on H3, RADIATING at its request. -/
def placed : Placement :=
  { newPlacement 3 0 0 1 with outcome := .radiating, grant := 1000, step := 0, basis := some 1000, inUse := 0 }

/-- C0 bound to S2, in which H3 stands, and radiating there in RUN. -/
def cell : State :=
  { linked with
    mode := .run
    carriers := State.reset.carriers.set 0 { CarrierRecord.reset with declared := true, power := 1000, active := [2] }
    sectorMap := State.reset.sectorMap.set 3 (some 2)
    lanes := State.reset.lanes.set 3 ((Vector.replicate 8 .free).set 0 (.owned 0))
    placements := [placed]
    power := State.reset.power.set 3 { PowerHead.reset with effective := 2000 }
    uplinks := State.reset.uplinks.set 3 { UplinkHead.reset with running := true, groups := List.replicate 32 zeroGroup }
    heads := State.reset.heads.set 3 upHead }

/-- The cell with H3's link changed. -/
def cellHead (f : HeadLink → HeadLink) : State := cell.modHead 3 f

/-- The cell with one thing due and one more behind it. -/
def cellDue (s : State) (d : Due) : State := s.setDue [d, .loadWindow]

/-- A step answers a next state of which p holds. -/
def after (i : Instr) (s : State) (p : State → Bool) : Bool :=
  match exec i s with
  | .next t => p t
  | .fault _ => false
  | .refused _ => false

/-- Chapter 9, the notice race: OL1 is seen at its summary, pending anew after the merge. -/
theorem test_notice_race :
    let s := { cell with placements := [newPlacement 3 4 0 1] }
    let t := (s.raise .headFault (.head 3) 16).setLog ((s.raise .headFault (.head 3) 16).summarised 1)
    let u := t.raise .headFault (.head 3) 18
    (t.log.slots[0]).map (·.notices[(1 : Port)]) = some { pending := true, seen := true } ∧
    (u.log.slots[0]).map (·.notices[(1 : Port)]) = some { pending := true, seen := false } ∧
    (u.log.slots[0]).map (·.count) = some 2 ∧ u.ports[(1 : Port)].outgoing.length = 1 := by decide +kernel

/-- Chapter 10, four ports at the arbiter: after OL1 the DECLARE of OL2 is granted before OL0 and MP. -/
theorem test_arbiter_order :
    let x : PortRecord := { PortRecord.reset with
      inService := some { message := (Request.withdraw 0).toMessage, phase := .awaitingGrant, discarded := false } }
    State.arbiterChoice { linked with ports := ((linked.ports.set 0 x).set 2 x).set 4 x, arbiter := { granted := none, last := 1 } } =
      some 2 := by decide +kernel

/-- Chapter 11: two marks 2,500,120 du apart lock the unit at the second. -/
theorem test_marks_lock :
    after (.timingMark 9500120) { State.reset with timing := { State.reset.timing with candidate := some 7000000 } }
      (fun t => decide (t.timing.state = .locked ∧ t.timing.period = 2500120)) = true := by decide +kernel

/-- R195: START in RUN is refused NOT_RUNNING, from an operator NOT_PERMITTED. -/
theorem test_start_refusals :
    after (.start 4) cell (fun t => decide (t.ports[Port.mp].outgoing = [⟨176, 1, [20]⟩])) = true ∧
    after (.start 0) cell (fun t => decide (t.ports[(0 : Port)].outgoing = [⟨176, 1, [2]⟩])) = true := by decide +kernel

/-- R31: a HOLD takes the grants at once. -/
theorem test_hold_takes_grants : after (.hold 4) cell (fun t => decide (t.placements.map (·.grant) = [0])) = true := by
  decide +kernel

/-- R45: a budget above 8000 is clamped. -/
theorem test_budget_clamped :
    after (.setBudget 4 3 65535) cell (fun t => decide (t.ports[Port.mp].outgoing = [⟨136, 4, [0, 3, 31, 64]⟩])) = true := by
  decide +kernel

/-- Log entry 13: an empty queue idles; and the front command goes first. -/
theorem witness_StepTakesTheFrontCommand :
    step State.reset = .next State.reset ∧
    step { State.reset with pending := [.resetAssert, .resetRelease] } =
      exec .resetAssert { State.reset with pending := [.resetRelease] } := by
  constructor
  · rfl
  · rfl

/-! ## Witnesses: the hypotheses of each obligation, met at boundary values -/

/-- A port whose queues stand at their limits. -/
def fullPort : PortRecord :=
  { PortRecord.reset with queue := List.replicate 8 Request.take.toMessage, outgoing := List.replicate 16 Request.take.toMessage }

def fullPorts : State := { cell with ports := Vector.replicate 5 fullPort, pending := [.lockLost 3] }

/-- Buffers at their limits: 64 groups, marks 1 and 31, slip gate 2. -/
def fullBuffers : State :=
  cell.modUplink 3 fun x =>
    { x with running := true, groups := List.replicate 64 zeroGroup, almostEmpty := 1, almostFull := 31, slipGate := 2 }

theorem witness_EveryStepKeepsTheQueuePeriodAndBufferLimits :
    (fullPorts.queueLimits ∧ after (.lockLost 3) { fullPorts with pending := [] } (fun _ => true) = true) ∧
    (let s := { cell with timing := { cell.timing with period := 2497500, state := .locked } }
     s.periodInRange ∧ after (.timingMark 2502500) s (fun _ => true) = true) ∧
    (fullBuffers.bufferLimits ∧ after (.slipGateOpen 3) fullBuffers (fun _ => true) = true) := by
  unfold State.queueLimits State.periodInRange State.bufferLimits UplinkHead.limits; decide +kernel

/-- A log with one ACTIVE condition about H3. -/
def logged : State := cell.raise .headFault (.head 3) 16

/-- A log with at most one record, in slot 0, is sound where the record is, as a check. -/
def oneSound (log : AlarmLog) : Bool :=
  ((List.finRange 64).all fun i => decide (i = 0) || decide (log.slots[i] = none)) &&
  ((log.slots[(0 : Fin 64)]).all fun r =>
    !(r.kind.isEvent && r.active) && decide (1 ≤ r.count ∧ r.count ≤ 255) && r.audience[Port.mp] &&
      allPorts.all fun p => r.audience[p] || decide (r.notices[p] = { pending := false, seen := false })) &&
  decide (log.dropped ≤ 255) && !log.full

theorem oneSound_sound {log : AlarmLog} (h : oneSound log = true) : log.sound := by
  simp only [oneSound, allPorts, Bool.and_eq_true, List.all_eq_true, List.mem_finRange, true_implies, Bool.or_eq_true,
    decide_eq_true_eq, Bool.not_eq_true', Option.all_eq_true, Bool.and_eq_false_iff] at h
  obtain ⟨⟨⟨others, record⟩, dropped⟩, full⟩ := h
  have only : ∀ (i : Fin 64) r, log.slots[i] = some r → i = 0 := by
    intro i r e
    rcases others i with z | z
    · exact z
    · rw [z] at e; cases e
  refine ⟨?_, ?_, dropped, ?_⟩
  · intro i r e
    obtain rfl := only i r e
    obtain ⟨⟨⟨event, count⟩, mp⟩, notices⟩ := record r e
    refine ⟨fun k => event.elim (fun n => absurd k (by simp [n])) id, count.1, count.2, mp, fun p a => ?_⟩
    rcases notices p with n | n
    · rw [a] at n; cases n
    · exact n
  · intro i j r q hi hj _ _
    rw [only i r hi, only j q hj]
  · intro e
    rw [full] at e; cases e

theorem logged_sound : logged.log.sound := oneSound_sound (by decide +kernel)

/-- An empty log. -/
theorem cell_sound : cell.log.sound := oneSound_sound (by decide +kernel)

theorem witness_EveryStepKeepsTheAlarmLogSound : logged.log.sound ∧ after (.take 4) logged (fun _ => true) = true :=
  ⟨logged_sound, by decide +kernel⟩

/-! ### Lanes, plans and grants in agreement -/

/-- Lanes, placements, bindings and the map agree, as a check that can be evaluated. -/
def agreeing (s : State) : Bool :=
  let covered (first units : Nat) (i : LaneIndex) := decide (first ≤ i.val) && decide (i.val < first + units)
  let runs (h : Head) (first units : Nat) (x : LaneUnit) :=
    (List.finRange 8).all fun i => !covered first units i || decide (s.lanes[h][i] = x)
  decide (s.placements.map fun p => (p.head, p.carrier)).Nodup &&
  (allHeads.all fun h => allCarriers.all fun c => (s.placement h c).isSome == (s.headSet c).contains h) &&
  (s.placements.all fun p =>
    let w := s.carriers[p.carrier].width
    decide (p.units = w.units) && w.starts.contains p.first && runs p.head p.first.val p.units (.owned p.carrier)) &&
  (allHeads.all fun h => (List.finRange 8).all fun i =>
    match s.lanes[h][i] with
    | .free => true
    | .owned c => s.placements.any fun p => decide (p.head = h ∧ p.carrier = c) && covered p.first.val p.units i
    | .reserved c =>
      (s.carriers[c].pending).any fun b => b.reserved.any fun r =>
        decide (r.head = h) && covered r.first.val s.carriers[c].width.units i) &&
  (allCarriers.all fun c =>
    (s.carriers[c].declared || !s.carriers[c].bound) &&
    (s.carriers[c].pending).all fun b =>
      decide (b.reserved.map (·.head) = s.gainingHeads c (headSetUnder s.sectorMap b.sectors)) &&
      b.reserved.all fun r =>
        let w := s.carriers[c].width
        w.starts.contains r.first && runs r.head r.first.val w.units (.reserved c))

theorem agreeing_lanes {s : State} (h : agreeing s = true) : s.lanesAgree := by
  simp only [agreeing, allHeads, allCarriers, Bool.and_eq_true, decide_eq_true_eq, List.all_eq_true, List.mem_finRange,
    true_implies, Bool.or_eq_true, Bool.not_eq_true', List.contains_iff_mem, beq_iff_eq, Bool.and_eq_false_iff,
    decide_eq_false_iff_not] at h
  obtain ⟨⟨⟨⟨unique, sets⟩, placed⟩, units⟩, carriers⟩ := h
  have run : ∀ {P : Prop} {a n : Nat} {i : LaneIndex},
      ((¬ a ≤ i.val ∨ ¬ i.val < a + n) ∨ P) → covers a n i → P := by
    rintro P a n i ((h | h) | h) ⟨h1, h2⟩
    · exact absurd h1 h
    · exact absurd h2 h
    · exact h
  refine ⟨unique, ?_, ?_, ?_, ?_, ?_, ?_⟩
  · intro x c
    rw [sets x c, List.contains_iff_mem]
  · intro p hp
    exact ⟨(placed p hp).1.1, (placed p hp).1.2, fun i => run ((placed p hp).2 i)⟩
  · intro x i c e
    have := units x i
    rw [e] at this
    simp only [List.any_eq_true, Bool.and_eq_true, decide_eq_true_eq] at this
    obtain ⟨p, hp, ⟨a, b⟩, d⟩ := this
    exact ⟨p, hp, a, b, d⟩
  · intro c b e
    have := (carriers c).2
    rw [e] at this
    simp only [Option.all_some, Bool.and_eq_true, decide_eq_true_eq, List.all_eq_true, List.contains_iff_mem,
      List.mem_finRange, true_implies, Bool.or_eq_true, Bool.not_eq_true', Bool.and_eq_false_iff,
      decide_eq_false_iff_not] at this
    exact ⟨this.1, fun r hr => ⟨(this.2 r hr).1, fun i => run ((this.2 r hr).2 i)⟩⟩
  · intro x i c e
    have := units x i
    rw [e] at this
    simp only [Option.any_eq_true, List.any_eq_true, Bool.and_eq_true, decide_eq_true_eq] at this
    obtain ⟨b, hb, r, hr, a, d⟩ := this
    exact ⟨b, hb, r, hr, a, d⟩
  · intro c e
    rcases (carriers c).1 with h | h
    · rw [e] at h; cases h
    · exact h

/-- At most one plan is pending and none while a binding is, no affected operator stands twice, and the due bindings name no carrier twice, as a check. -/
def planning (s : State) : Bool :=
  (allSlots.all fun j => allSlots.all fun k =>
    !(s.plans.slots[j].offer?.isSome && s.plans.slots[k].offer?.isSome) || decide (j = k)) &&
  !(s.planPending && s.bindingPending) &&
  (allSlots.all fun k => (s.plans.slots[k].offer?).all fun o => decide o.affected.Nodup) &&
  s.due.all fun d =>
    match d with
    | .bindingApply l => decide l.Nodup
    | _ => true

theorem planning_plans {s : State} (h : planning s = true) : s.plansAgree := by
  simp only [planning, allSlots, Bool.and_eq_true, List.all_eq_true, List.mem_finRange, true_implies, Bool.or_eq_true,
    Bool.not_eq_true', decide_eq_true_eq] at h
  obtain ⟨⟨⟨slots, pending⟩, offers⟩, due⟩ := h
  refine ⟨?_, ?_, ?_, ?_⟩
  · intro j k a b
    rcases slots j k with e | e
    · rw [a, b] at e; cases e
    · exact e
  · intro a
    simpa [a] using pending
  · intro k o e
    have := offers k
    rw [e] at this
    simpa using this
  · intro l hl
    simpa using due _ hl

/-- The grants stay within the budgets and belong to placements that take part, as a check. -/
def granting (s : State) : Bool :=
  (allHeads.all fun h => decide (((s.placementsOn h).map (·.grant)).sum ≤ s.power[h].effective)) &&
  (s.placements.all fun p => decide (p.grant = 0) || (s.eligible p &&
    (s.power[p.head].running).all fun x => x.writable.contains p.carrier && (x.entries.map (·.1)).contains p.carrier)) &&
  allHeads.all fun h => (s.power[h].running).all fun x => decide (x.entries.map (·.1)).Nodup

theorem granting_grants {s : State} (h : granting s = true) : s.grantsWithinBudget := by
  simp only [granting, allHeads, Bool.and_eq_true, List.all_eq_true, List.mem_finRange, true_implies, Bool.or_eq_true,
    decide_eq_true_eq, Option.all_eq_true, List.contains_iff_mem] at h
  obtain ⟨⟨sums, held⟩, entries⟩ := h
  refine ⟨sums, ?_, fun x y e => entries x y e⟩
  intro _ p hp n
  rcases held p hp with z | ⟨a, b⟩
  · exact absurd z n
  · exact ⟨a, fun x e => b x e⟩

/-- C0 leaves S2 for S4, in which H5 stands: its binding is pending and due, its BIND in service. -/
def bindingDue : State :=
  { (cell.modCarrier 0 fun x => { x with pending := some { sectors := [4], reserved := [{ head := 5, first := 7 }] } }) with
    sectorMap := cell.sectorMap.set 5 (some 4)
    lanes := cell.lanes.set 5 ((Vector.replicate 8 .free).set 7 (.reserved 0))
    ports := cell.ports.set 0 { PortRecord.reset with
      inService := some { message := (Request.bind 0 [4]).toMessage, phase := .awaitingBoundary 0, discarded := false } }
    due := [.bindingApply [0], .loadWindow] }

/-- C1, WIDE, gains H3 in a binding that is due; H3's capability is as given. -/
def wideDue (x : Capability) : State :=
  { ((cell.modHead 3 fun y => { y with capability := x }).modCarrier 1 fun y =>
      { y with declared := true, width := .wide, pending := some { sectors := [2], reserved := [{ head := 3, first := 4 }] } }) with
    lanes := cell.lanes.set 3 ⟨#[.owned 0, .free, .free, .free, .reserved 1, .reserved 1, .reserved 1, .reserved 1], rfl⟩
    due := [.bindingApply [1], .loadWindow] }

theorem witness_EveryStepKeepsLanesAndPlansInAgreement :
    bindingDue.lanesAgree ∧ bindingDue.plansAgree ∧
      after .bindingApply bindingDue (fun t => decide (t.carriers[(0 : Carrier)].active = [4])) = true :=
  ⟨agreeing_lanes (by decide +kernel), planning_plans (by decide +kernel), by decide +kernel⟩

/-- The delays of placements that are not EXCLUDED lie within the limit, as a check. -/
def spreading (s : State) : Bool :=
  s.placements.all fun p => s.placements.all fun q =>
    decide (p.carrier ≠ q.carrier ∨ p.exclusion ≠ .none ∨ q.exclusion ≠ .none) ||
      (s.heads[p.head].delay).all fun d => (s.heads[q.head].delay).all fun e => decide (d ≤ e + Config.spreadLimit)

theorem spreading_spread {s : State} (h : spreading s = true) : s.spreadWithinLimit := by
  simp only [spreading, List.all_eq_true, Bool.or_eq_true, decide_eq_true_eq, Option.all_eq_true] at h
  intro p hp q hq c x y d e hd he
  rcases h p hp q hq with (n | n | n) | n
  · exact absurd c n
  · exact absurd x n
  · exact absurd y n
  · exact n d hd e he

/-- The placements stand in order, and only WIDE ones are INCAPABLE, as a check. -/
def ordering (s : State) : Bool :=
  decide (s.placements.Pairwise fun p q => p.head < q.head ∨ (p.head = q.head ∧ p.carrier < q.carrier)) &&
  s.placements.all fun p => decide (p.exclusion ≠ .incapable ∨ s.carriers[p.carrier].width = .wide)

theorem ordering_order {s : State} (h : ordering s = true) : s.placementsInOrder ∧ s.incapableAreWide := by
  simp only [ordering, Bool.and_eq_true, decide_eq_true_eq, List.all_eq_true] at h
  exact ⟨h.1, fun p hp e => (h.2 p hp).elim (absurd e) id⟩

/-- H3, at 98 du, and H5, at the delay given, carry C0; H5's placement is excluded as given. A re-measure of H3 has three
markers back that give 94 du, and its last is out. -/
def twoHeads (far : Nat) (x : Exclusion) : State :=
  let out : List Marker := List.replicate 3 { sentFrame := 0, roundTrip := some 208 } ++ [{ sentFrame := 3, roundTrip := none }]
  { ((cellHead fun y => { y with markers := some out }).modHead 5 fun _ => { upHead with delay := some far }) with
    sectorMap := cell.sectorMap.set 5 (some 2)
    lanes := cell.lanes.set 5 ((Vector.replicate 8 .free).set 7 (.owned 0))
    placements := [placed, { newPlacement 5 0 7 1 with exclusion := x }] }

/-- C1, WIDE, stands on H3 beside C0, excluded and capable as given. -/
def wideOn (x : Exclusion) (y : Capability) : State :=
  { ((cell.modHead 3 fun z => { z with capability := y }).modCarrier 1 fun z =>
      { z with declared := true, width := .wide, active := [2] }) with
    lanes := cell.lanes.set 3 ⟨#[.owned 0, .free, .free, .free, .owned 1, .owned 1, .owned 1, .owned 1], rfl⟩
    placements := [placed, { newPlacement 3 1 4 4 with exclusion := x }] }

/-- The reasons of the placements, in order. -/
def reasons (t : State) : List Exclusion := t.placements.map (·.exclusion)

/-- The spread is at its limit of 1023 du; the new delay of H3, 94 du, is beyond it. -/
theorem witness_EveryStepKeepsTheSpreadWithinTheLimit :
    ((twoHeads 1121 .none).lanesAgree ∧ (twoHeads 1121 .none).plansAgree ∧ (wideOn .incapable .no).lanesAgree ∧
      (wideOn .incapable .no).plansAgree) ∧
    (twoHeads 1121 .none).spreadWithinLimit ∧ ((twoHeads 1121 .none).placementsInOrder ∧ (twoHeads 1121 .none).incapableAreWide) ∧
    ((wideOn .incapable .no).placementsInOrder ∧ (wideOn .incapable .no).incapableAreWide) ∧
    after (.markerReturn 3 3 208) (twoHeads 1121 .none) (fun t => decide (reasons t = [.window, .none])) = true ∧
    after (.lockLost 3) (wideOn .incapable .no) (fun t => decide (reasons t = [.none, .incapable])) = true :=
  ⟨⟨agreeing_lanes (by decide +kernel), planning_plans (by decide +kernel), agreeing_lanes (by decide +kernel),
    planning_plans (by decide +kernel)⟩, spreading_spread (by decide +kernel), ordering_order (by decide +kernel),
    ordering_order (by decide +kernel), by decide +kernel, by decide +kernel⟩

/-- A recompute of H3 runs on C0's request; the head's budget is used up by it. -/
def recomputing : State :=
  (cell.modPower 3 fun x => { x with nominal := 1000, effective := 1000 }).requestRecompute 3

theorem witness_EveryStepKeepsTheGrantsWithinTheBudgets :
    recomputing.lanesAgree ∧ recomputing.plansAgree ∧ recomputing.grantsWithinBudget ∧
      after (.recomputeComplete 3) recomputing (fun t => decide (t.placements.map (·.grant) = [1000])) = true :=
  ⟨agreeing_lanes (by decide +kernel), planning_plans (by decide +kernel), granting_grants (by decide +kernel),
    by decide +kernel⟩

theorem witness_EveryStepKeepsCountsAndLinksInAgreement :
    let s : State := { cell with
      load := { cell.load with heads := cell.load.heads.set 3 { LoadHead.reset with present := 7, busy := 7 } }
      links := ⟨#[{ up := true, cause := none, alignment := some 250 }, { up := false, cause := none, alignment := some 251 },
        { up := true, cause := none, alignment := some (-250) }, { up := false, cause := some .framing, alignment := none }], rfl⟩ }
    s.countsAndLinksAgree ∧ after (.operatorLinkUp { link := 0, offset := 251 }) s (fun t => !t.linkUp 0) = true := by
  refine ⟨⟨by decide +kernel, ?_⟩, by decide +kernel⟩
  intro l
  fin_cases l <;> simp

/-! ### Requests, power and admission -/

theorem witness_RequestsAreReadAsWritten :
    (Request.post 4 (List.replicate 61 9)).sound = true ∧ (Request.bind 0 []).sound = true ∧ Request.take.sound = true := by
  decide +kernel

theorem witness_TheDivisionFollowsBothPasses :
    2099 < (requests.map (·.2)).sum ∧ ((8 : Carrier), 300) ∈ requests ∧ 2 ∈ presentOperators requests ∧
    0 < (requests.map (·.2)).sum := by
  decide

theorem witness_RequestsThatFitAreGrantedInFull :
    (requests.map (·.2)).sum ≤ 2100 ∧ ((0 : Carrier), 800) ∈ requests := by decide

/-- A recompute of H3 runs on C0's request against 1 mW. -/
def starving : State :=
  (cell.modPower 3 fun x => { x with nominal := 1, effective := 1000 }).requestRecompute 3

/-- C0 is STARVED on H3, with CARRIER_STARVED raised, and a recompute with enough power runs. -/
def fed : State :=
  { recomputing with
    placements := [{ placed with outcome := .starved, grant := 0, step := 31, inUse := 31 }]
    log := (cell.raise .carrierStarved (.carrierHead 0 3) 0).log }

/-- The recompute installs C0's grant again; it leaves C0 starved where the nominal budget is 1; it runs afresh. -/
theorem witness_ARecomputeInstallsItsDivision :
    let x := recomputing.snapshot 3
    let again := recomputing.modPower 3 fun y => { y with again := true }
    (0 : Nat) < 8000 ∧ recomputing.mode ≠ .reset ∧ cell.power[(3 : Head)].running = none ∧
    recomputing.power[(3 : Head)].running = some x ∧ again.power[(3 : Head)].running = some x ∧
    again.power[(3 : Head)].again = true ∧ recomputing.power[(3 : Head)].again = false ∧
    (recomputing.placements.map fun p => (p.head, p.carrier)).Nodup ∧ (x.entries.map (·.1)).Nodup ∧
    (∀ p ∈ recomputing.placements, p.head = 3 ∧ p.carrier ∈ x.writable ∧ p.carrier ∈ x.entries.map (·.1) ∧
      recomputing.eligible p = true ∧ p.outcome ≠ .starved) ∧
    x.entries.map (grantOf 1000 x.entries x.weights) = [1000] ∧ chooseStep 1000 1000 = some 0 := by decide +kernel

/-- R62: C0 becomes STARVED at a grant of 1 mW, or ceases to be, and CARRIER_STARVED follows. -/
theorem witness_ARecomputeRaisesAndClearsStarvation :
    (starving.log.sound ∧ fed.log.sound) ∧
    after (.recomputeComplete 3) starving (fun t => decide (t.placements.map (fun p => (p.outcome, p.grant)) = [(.starved, 1)] ∧
      (t.log.find .carrierStarved (.carrierHead 0 3)).map (fun x => (x.2.active, x.2.detail)) = some (true, 1))) = true ∧
    after (.recomputeComplete 3) fed (fun t => decide (t.placements.map (·.outcome) = [.radiating] ∧
      (t.log.find .carrierStarved (.carrierHead 0 3)).map (·.2.active) = some false)) = true :=
  ⟨⟨oneSound_sound (by decide +kernel), oneSound_sound (by decide +kernel)⟩, by decide +kernel⟩

/-- H6 and H7 in service at delays e and 0; C4 is to be on both. -/
def apart (e : Nat) : State :=
  let at' (d : Nat) : HeadLink := { HeadLink.reset with state := .up, delay := some d }
  { State.reset with
    heads := (State.reset.heads.set 6 (at' e)).set 7 (at' 0)
    carriers := State.reset.carriers.set 4 { CarrierRecord.reset with declared := true } }

/-- C0 and C4 stay on H3 at U0 and U5, and the map that puts H3 into S3 brings C1, WIDE, which finds no aligned run. -/
def refusing : State :=
  { cell with
    carriers := ((cell.carriers.set 0 { CarrierRecord.reset with declared := true, power := 1000, active := [2, 3] }).set 1
      { CarrierRecord.reset with declared := true, width := .wide, active := [3] }).set 4
      { CarrierRecord.reset with declared := true, active := [2, 3] }
    placements := [placed, newPlacement 3 4 5 1]
    lanes := cell.lanes.set 3 ⟨#[.owned 0, .free, .free, .free, .free, .owned 4, .free, .free], rfl⟩ }

/-- The map that takes H3 out of every sector, and the one that puts it into S3. -/
def emptyMap : SectorMap := Vector.replicate 16 none

def thirdMap : SectorMap := emptyMap.set 3 (some 3)

theorem witness_AdmissionAndValidationFollowTheirRules :
    h7Cell.admission 7 [8, 13] [4, 9, 14] (fun _ => [7]) = .admitted [(4, 4), (14, 6), (9, 1)] ∧
    h7Cell.admission 7 [] [9] (fun _ => [7]) = .failed .laneFull 9 ∧
    h7Cell.admission 7 [13, 2] [1] (fun _ => [7]) = .admitted [(1, 0)] ∧
    refusing.admission 3 [] [1] (fun _ => [3]) = .failed .laneFragmented 1 ∧
    (refusing.modHead 3 fun x => { x with capability := .unknown }).admission 3 [] [1] (fun _ => [3]) = .failed .incapable 1 ∧
    ([6, 7] : List Head).Pairwise (· < ·) ∧ (apart 1023).delayFailure 4 [6, 7] = none ∧
    (apart 1024).delayFailure 4 [6, 7] = some 6 ∧
    (apart 1024).admission 6 [] [4] (fun _ => [6, 7]) = .failed .delaySpread 4 ∧
    cell.validateMap emptyMap = .valid [{ head := 3, departing := [0], newcomers := [] }] ∧
    refusing.validateMap thirdMap = .invalid { reason := .laneFragmented, head := some 3, carrier := some 1 } ∧
    cell.affectedSet emptyMap = [0] := by decide +kernel

theorem witness_BudgetsAndWeightsAreStoredAndRecomputed :
    cell.ready Port.mp 1 = true ∧ cell.power[(3 : Head)].nominal ≠ min 8000 (8001 : Half).toNat ∧
    cell.power[(3 : Head)].nominal = min 8000 (2000 : Half).toNat ∧ cell.weights[(0 : Link)] ≠ (255 : Byte).toNat ∧
    cell.weights[(0 : Link)] = (1 : Byte).toNat ∧ (∃ p ∈ cell.placements, p.head = 3 ∧ p.carrier.owner = 0) ∧
    ∀ p ∈ cell.placements, p.head = 3 → p.carrier.owner ≠ 1 := by decide +kernel

/-- R50: the snapshot that a new budget starts holds C0's request and what the budget, the weights and the last report are. -/
theorem witness_BudgetsAndWeightsAreStoredAndRecomputed_snapshot :
    let s := cellHead fun x => { x with report := some { derate := 3, paOff := false, overTemp := false, supply := false, paFault := false } }
    after (.setBudget 4 3 500) s (fun t => decide (t.power[(3 : Head)].running = some
      { entries := [(0, 1000)], writable := [0], weights := Vector.replicate 4 1, nominal := 500, derate := 3, paOff := false
        inService := true })) = true := by decide +kernel

/-! ### Settings, refusals and reading -/

/-- A mark of 31 slips the buffer at 33 groups and not at 32. -/
theorem witness_SwitchSettingsAreStored :
    let at33 := cell.modUplink 3 fun x => { x with groups := List.replicate 33 zeroGroup }
    cell.ready Port.mp 1 = true ∧ cell.uplinks[(3 : Head)].running = true ∧
    cell.uplinks[(3 : Head)].groups.length = 32 ∧ ¬ (32 ≤ clamp 1 31 31 ∨ 64 - clamp 1 31 255 ≤ 32) ∧
    at33.ready Port.mp 1 = true ∧ at33.uplinks[(3 : Head)].running = true ∧
    64 - clamp 1 31 255 ≤ at33.uplinks[(3 : Head)].groups.length := by decide +kernel

theorem witness_LoadAndConsentSettingsAreStored :
    let due := { cell with due := [.saturationWindow, .loadWindow], load := { cell.load with windowFrames := 500 } }
    cell.ready Port.mp 1 = true ∧ cell.due = [] ∧ cell.load.window = clamp 10 6000 500 ∧
    cell.load.window ≠ clamp 10 6000 9 ∧ due.ready Port.mp 1 = true ∧ .loadWindow ∈ due.due ∧
    due.load.windowFrames = due.load.window ∧ due.load.window ≠ clamp 10 6000 6001 ∧ due.room Port.mp 2 = true := by
  decide +kernel

theorem witness_VenueRequestsAreRefusedOnOperatorLinks :
    cell.ready (Port.ofLink 3) 1 = true ∧ cell.arbiterFree = true ∧ cell.ready Port.mp 1 = true ∧ (1 : Byte) ≠ 0 ∧
    1 ≤ ([(15, none)] : List (Head × Option Sector)).length ∧
    (List.replicate 16 ((15, some 11) : Head × Option Sector)).length ≤ 16 := by decide +kernel

theorem witness_NumbersOutOfRangeAreRefused : cell.ready 0 1 = true ∧ cell.ready Port.mp 1 = true ∧ cell.arbiterFree = true ∧
    16 ≤ (16 : Byte).toNat ∧ 2 ≤ (2 : Byte).toNat ∧ 4 ≤ (4 : Byte).toNat ∧ 8 ≤ (8 : Byte).toNat ∧ 64 ≤ (64 : Byte).toNat ∧
    3 ≤ (3 : Byte).toNat ∧ 12 ≤ (12 : Byte).toNat ∧ 5 ≤ (5 : Byte).toNat ∧ (254 : Byte) ≠ 255 ∧
    48 < (List.replicate 61 (0 : Byte)).length ∧ (List.replicate 61 (0 : Byte)).length ≤ 61 ∧
    12 < (List.replicate 13 (0 : Byte)).length ∧ 16 < (List.replicate 17 ((0, 0) : Byte × Byte)).length := by decide +kernel

theorem witness_ReadingChangesNothing :
    cell.ready 0 16 = true ∧ cell.ready Port.mp 16 = true ∧ cell.ready Port.mp 1 = true ∧ sees 0 3 = true ∧
    sees 0 4 = false ∧ cell.pendingPlan = none ∧ cell.plans.last = none := by decide +kernel

/-! ### The alarm log and the inboxes -/

/-- All 64 records ACTIVE. -/
def fullLog : State :=
  let record (i : Fin 64) := cell.created .carrierStarved (.carrierHead (Fin.ofNat 16 i.val) (Fin.ofNat 16 (i.val / 16))) 0
  cell.setLog { AlarmLog.reset with slots := Vector.ofFn fun i => some (record i) }

/-- The same log with record 5 CLEARED in this frame. -/
def clearedLog : State :=
  fullLog.clear .carrierStarved (.carrierHead 5 0)

theorem witness_RaisesAndClearsFollowTheLogsRules :
    (∃ x, logged.log.find .headFault (.head 3) = some x ∧ x.2.active = true ∧ x.2.kind.isEvent = false) ∧
    logged.log.find .headFailed (.head 3) = none ∧ logged.log.slots[(1 : Fin 64)] = none ∧
    (∀ j : Fin 64, j < 1 → logged.log.slots[j] ≠ none) ∧
    fullLog.log.find .headFault (.head 3) = none ∧
    (∀ i : Fin 64, (fullLog.log.slots[i]).any (·.active) = true) ∧
    clearedLog.log.find .headFault (.head 3) = none ∧ (∀ j : Fin 64, clearedLog.log.slots[j] ≠ none) ∧
    ((clearedLog.log.slots[(5 : Fin 64)]).map (·.clearFrame)) = some (some cell.timing.frame) ∧
    (∀ j : Fin 64, j ≠ 5 → (clearedLog.log.slots[j]).map (·.clearFrame) = some none) ∧
    (∃ x, (cell.raise .bufferSlip (.head 3) 8).log.find .bufferSlip (.head 3) = some x ∧ x.2.kind.isEvent = true) := by
  refine ⟨⟨(0, cell.created .headFault (.head 3) 16), ?_⟩, ?_, ?_, ?_, ?_, ?_, ?_, ?_, ?_, ?_,
    ⟨(0, cell.created .bufferSlip (.head 3) 8), ?_⟩⟩ <;> decide +kernel

/-- R175: the first raise about H3 takes OL0's composite from false to true, OL1 has no carrier there, and a merge of the
record takes no composite from false to true. -/
theorem test_attention_goes_to_new_composites :
    (cell.raise .headFault (.head 3) 16).ports[(0 : Port)].outgoing = [⟨98, 1, [1]⟩] ∧
    (cell.raise .headFault (.head 3) 16).ports[(1 : Port)].outgoing = [] ∧
    (logged.raise .headFault (.head 3) 16).ports[(0 : Port)].outgoing.length = 1 := by decide +kernel

/-- R170: of 64 records pending for MP sixteen are listed, the lowest slots where all changed in one frame. -/
theorem witness_SummariesReadsAndMasksConcernTheirReaderAlone_summary :
    fullLog.ready Port.mp 16 = true ∧ (fullLog.pendingRecords Port.mp).length = 64 ∧
    (fullLog.summaryEntries Port.mp).map (·.1) = (List.finRange 64).take 16 ∧
    logged.ready Port.mp 16 = true ∧ (logged.pendingRecords Port.mp).length = 1 := by decide +kernel

theorem witness_SummariesReadsAndMasksConcernTheirReaderAlone :
    let s := logged.setLog { logged.log with masks := logged.log.masks.set 0 0 }
    logged.ready 0 1 = true ∧ logged.log.slots[(63 : Fin 64)] = none ∧ s.ready 0 2 = true ∧ s.log.composite 0 = false ∧
    AlarmLog.composite { s.log with masks := s.log.masks.set 0 256 } 0 = true ∧
    ∃ r, logged.log.slots[(0 : Fin 64)] = some r ∧ r.audience[(0 : Port)] = true ∧ r.audience[(3 : Port)] = false := by
  refine ⟨by decide +kernel, by decide +kernel, by decide +kernel, by decide +kernel, by decide +kernel,
    ⟨cell.created .headFault (.head 3) 16, by decide +kernel⟩⟩

theorem witness_InboxesHoldOneMessageUntilItIsTaken :
    let s := cell.setInbox 0 (some { sender := Port.mp, payload := List.replicate 48 7 })
    cell.ready Port.mp 1 = true ∧ postPermitted Port.mp 0 = true ∧ postPermitted 0 1 = false ∧ cell.inboxes[(0 : Port)] = none ∧
    s.inboxes[(0 : Port)].isSome = true ∧ s.ready Port.mp 1 = true ∧ s.ready 0 1 = true ∧
    s.inboxes[(0 : Port)] = some { sender := Port.mp, payload := List.replicate 48 7 } := by decide +kernel

/-! ### Head links by request -/

theorem witness_HeadsAreEnabledAndDisabled :
    cell.ready Port.mp 1 = true ∧ cell.heads[(0 : Head)].state = .off ∧ cell.heads[(3 : Head)].state ≠ .off ∧
    cell.inService 3 = true := by decide +kernel

/-- R80, R90: HEAD_FAULT and UPLINK_NOISE of H3 are ACTIVE, and HEAD_DISABLE clears them. -/
theorem witness_HeadsAreEnabledAndDisabled_alarms :
    let faulty := { cellHead (fun x => { x with held := [.headFault] }) with log := logged.log }
    let noisy := { cell with log := (cell.raise .uplinkNoise (.head 3) 7).log }
    let active (k : AlarmKind) (t : State) : Bool := decide ((t.log.find k (.head 3)).map (·.2.active) = some false)
    (faulty.log.sound ∧ noisy.log.sound) ∧ faulty.ready Port.mp 1 = true ∧ noisy.ready Port.mp 1 = true ∧
    .headFault ∈ faulty.heads[(3 : Head)].held ∧
    after (.headDisable 4 3) faulty (active .headFault) = true ∧ after (.headDisable 4 3) noisy (active .uplinkNoise) = true :=
  ⟨⟨logged_sound, oneSound_sound (by decide +kernel)⟩, by decide +kernel⟩

/-- A request for H3's default settings with the smallest remeasure interval and the report period maximum given. -/
def fields (reportMax : Half) : HeadLinkFields :=
  { head := byteOf (3 : Head), hysteresis := 1, reportMin := 50, reportMax := reportMax, lostLimit := 1000, blipLimit := 20
    degradeThreshold := 16, clearThreshold := 4, failCount := 10, holdOff := 500, remeasure := 0, tolerance := 2, fibreCode := 11 }

theorem witness_HeadLinkSettingsAreStored :
    let x := (cell.heads[(3 : Head)]).settings
    let y := HeadLinkFields.settings (fields 250)
    let z := HeadLinkFields.settings (fields 300)
    let u (n : Nat) := cell.atMoment (n * 250000)
    y.hysteresis = x.hysteresis ∧ y.lostLimit = x.lostLimit ∧ y.blipLimit = x.blipLimit ∧ y.remeasure ≠ x.remeasure ∧
    y.reportMax = x.reportMax ∧ z.reportMax ≠ x.reportMax ∧ z.hysteresis = x.hysteresis ∧ z.lostLimit = x.lostLimit ∧
    z.blipLimit = x.blipLimit ∧ cell.ready Port.mp 1 = true ∧ (u 300).ready Port.mp 1 = true ∧
    (u 300).heads[(3 : Head)].reportTimer = some 0 ∧ (u 300).reportMs 0 ≤ z.reportMax ∧ z.reportMax < (u 301).reportMs 0 ∧
    z.reportMax < z.lostLimit := by
  decide +kernel

/-- R87, R104: each new limit that is met is acted on at once, one that is not yet met is not; a lost limit that is not
above the new maximum takes the head out with no REPORT_LATE, whichever of the two was met first. -/
theorem witness_HeadLinkSettingsAreStored_limits :
    let state (t : State) := t.heads[(3 : Head)].state
    let seeking := cellHead fun x => { x with state := .seek, lockedCount := 8, reportSeen := true }
    let dark := (cellHead fun x => { x with lightTimer := some 0 }).atMoment (10 * 250000)
    let at' (n : Nat) := cell.atMoment (n * 250000)
    after (.setHeadLink Port.mp { fields 250 with hysteresis := 2 }) seeking (fun t => state t = .measure) = true ∧
    after (.setHeadLink Port.mp { fields 250 with hysteresis := 3 }) seeking (fun t => state t = .seek) = true ∧
    after (.setHeadLink Port.mp { fields 250 with lostLimit := 300 }) (at' 300) (fun t => state t = .seek) = true ∧
    after (.setHeadLink Port.mp { fields 250 with lostLimit := 300 }) (at' 299) (fun t => state t = .up) = true ∧
    after (.setHeadLink Port.mp { fields 250 with blipLimit := 10 }) dark (fun t => state t = .seek) = true ∧
    after (.setHeadLink Port.mp { fields 250 with blipLimit := 11 }) dark (fun t => state t = .up) = true ∧
    after (.setHeadLink Port.mp { fields 300 with lostLimit := 299 }) (at' 301)
      (fun t => state t = .seek && (t.log.find .reportLate (.head 3)).isNone) = true ∧
    after (.setHeadLink Port.mp { fields 300 with lostLimit := 301 }) (at' 301)
      (fun t => state t = .seek && (t.log.find .reportLate (.head 3)).isSome) = true := by decide +kernel

/-- H3 in TEST with the framer locked, its checker as given. -/
def testing (x : TestState) : State := cellHead fun y => { y with state := .test, delay := none, fibre := none, test := x }

theorem witness_TestsAreStartedReadAndStopped :
    cell.ready Port.mp 1 = true ∧ cell.heads[(0 : Head)].state = .off ∧ cell.heads[(3 : Head)].state ≠ .off ∧
    cell.heads[(3 : Head)].state ≠ .test ∧ (testing TestState.reset).ready Port.mp 1 = true ∧
    (testing TestState.reset).heads[(3 : Head)].state = .test ∧ cell.inService 3 = true := by decide +kernel

/-- R99, R111: from DEGRADED the head leaves service into TEST, and HEAD_DEGRADED is cleared. -/
theorem witness_TestsAreStartedReadAndStopped_fromDegraded :
    let s := (cellHead fun x => { x with state := .degraded, held := [.headDegraded] }).setLog
      (cell.raise .headDegraded (.head 3) 16).log
    s.log.sound ∧ s.inService 3 = true ∧ after (.testStart Port.mp 3 1) s (fun t => decide (
      (t.heads[(3 : Head)].state = .test ∧ t.heads[(3 : Head)].held = [] ∧ t.heads[(3 : Head)].delay = none) ∧
      (t.log.find .headDegraded (.head 3)).map (·.2.active) = some false ∧ t.placements.map (·.grant) = [0])) = true :=
  ⟨oneSound_sound (by decide +kernel), by decide +kernel⟩

/-- The checker one clean word short of lock, and in LOCKED one word short of its maximum. -/
theorem witness_ReturnedWordsAreChecked :
    let near : TestState := { TestState.reset with reference := some 5, cleanRun := 63 }
    let locked (m : CountMode) : TestState :=
      { TestState.reset with reference := some 5, locked := true, checked := 4294967294, mode := m
                             history := List.replicate 15 true }
    (testing near).mode ≠ .reset ∧ (testing near).heads[(3 : Head)].state = .test ∧
    (testing near).heads[(3 : Head)].framerLock = true ∧ (testing near).heads[(3 : Head)].lightAbsent = false ∧
    near.locked = false ∧
    (testing (locked .single)).heads[(3 : Head)].test.locked = true ∧ (locked .continuous).stopped = false ∧
    (locked .single).checked + 1 = 4294967295 ∧ (appendHistory (locked .single).history true).countP id = 16 ∧
    TestState.reset.checked + 1 < 4294967295 ∧ (65534 : Nat) ≤ 65535 ∧ min 65535 (65534 + 1) = 65535 := by decide +kernel

/-- R116: with matching parity bits the predicted word is clean; with any one of the four bits wrong, or a data bit, it is
errored, whatever the sense of the parity. -/
theorem witness_ReturnedWordsAreChecked_parity (flip : BitVec 4) (h : flip ≠ 0) :
    let near : TestState := { TestState.reset with reference := some 5, cleanRun := 63 }
    let w := (patternWord 5).1
    near.clean w (parityBits w) = true ∧ near.clean w (parityBits w ^^^ flip) = false ∧ near.clean 0 (parityBits 0) = false := by
  have other : decide ((patternWord 5).1 = 0) = false := by decide +kernel
  simp only [TestState.clean, parityFails_parityBits, parityFails_xor, decide_eq_true h, other]
  decide

/-- R118: the errored word that brings errored words to 65535 stops the counting in SINGLE; in CONTINUOUS they hold there while
checked words run on. -/
theorem test_errored_words_reach_their_maximum :
    let x (m : CountMode) (n : Nat) : TestState := { TestState.reset with mode := m, locked := true, checked := 70000, errored := n }
    let shown (y : TestState) := (y.checked, y.errored, y.wraps, y.stopped)
    shown ((x .single 65534).countWord true) = (70001, 65535, 0, true) ∧
    shown ((x .single 65534).countWord false) = (70001, 65534, 0, false) ∧
    shown ((x .continuous 65534).countWord true) = (70001, 65535, 0, false) ∧
    shown ((x .continuous 65535).countWord true) = (70001, 65535, 0, false) := by decide

/-! ### Carriers and bindings -/

/-- C1 is declared NARROW and unbound; nothing is pending. -/
def declared1 : State := cell.modCarrier 1 fun x => { x with declared := true }

/-- A plan for OL0, with the plan number at its maximum. -/
def offered : Offer :=
  { verdictFrame := 0, layout := [{ head := 3, departing := [0], newcomers := [] }], affected := [0], number := 255
    source := .mp, answers := Vector.replicate 4 .none }

/-- The plan is in CONSENT; the plan is in COMMIT_WAIT. -/
def asking (n : Nat) : State := cell.setSlot 0 (.consent emptyMap offered n)

def waiting : State := cell.setSlot 0 (.commitWait emptyMap offered)

theorem witness_CarriersAreDeclaredAndWithdrawn :
    let held := declared1.setSlot 3 (.commitWait emptyMap offered)
    cell.ready 0 1 = true ∧ cell.arbiterFree = true ∧ ownedBy 0 4 = false ∧ ownedBy 0 0 = true ∧ ownedBy 0 1 = true ∧
    cell.carriers[(1 : Carrier)].declared = false ∧ cell.carriers[(0 : Carrier)].declared = true ∧
    cell.carriers[(0 : Carrier)].width = .narrow ∧ cell.carriers[(0 : Carrier)].active ≠ [] ∧
    cell.carriers[(0 : Carrier)].power ≠ clamp 1 8000 8001 ∧ cell.carriers[(0 : Carrier)].power = clamp 1 8000 1000 ∧
    (cell.placements.map fun q => (q.head, q.carrier)).Nodup ∧ (cell.placement 3 0).isSome = true ∧
    (cell.placement 5 0).isSome = false ∧ declared1.ready 0 1 = true ∧ declared1.arbiterFree = true ∧
    declared1.carriers[(1 : Carrier)].declared = true ∧ declared1.carriers[(1 : Carrier)].active = [] ∧
    declared1.carriers[(1 : Carrier)].pending = none ∧ declared1.carriers[(1 : Carrier)].width ≠ .wide ∧
    declared1.planPending = false ∧ held.ready 0 1 = true ∧ held.arbiterFree = true ∧ held.planPending = true ∧
    held.carriers[(1 : Carrier)] = declared1.carriers[(1 : Carrier)] := by
  decide +kernel

/-- C1 is declared WIDE; and the same cell where U4 is taken: no aligned run of four is FREE on H3. -/
def wide1 : State := cell.modCarrier 1 fun x => { x with declared := true, width := .wide }

def crowded : State := wide1.modLanes 3 fun l => l.set 4 (.owned 5)

theorem witness_BindingsAreAdmittedAndReserved :
    let gaining (s : State) := (headSetUnder s.sectorMap [2]).filter fun h => !(s.headSet 1).contains h
    let verdict (s : State) := s.admission 3 [] [1] fun _ => headSetUnder s.sectorMap [2]
    wide1.ready 0 1 = true ∧ wide1.arbiterFree = true ∧ ([2, 2] : List Byte).length ≤ 12 ∧ sectorSet [2, 2] = some [2] ∧
    sectorSet (List.replicate 12 11) = some [11] ∧ sectorSet [] = some [] ∧ ownedBy 0 4 = false ∧ ownedBy 0 1 = true ∧
    cell.carriers[(1 : Carrier)].declared = false ∧ wide1.carriers[(1 : Carrier)].declared = true ∧
    (wide1.setSlot 0 (.commitWait emptyMap offered)).planPending = true ∧ wide1.planPending = false ∧
    (wideDue .yes).carriers[(1 : Carrier)].pending.isSome = true ∧ (wideDue .yes).planPending = false ∧
    wide1.carriers[(1 : Carrier)].pending = none ∧ [] = wide1.carriers[(1 : Carrier)].active ∧
    [2] ≠ wide1.carriers[(1 : Carrier)].active ∧ gaining wide1 = [3] ∧ verdict wide1 = .admitted [(1, 4)] ∧
    gaining crowded = [3] ∧ verdict crowded = .failed .laneFragmented 1 ∧ crowded.ready 0 1 = true ∧
    crowded.planPending = false ∧ [2] = cell.carriers[(0 : Carrier)].active := by decide +kernel

/-- C0, on H3 at 98 du, gains H5 at the delay given in a binding that is due. -/
def gainingDue (far : Nat) : State :=
  { ((cell.modCarrier 0 fun x => { x with pending := some { sectors := [2, 4], reserved := [{ head := 5, first := 7 }] } }).modHead
      5 fun _ => { upHead with delay := some far }) with
    sectorMap := cell.sectorMap.set 5 (some 4)
    lanes := cell.lanes.set 5 ((Vector.replicate 8 .free).set 7 (.reserved 0))
    due := [.bindingApply [0], .loadWindow] }

/-- R20, R41, R168: the new placement is WINDOW 1024 du away and not excluded 1023 du away; a losing head's CARRIER_STARVED
is cleared. -/
theorem witness_ADueBindingIsApplied_exclusion :
    ((gainingDue 1121).lanesAgree ∧ (gainingDue 1122).lanesAgree) ∧
    after .bindingApply (gainingDue 1121) (fun t => decide (reasons t = [.none, .none])) = true ∧
    after .bindingApply (gainingDue 1122) (fun t => decide (reasons t = [.none, .window] ∧
      (t.log.find .carrierExcluded (.carrierHead 0 5)).map (fun x => (x.2.active, x.2.detail)) = some (true, 2))) = true ∧
    after .bindingApply (bindingDue.setLog fed.log) (fun t =>
      decide ((t.log.find .carrierStarved (.carrierHead 0 3)).map (·.2.active) = some false)) = true :=
  ⟨⟨agreeing_lanes (by decide +kernel), agreeing_lanes (by decide +kernel)⟩, by decide +kernel⟩

theorem witness_ADueBindingIsApplied :
    (bindingDue.lanesAgree ∧ (wideDue .yes).lanesAgree ∧ (wideDue .no).lanesAgree) ∧ bindingDue.log.sound ∧
    bindingDue.mode ≠ .reset ∧
    bindingDue.due = [.bindingApply [0], .loadWindow] ∧
    bindingDue.carriers[(0 : Carrier)].pending = some { sectors := [4], reserved := [{ head := 5, first := 7 }] } ∧
    bindingDue.headSet 0 = [3] ∧ headSetUnder bindingDue.sectorMap [4] = [5] ∧
    (bindingDue.ports[Port.ofLink (Carrier.owner 0)].inService).map (·.phase) = some (.awaitingBoundary 0) ∧
    (wideDue .no).due = [.bindingApply [1], .loadWindow] ∧ (wideDue .no).heads[(3 : Head)].capability = .no :=
  ⟨⟨agreeing_lanes (by decide +kernel), agreeing_lanes (by decide +kernel), agreeing_lanes (by decide +kernel)⟩,
    cell_sound, by decide +kernel⟩

/-! ### Plans -/

def drafted : State := cell.setSlot 0 (.draft emptyMap)

theorem witness_SlotsAreEditedAndValidated :
    let refused := refusing.setSlot 0 (.draft thirdMap)
    drafted.ready Port.mp 16 = true ∧ drafted.arbiterFree = true ∧ drafted.plans.slots[(0 : SlotIndex)].offer? = none ∧
    drafted.bindingPending = false ∧ drafted.plans.slots[(0 : SlotIndex)].map? = some emptyMap ∧
    drafted.plans.slots[(3 : SlotIndex)].map? = none ∧ drafted.validateMap emptyMap = .valid offered.layout ∧
    waiting.plans.slots[(0 : SlotIndex)].offer?.isSome = true ∧ waiting.ready Port.mp 16 = true ∧ waiting.arbiterFree = true ∧
    bindingDue.bindingPending = true ∧ bindingDue.ready Port.mp 16 = true ∧ bindingDue.arbiterFree = true ∧
    bindingDue.plans.slots[(0 : SlotIndex)].offer? = none ∧ refused.ready Port.mp 16 = true ∧ refused.arbiterFree = true ∧
    refused.bindingPending = false ∧ refused.plans.slots[(0 : SlotIndex)].map? = some thirdMap ∧
    refused.validateMap thirdMap = .invalid { reason := .laneFragmented, head := some 3, carrier := some 1 } := by
  decide +kernel

theorem witness_AProposalIsOfferedOrFailed :
    let refused := refusing.setSlot 0 (.draft thirdMap)
    drafted.ready Port.mp 2 = true ∧ drafted.arbiterFree = true ∧ drafted.planPending = false ∧
    drafted.bindingPending = false ∧ drafted.plans.slots[(0 : SlotIndex)].map? = some emptyMap ∧
    drafted.validateMap emptyMap = .valid offered.layout ∧ drafted.affectedSet emptyMap = [0] ∧
    drafted.affectedSet cell.sectorMap = [] ∧ drafted.validateMap cell.sectorMap = .valid [] ∧
    drafted.portOpen (Port.ofLink 0) = true ∧ drafted.room (Port.ofLink 0) 1 = true ∧
    drafted.plans.slots[(1 : SlotIndex)].map? = none ∧ waiting.ready Port.mp 2 = true ∧ waiting.arbiterFree = true ∧
    waiting.planPending = true ∧ bindingDue.ready Port.mp 2 = true ∧ bindingDue.arbiterFree = true ∧
    bindingDue.planPending = false ∧ bindingDue.bindingPending = true ∧ refused.ready Port.mp 2 = true ∧
    refused.arbiterFree = true ∧ refused.planPending = false ∧ refused.bindingPending = false ∧
    refused.plans.slots[(0 : SlotIndex)].map? = some thirdMap ∧
    refused.validateMap thirdMap = .invalid { reason := .laneFragmented, head := some 3, carrier := some 1 } := by
  decide +kernel

theorem witness_ConsentsAndCancelsAreJudged :
    let answered := { offered with answers := offered.answers.set 0 .accept }
    let again := cell.setSlot 0 (.consent emptyMap answered 5)
    (asking 5).ready (Port.ofLink 0) 2 = true ∧ (asking 5).arbiterFree = true ∧
    (asking 5).pendingPlan = some (0, offered) ∧ (asking 5).plans.slots[(0 : SlotIndex)] = .consent emptyMap offered 5 ∧
    1 ≤ offered.number ∧ offered.number ≤ 255 ∧ (1 : Byte) ≠ 0 ∧ (1 : Byte) ≠ BitVec.ofNat 8 offered.number ∧
    0 ∈ offered.affected ∧ 1 ∉ offered.affected ∧ (asking 5).ready (Port.ofLink 1) 2 = true ∧
    offered.answers[(0 : Link)] = .none ∧ again.pendingPlan = some (0, answered) ∧ answered.answers[(0 : Link)] ≠ .none ∧
    waiting.ready Port.mp 2 = true ∧ waiting.arbiterFree = true ∧ waiting.pendingPlan = some (0, offered) ∧
    waiting.plans.slots[(0 : SlotIndex)].map? = some emptyMap ∧ (255 : Byte) ≠ 0 ∧ (255 : Byte).toNat = offered.number ∧
    (1 : Byte).toNat ≠ offered.number ∧ cell.ready Port.mp 2 = true ∧ cell.arbiterFree = true ∧ cell.pendingPlan = none := by
  decide +kernel

/-- R151, R159: no slot is in CONSENT; and a REFUSE or a PLAN_CANCEL sends PLAN_OUTCOME ahead of the sender's reply, and to
the other addressee (the result numbers 1 and 3 by log entry 10). -/
theorem witness_ConsentsAndCancelsAreJudged_outcome :
    (∀ k : SlotIndex, waiting.plans.slots[k].remaining? = none) ∧ waiting.ready (Port.ofLink 0) 1 = true ∧
    offered.affected.Nodup ∧
    after (.consent 0 255 1) waiting (fun t => decide (t.ports[(0 : Port)].outgoing = [⟨164, 1, [12]⟩])) = true ∧
    after (.consent 0 255 2) (asking 5) (fun t => decide (
      t.ports[(0 : Port)].outgoing = [⟨97, 7, [255, 0, 1, 0, 0, 0, 0]⟩, ⟨164, 3, [0, 255, 2]⟩] ∧
      t.ports[Port.mp].outgoing = [⟨97, 7, [255, 0, 1, 0, 0, 0, 0]⟩])) = true ∧
    after (.planCancel 4 255) waiting (fun t => decide (
      t.ports[Port.mp].outgoing = [⟨97, 7, [255, 0, 3, 0, 0, 0, 0]⟩, ⟨163, 2, [0, 255]⟩] ∧
      t.ports[(0 : Port)].outgoing.length = 1)) = true := by decide +kernel

theorem witness_TheExpiryJudgesTheAnswers :
    let s := (asking 0).setDue [.consentExpiry, .loadWindow]
    let presumed := s.setPlans { s.plans with modes := Vector.replicate 4 .presumed }
    s.mode ≠ .reset ∧ s.due = [.consentExpiry, .loadWindow] ∧ s.plans.slots[(0 : SlotIndex)] = .consent emptyMap offered 0 ∧
    (∀ j : SlotIndex, j ≠ 0 → s.plans.slots[j] = .empty) ∧
    (∃ l ∈ offered.affected, offered.answers[l] = .none ∧ s.plans.modes[l] = .required) ∧
    presumed.due = s.due ∧
    (∀ l ∈ offered.affected, offered.answers[l] = .none → presumed.plans.modes[l] = .presumed) ∧ offered.affected.Nodup ∧
    after .consentExpiry s (fun t => decide (t.ports[(0 : Port)].outgoing = [⟨97, 7, [255, 0, 2, 0, 0, 0, 0]⟩])) = true := by
  decide +kernel

/-- A trigger on S2's load that fires at two windows. -/
def armedTrigger (count mark : Nat) : Trigger :=
  { Trigger.reset with armed := true, sector := 2, mark := mark, windows := 2, count := count }

/-- The map that takes S2 from H3 to H6; the plan that carries it; and the plan that finds no run, both due. -/
def movedMap : SectorMap := emptyMap.set 6 (some 2)

def moving : State := { cell.setSlot 0 (.commitWait movedMap offered) with due := [.planRevalidate 0 255, .loadWindow] }

def failing : State := { refusing.setSlot 0 (.commitWait thirdMap offered) with due := [.planRevalidate 0 255] }

/-- R129: a window end that has begun is finished before the commit, and no trigger carries a count across. -/
theorem witness_TheRevalidationCommitsOrAborts_begun :
    let loads : Vector Load 12 := Vector.replicate 12 { load := 70, measured := true }
    let begin := fun s : State => { s with
      due := .triggerAnswer 5 true loads :: s.due
      load := { s.load with triggers := ⟨#[Trigger.reset, Trigger.reset, Trigger.reset, Trigger.reset, Trigger.reset,
        { armedTrigger 2 70 with awaiting := true }, armedTrigger 1 70, armedTrigger 0 70], rfl⟩ } }
    let counts : State → List (Nat × Bool) := fun t => t.load.triggers.toList.map fun x => (x.count, x.deferred)
    ((begin moving).lanesAgree ∧ (begin moving).plansAgree ∧ (begin failing).lanesAgree ∧ (begin failing).plansAgree) ∧
    (∀ d ∈ moving.due, d.isAnswer = false) ∧ (∀ d ∈ failing.due, d.isAnswer = false) ∧
    after .planRevalidate (begin moving) (fun t => decide (t.sectorMap = movedMap ∧ counts t = List.replicate 8 (0, false))) = true ∧
    after .planRevalidate (begin failing) (fun t =>
      decide ((counts t).drop 5 = [(2, true), (2, true), (1, false)] ∧ t.sectorMap = failing.sectorMap)) = true :=
  ⟨⟨agreeing_lanes (by decide +kernel), planning_plans (by decide +kernel), agreeing_lanes (by decide +kernel),
    planning_plans (by decide +kernel)⟩, by decide +kernel⟩

theorem witness_TheRevalidationCommitsOrAborts :
    (moving.lanesAgree ∧ moving.plansAgree ∧ failing.lanesAgree ∧ failing.plansAgree) ∧ moving.mode ≠ .reset ∧
    moving.due = [.planRevalidate 0 offered.number, .loadWindow] ∧
    moving.plans.slots[(0 : SlotIndex)] = .commitWait movedMap offered ∧
    moving.validateMap movedMap = .valid [{ head := 3, departing := [0], newcomers := [] },
      { head := 6, departing := [], newcomers := [(0, 0)] }] ∧
    failing.plans.slots[(0 : SlotIndex)] = .commitWait thirdMap offered ∧
    failing.validateMap thirdMap = .invalid { reason := .laneFragmented, head := some 3, carrier := some 1 } :=
  ⟨⟨agreeing_lanes (by decide +kernel), planning_plans (by decide +kernel), agreeing_lanes (by decide +kernel),
    planning_plans (by decide +kernel)⟩, by decide +kernel⟩

/-- R157, R168, R22: the commit clears CARRIER_STARVED of the removed placement and, as H6 is out of service, raises
CARRIER_ORPHANED. -/
theorem witness_TheRevalidationCommitsOrAborts_alarms :
    (moving.setLog fed.log).lanesAgree ∧ (moving.setLog fed.log).plansAgree ∧ (moving.setLog fed.log).log.sound ∧
    after .planRevalidate (moving.setLog fed.log) (fun t => decide (
      (t.log.find .carrierStarved (.carrierHead 0 3)).map (·.2.active) = some false ∧
      (t.log.find .carrierOrphaned (.carrier 0)).map (·.2.active) = some true ∧ t.carriers[(0 : Carrier)].orphan = true)) = true :=
  ⟨agreeing_lanes (by decide +kernel), planning_plans (by decide +kernel), oneSound_sound (by decide +kernel),
    by decide +kernel⟩

/-! ### Modes, messages and operator links -/

/-- H3 is in SEEK, so that C0 is without a placement in service; in RUN it is orphaned, its record ACTIVE. -/
def forlorn (mode : Mode) : State :=
  let s := (cellHead fun x => { x with state := .seek, delay := none }).setMode mode
  if mode = .run then (s.modCarrier 0 fun x => { x with orphan := true }).raise .carrierOrphaned (.carrier 0) 0 else s

/-- R22, R23: START raises CARRIER_ORPHANED, and HOLD and the loss of the operator link clear it. -/
theorem witness_StartAndHoldChangeTheMode_orphans :
    let active (t : State) : Option Bool := (t.log.find .carrierOrphaned (.carrier 0)).map (·.2.active)
    ((forlorn .hold).log.sound ∧ (forlorn .run).log.sound) ∧
    (forlorn .hold).ready Port.mp 1 = true ∧ (forlorn .run).ready Port.mp 1 = true ∧
    after (.start 4) (forlorn .hold) (fun t => decide (active t = some true)) = true ∧
    after (.hold 4) (forlorn .run) (fun t => decide (active t = some false)) = true ∧
    after (.operatorLinkDown 0 .framing) (forlorn .run) (fun t => decide (active t = some false)) = true :=
  ⟨⟨oneSound_sound (by decide +kernel), oneSound_sound (by decide +kernel)⟩, by decide +kernel⟩

theorem witness_StartAndHoldChangeTheMode :
    linked.ready Port.mp 1 = true ∧ linked.mode = .hold ∧ cell.ready Port.mp 1 = true ∧ cell.mode = .run ∧
    (cell.placements.map fun q => (q.head, q.carrier)).Nodup := by decide +kernel

theorem witness_RestartClearsTheTrafficConfiguration :
    cell.ready Port.mp 1 = true ∧ cell.due = [] ∧ logged.ready Port.mp 1 = true ∧ bindingDue.ready Port.mp 1 = true := by
  decide +kernel

/-- R168: the CARRIER_STARVED of a placement that RESTART removes is ACTIVE no longer. -/
theorem witness_RestartClearsTheTrafficConfiguration_alarms :
    let s := { cell with log := (cell.raise .carrierStarved (.carrierHead 0 3) 0).log }
    let u := (s.taken Port.mp .restart).beforeRestart
    (s.ready Port.mp 1 = true ∧ u.log.sound) ∧ placed ∈ u.placements ∧
    after (.restart 4) s (fun t => decide ((t.log.find .carrierStarved (.carrierHead 0 3)).map (·.2.active) = some false)) = true :=
  ⟨⟨by decide +kernel, oneSound_sound (by decide +kernel)⟩, by decide +kernel⟩

theorem witness_TheResetFreezesThePartUntilItsRelease :
    (cell.setMode .reset).mode = .reset ∧ cell.mode ≠ .reset ∧ Instr.heldBoundary ≠ .resetAssert ∧
    Instr.heldBoundary ≠ .resetRelease := by decide +kernel

theorem witness_MessagesArriveOrAreTurnedAway :
    let seven := cell.modPort 0 fun x => { x with queue := List.replicate 7 Request.take.toMessage }
    let eight := cell.modPort 0 fun x => { fullPort with outgoing := List.replicate 15 Request.take.toMessage, lostRefusals := x.lostRefusals }
    cell.portOpen 0 = true ∧ seven.portOpen 0 = true ∧ seven.ports[(0 : Port)].queue.length < 8 ∧ eight.portOpen 0 = true ∧
    8 ≤ eight.ports[(0 : Port)].queue.length ∧ eight.ports[(0 : Port)].outgoing.length < 16 ∧ fullPorts.portOpen 0 = true ∧
    8 ≤ fullPorts.ports[(0 : Port)].queue.length ∧ 16 ≤ fullPorts.ports[(0 : Port)].outgoing.length ∧
    State.reset.portOpen 0 = false ∧ ([7] : List Byte).length = (1 : Byte).toNat ∧ ([] : List Byte).length < (1 : Byte).toNat ∧
    (3 : Byte) ≠ 1 ∧ (3 : Byte) ≠ 2 := by
  decide +kernel

/-- A reply of two messages that waits for room on OL0's port. -/
def waitingReply : InService :=
  { message := Request.alarmSummary.toMessage, phase := .awaitingRoom (List.replicate 2 Request.take.toMessage), discarded := false }

theorem witness_MessagesLeaveInOrder :
    let full := cell.modPort 0 fun _ => { fullPort with inService := some waitingReply }
    let room := cell.modPort 0 fun _ =>
      { fullPort with inService := some waitingReply, outgoing := List.replicate 14 Request.take.toMessage }
    fullPorts.portOpen (Port.ofLink 0) = true ∧
    fullPorts.ports[Port.ofLink 0].outgoing = Request.take.toMessage :: List.replicate 15 Request.take.toMessage ∧
    cell.ports[Port.mp].outgoing = [] ∧ fullPorts.mode ≠ .reset ∧
    fullPorts.ports[Port.mp].outgoing = Request.take.toMessage :: List.replicate 15 Request.take.toMessage ∧
    full.ports[(0 : Port)].inService = some waitingReply ∧ 16 < full.ports[(0 : Port)].outgoing.length + 2 ∧
    room.ports[(0 : Port)].inService = some waitingReply ∧ room.ports[(0 : Port)].outgoing.length + 2 ≤ 16 ∧
    (0 : Byte) ≠ 1 ∧ (0 : Byte) ≠ 2 := by decide +kernel

/-- Port 0 with one message queued. -/
def queued (m : Message) : State := cell.modPort 0 fun x => { x with queue := [m] }

theorem witness_RequestsAreServedInTurn :
    let bad : Message := ⟨128, 0, []⟩
    let x : InService := { message := (Request.withdraw 0).toMessage, phase := .awaitingGrant, discarded := false }
    let s := (cell.modPort 3 fun y => { y with inService := some x }).setArbiter { granted := none, last := 3 }
    (queued bad).mode ≠ .reset ∧ (queued bad).ports[(0 : Port)].inService = none ∧ (queued bad).ports[(0 : Port)].queue = [bad] ∧
    Message.malformed bad = true ∧ (queued bad).room 0 1 = true ∧
    Message.malformed (Request.withdraw 0).toMessage = false ∧
    Message.type (Request.withdraw 0).toMessage ∈ [1, 2, 3, 32, 33, 34, 35, 36] ∧
    Message.malformed Request.take.toMessage = false ∧ Message.type Request.take.toMessage ∉ [1, 2, 3, 32, 33, 34, 35, 36] ∧
    cell.ports[(0 : Port)].queue = [] ∧ s.arbiter.granted = none ∧ s.ports[s.arbiter.last + 1 + (4 : Fin 5)].awaitsGrant = true ∧
    (∀ j : Fin 5, j < 4 → s.ports[s.arbiter.last + 1 + j].awaitsGrant = false) ∧
    after .arbiterGrant s (fun t => decide ((t.ports[(3 : Port)].outgoing).map Message.typeByte = [130])) = true ∧
    ∀ p : Port, cell.ports[p].awaitsGrant = false := by decide +kernel

/-- Offsets of 250 du either way keep a link UP, 251 take it DOWN, as does the loss of lock. -/
theorem witness_AnOperatorLinkGoesDown :
    cell.mode ≠ .reset ∧ cell.linkUp 0 = true ∧ cell.links[(0 : Link)].alignment = some 0 ∧ State.reset.mode ≠ .reset ∧
    State.reset.linkUp 0 = false ∧ State.reset.links[(0 : Link)].alignment = none ∧ ((-250 : Int) ≤ 250 ∧ (250 : Int) ≤ 250) ∧
    ¬ ((-250 : Int) ≤ 251 ∧ (251 : Int) ≤ 250) ∧ ¬ ((-250 : Int) ≤ -251) ∧
    (let far := { cell with links := cell.links.set 0 { up := false, cause := some .alignment, alignment := some 251 } }
     after (.operatorLinkDown 0 (.alignment (-250))) far (fun t => t.linkUp 0) = true ∧
     after (.operatorLinkDown 0 (.alignment 252)) far (fun t => !t.linkUp 0) = true) := by decide +kernel

/-- OL0 is DOWN with mail waiting and a plan that awaits its answer, in HOLD. -/
def darkLink : State :=
  { asking 5 with
    mode := .hold, links := cell.links.set 0 { up := false, cause := some .framing, alignment := none }
    inboxes := cell.inboxes.set 0 (some { sender := Port.mp, payload := [1] })
    log := (logged.raise .operatorLinkLost (.link 0) 1).log }

theorem witness_AnOperatorLinkComesUp :
    let links := darkLink.links.set 0 { darkLink.links[(0 : Link)] with up := true, alignment := some (-250) }
    darkLink.mode ≠ .reset ∧ darkLink.linkUp 0 = false ∧ cell.mode ≠ .reset ∧ cell.linkUp 0 = true ∧
    cell.links[(0 : Link)].alignment.isSome = true ∧ ((-250 : Int) ≤ -250 ∧ (-250 : Int) ≤ 250) ∧
    ¬ ((-250 : Int) ≤ 251 ∧ (251 : Int) ≤ 250) ∧
    ((darkLink.log.find .operatorLinkLost (.link 0)).map (·.2.active)) = some true ∧
    (∀ c : Carrier, darkLink.carriers[c].orphan = State.orphanCondition { darkLink with links := links } c) ∧
    darkLink.ports[Port.ofLink 0].outgoing = [] ∧ (darkLink.placements.map fun q => (q.head, q.carrier)).Nodup ∧
    darkLink.pendingPlan = some (0, offered) ∧ darkLink.plans.slots[(0 : SlotIndex)] = .consent emptyMap offered 5 ∧
    waiting.pendingPlan = some (0, offered) ∧ waiting.plans.slots[(0 : SlotIndex)] = .commitWait emptyMap offered := by
  decide +kernel

/-- R22: a link that comes UP orphans its carrier with no placement in service. -/
theorem witness_AnOperatorLinkComesUp_orphans :
    let s := { forlorn .run with
      links := cell.links.set 0 { up := false, cause := some .framing, alignment := none }, log := cell.log
      carriers := cell.carriers }
    s.log.sound ∧ s.linkUp 0 = false ∧ after (.operatorLinkUp { link := 0, offset := 250 }) s (fun t => decide (
      t.carriers[(0 : Carrier)].orphan = true ∧
      (t.log.find .carrierOrphaned (.carrier 0)).map (fun x => (x.2.active, x.2.detail)) = some (true, 0))) = true :=
  ⟨cell_sound, by decide +kernel⟩

/-! ### Timing and frame boundaries -/

/-- The cell in LOCKED, its last boundary at moment 0. -/
def locked : State := { cell with timing := { cell.timing with state := .locked } }

theorem witness_MarksAndLimitsMakeTheBoundaries :
    let held := { cell with timing := { cell.timing with candidate := some 0, lastBoundary := 2497500, now := 2497500 } }
    let blind := { held with links := held.links.set 1 { up := false, cause := none, alignment := none } }
    locked.mode ≠ .reset ∧ locked.timing.now ≤ 2497499 ∧ locked.timing.lastBoundary ≤ 2497499 ∧ locked.timing.state = .locked ∧
    2497499 - locked.timing.lastBoundary < 2497500 ∧ 2497500 - locked.timing.lastBoundary ≤ 2502500 ∧
    2502500 < 2502501 - locked.timing.lastBoundary ∧ cell.timing.state = .held ∧ cell.timing.candidate = none ∧
    held.timing.state = .held ∧ held.timing.candidate = some 0 ∧ held.timing.now ≤ 2497500 ∧
    2497500 = held.timing.lastBoundary ∧ 2502500 ≠ held.timing.lastBoundary ∧ 2502500 < 2502501 - 0 ∧
    0 < held.timing.period ∧ blind.links[(0 : Link)].alignment = some 0 ∧ blind.links[(1 : Link)].alignment = none := by
  decide +kernel

/-- A boundary comes of each of its three forms, a mark's at either end of the range. -/
theorem boundaries : cell.takesBoundary .heldBoundary ∧ locked.takesBoundary .markTimeout ∧
    locked.takesBoundary (.timingMark 2497500) ∧ locked.takesBoundary (.timingMark 2502500) :=
  ⟨.inl ⟨rfl, rfl⟩, .inr (.inl ⟨rfl, rfl⟩), .inr (.inr ⟨_, rfl, by decide +kernel⟩), .inr (.inr ⟨_, rfl, by decide +kernel⟩)⟩

theorem witness_AFrameBoundaryIsHandedOn :
    let s := asking 1
    let t := { waiting with carriers := bindingDue.carriers }
    let power (aged : Bool) := (recomputing.modPower 3 fun x => { x with aged := aged }).power[(3 : Head)]
    cell.takesBoundary .heldBoundary ∧ s.takesBoundary .heldBoundary ∧ t.takesBoundary .heldBoundary ∧ s.mode ≠ .reset ∧
    s.due = [] ∧ s.plans.slots[(0 : SlotIndex)] = .consent emptyMap offered 1 ∧ t.due = [] ∧
    t.plans.slots[(0 : SlotIndex)] = .commitWait emptyMap offered ∧ s.plans.slots[(3 : SlotIndex)].offer? = none ∧
    t.carriers[(0 : Carrier)].pending.isSome = true ∧ (power false).aged = false ∧
    (power true).aged = true ∧ (power true).again = false :=
  ⟨.inl ⟨rfl, rfl⟩, .inl ⟨rfl, rfl⟩, .inl ⟨rfl, rfl⟩, by decide +kernel⟩

/-- Markers of which the first three are back and the last is out. -/
def outMarkers : List Marker := List.replicate 3 { sentFrame := 0, roundTrip := some 216 }

theorem witness_AFrameBoundaryCountsForTheHeadLinks :
    let at3 (f : HeadLink → HeadLink) := (cellHead f).heads[(3 : Head)]
    let up := at3 fun x => { x with remeasureCount := 1, blipFrames := 98, errorFrames := 98, markers := some outMarkers }
    let late := at3 fun x => { x with remeasureCount := 0, blipFrames := 99, errorFrames := 99
                                      markers := some (outMarkers ++ [{ sentFrame := 3, roundTrip := none }]) }
    let seek (l w : Bool) := at3 fun x => { x with state := .seek, framerLock := l, lockWhole := w, lockedCount := 3, reportSeen := true }
    let failed (n : Nat) := at3 fun x => { x with state := .failed, holdOffCount := n }
    (∀ f, (cellHead f).takesBoundary .heldBoundary) ∧ (cell.mode ≠ .reset ∧ cell.due = []) ∧
    (at3 fun x => { x with state := .measure }).markers = none ∧ (∀ a ∈ outMarkers, a.roundTrip ≠ none) ∧
    up.state = .up ∧ 0 < up.settings.remeasure ∧ up.remeasureCount = 1 ∧ up.blipFrames < 99 ∧ up.errorFrames < 99 ∧
    late.remeasureCount = 0 ∧ 99 ≤ late.blipFrames ∧ 99 ≤ late.errorFrames ∧
    ((seek true true).framerLock = true ∧ (seek true true).lockWhole = true) ∧ (seek false true).framerLock = false ∧
    (seek true false).lockWhole = false ∧
    2 ^ ((seek true true).settings.hysteresis + 1) ≤ min 16 ((seek true true).lockedCount + 1) ∧
    cell.heads[(0 : Head)].state = .off ∧ (failed 499).settings.holdOff ≤ min 65535 ((failed 499).holdOffCount + 1) ∧
    (failed 0).state = .failed :=
  ⟨fun _ => .inl ⟨rfl, rfl⟩, by decide +kernel⟩

/-- H3 and H5 carry C0 at delays 98 and 108; H3's frame is complete with the mean given, and its guard is as given. -/
def metered (mean : Nat) (f : UplinkHead → UplinkHead) : State :=
  { (cell.modUplink 3 f).modHead 5 (fun _ => { upHead with delay := some 108 }) with
    placements := [{ placed with meter := { sum := 12800 * mean, count := 12800, lastMean := 0, lastComplete := false } },
      newPlacement 5 0 0 1]
    load := { cell.load with windowFrames := 499, runWhole := true, linkWhole := Vector.replicate 4 true
                             heads := cell.load.heads.set 3 { LoadHead.reset with whole := true } } }

/-- R78, R124: a frame is complete where its samples are all there and the head was in service for the whole of it. -/
theorem test_a_frame_is_complete_in_whole_service :
    let s := metered 7 id
    let broken := { s with load := { s.load with heads := s.load.heads.set 3 { LoadHead.reset with whole := false } } }
    after .heldBoundary s (fun t => decide (t.placements.map (·.meter.lastComplete) = [true, false])) = true ∧
    after .heldBoundary broken (fun t => decide (t.placements.map (·.meter.lastComplete) = [false, false])) = true := by
  decide +kernel

theorem witness_AFrameBoundaryClosesTheFrame :
    let guard (muted : Bool) := metered 1073741824 fun x => { x with muted := muted, loud := 49, quiet := 99, slipGate := 1 }
    let on := (guard false).placements.filter fun p => decide (p.head = (3 : Head))
    let excluded := { placed with exclusion := .window }
    (∀ n f, (metered n f).takesBoundary .heldBoundary) ∧ (guard true).mode ≠ .reset ∧ (guard true).due = [] ∧
    on ≠ [] ∧ (∀ p ∈ on, p.meter.count = 12800 * p.units) ∧
    (∀ p ∈ on, (guard false).uplinks[(3 : Head)].ceiling ≤ p.meter.sum / p.meter.count) ∧
    (∀ p ∈ on, ¬ (guard false).uplinks[(3 : Head)].ceiling ≤ (1073741823 * 12800) / p.meter.count) ∧
    (guard false).uplinks[(3 : Head)].onset ≤ min 1000 ((guard false).uplinks[(3 : Head)].loud + 1) ∧
    (guard true).uplinks[(3 : Head)].release ≤ min 1000 ((guard true).uplinks[(3 : Head)].quiet + 1) ∧
    (guard true).uplinks[(3 : Head)].slipGate = 1 ∧ (newPlacement 5 0 0 1).meter.count = 0 ∧
    (∃ p ∈ (guard true).placements, p.head = 5 ∧ p.meter.count ≠ 12800 * p.units) ∧
    (∀ p ∈ (guard true).placements, p.head ≠ 0) ∧ excluded.exclusion ≠ .none ∧ placed.exclusion = .none ∧
    (guard true).heads[(3 : Head)].delay = some 98 ∧ (guard true).heads[(5 : Head)].delay = some (98 + 10) ∧
    placed.downHeld.length ≤ 16 * 10 / 3125 ∧ placed.downHeld.length < 16 * 196 / 3125 ∧
    (cell.setSatFrames 98).satFrames < 99 ∧ 99 ≤ (cell.setSatFrames 99).satFrames ∧
    (guard true).load.windowFrames + 1 = (guard true).load.window ∧
    (guard true).load.windowStart ≠ (guard true).timing.frame + 1 ∧
    (cell.setLoad { cell.load with windowStart := 1 }).load.windowStart = cell.timing.frame + 1 ∧
    (guard true).load.heads[(3 : Head)].whole = true ∧ (guard true).load.heads[(5 : Head)].whole = false :=
  ⟨fun _ _ => .inl ⟨rfl, rfl⟩, by decide +kernel⟩

/-! ### The sample switch and the windows -/

/-- H3's switch state changed. -/
def cellUplink (f : UplinkHead → UplinkHead) : State := cell.modUplink 3 f

theorem witness_GuardsAndGatesActWhenDue :
    let mute := cellDue (cellUplink fun x => { x with loud := 1 }) (.mute 3 7)
    let unmute := cellDue (cellUplink fun x => { x with muted := true, quiet := 1 }) (.unmute 3)
    let gate := cellDue (cellUplink fun x => { x with slipGate := 1 }) (.slipGate 3)
    mute.mode ≠ .reset ∧ mute.due = [.mute 3 7, .loadWindow] ∧ mute.uplinks[(3 : Head)].muted = false ∧
    0 < mute.uplinks[(3 : Head)].loud ∧ unmute.due = [.unmute 3, .loadWindow] ∧ unmute.uplinks[(3 : Head)].muted = true ∧
    0 < unmute.uplinks[(3 : Head)].quiet ∧ gate.due = [.slipGate 3, .loadWindow] ∧ gate.uplinks[(3 : Head)].slipGate = 1 ∧
    cell.due = [] := by decide +kernel

/-- A load window ends in which H3 was busy in 70 of 100 carrier-frames. -/
def windowEnd : State :=
  cellDue
    { cell with load := { cell.load with
        windowFrames := 500
        heads := cell.load.heads.set 3 { LoadHead.reset with present := 100, busy := 70 }
        triggers := ⟨#[armedTrigger 0 70, { armedTrigger 0 70 with direction := .below }, armedTrigger 0 71,
          { armedTrigger 1 70 with awaiting := true }, Trigger.reset, armedTrigger 1 70, armedTrigger 1 70, Trigger.reset], rfl⟩ } }
    .loadWindow

/-- The answer to trigger 5, which awaits it or does not, is due. -/
def answering (awaiting deferred : Bool) : State :=
  let x := windowEnd.load
  cellDue { cell with load := { x with triggers :=
      (x.triggers.set 5 { armedTrigger 2 70 with awaiting := awaiting }).set 6 Trigger.reset } }
    (.triggerAnswer 5 deferred (Vector.replicate 12 { load := 70, measured := true }))

theorem witness_WindowsEndWhenDue :
    let sat := cellDue (cell.setSatFrames 99) .saturationWindow
    let load := 100 * windowEnd.load.heads[(3 : Head)].busy / windowEnd.load.heads[(3 : Head)].present
    let trigger (i : TriggerIndex) := windowEnd.load.triggers[i]
    let loads : Vector Load 12 := Vector.replicate 12 { load := 70, measured := true }
    sat.mode ≠ .reset ∧ sat.due = [.saturationWindow, .loadWindow] ∧ sat.satFrames = 99 ∧
    (∀ c : Carrier, sat.monitors[c].count < sat.monitors[c].threshold) ∧
    windowEnd.due = [.loadWindow, .loadWindow] ∧ windowEnd.load.windowFrames = windowEnd.load.window ∧
    (∀ h : Head, windowEnd.sectorMap[h] = some 2 ↔ h = 3) ∧ load = 70 ∧
    ((trigger 0).mark ≤ load ∧ (trigger 0).count + 1 < (trigger 0).windows) ∧
    (load ≤ (trigger 1).mark ∧ (trigger 1).direction = .below) ∧ ¬ (trigger 2).mark ≤ load ∧
    (trigger 3).awaiting = true ∧ (trigger 4).armed = false ∧
    ((trigger 5).mark ≤ load ∧ (trigger 5).windows ≤ (trigger 5).count + 1) ∧ windowEnd.planPending = false ∧
    windowEnd.bindingPending = false ∧ (windowEnd.setSlot 0 (.commitWait emptyMap offered)).planPending = true ∧
    (∀ a d, (answering a d).due = [.triggerAnswer 5 d loads, .loadWindow] ∧
      ((answering a d).load.triggers[(5 : TriggerIndex)]).awaiting = a ∧
      ∀ j : TriggerIndex, 5 < j → ((answering a d).load.triggers[j]).armed = false) := by decide +kernel

/-- R77: a count of the threshold raises UPLINK_SATURATION; one less, or a threshold of 0, does not. -/
theorem witness_WindowsEndWhenDue_saturation :
    let counted (count threshold : Nat) := cellDue ({ cell with
      monitors := cell.monitors.set 6 { count := count, last := 0, threshold := threshold } }.setSatFrames 99) .saturationWindow
    let detail (t : State) : Option (BitVec 32) := (t.log.find .uplinkSaturation (.carrier 6)).map (·.2.detail)
    after .saturationWindowEnd (counted 64 64) (fun t => decide (detail t = some 64)) = true ∧
    after .saturationWindowEnd (counted 63 64) (fun t => decide (detail t = none)) = true ∧
    after .saturationWindowEnd (counted 0 0) (fun t => decide (detail t = none)) = true := by decide +kernel

/-- The sample that H3's head link carries on U0. -/
def firstSample (t : State) : Option Sample :=
  match t.wires.heads[(3 : Head)] with
  | .lanes l => l.head?
  | _ => none

/-- R74: a read that leaves 8 groups, or 56, slips the buffer to 32 and raises BUFFER_SLIP with the fill. A set held back
leaves the line ahead of the carrier's own samples (log entries 23 and 24). -/
theorem witness_ASamplePeriodMovesTheSamples_slips :
    let near (n : Nat) := cell.modUplink 3 fun x => { x with groups := List.replicate n zeroGroup }
    let detail (t : State) : Option (BitVec 32) := (t.log.find .bufferSlip (.head 3)).map (·.2.detail)
    let sample (n : BitVec 16) : Sample := { i := n, q := n }
    let streams : Streams := Vector.replicate 16 (Vector.replicate 4 (sample 9))
    let held := { cell with placements := [{ placed with downHeld := [[sample 5], [sample 6]] }] }
    after (.samplePeriod streams) (near 9) (fun t => decide (detail t = some 8 ∧ t.uplinks[(3 : Head)].groups.length = 32)) = true ∧
    after (.samplePeriod streams) (near 57) (fun t => decide (detail t = some 56 ∧ t.uplinks[(3 : Head)].slipGate = 2)) = true ∧
    after (.samplePeriod streams) (near 10) (fun t => decide (detail t = none)) = true ∧
    after (.samplePeriod streams) held (fun t => decide (firstSample t = some (sample 5) ∧
      t.placements.map Placement.downHeld = [[[sample 6], [sample 9]]])) = true := by decide +kernel

/-- R65: a STARVED placement, and the FREE units beside a RADIATING one, carry samples of value 0. -/
theorem witness_ASamplePeriodMovesTheSamples_zeros :
    let streams : Streams := Vector.replicate 16 (Vector.replicate 4 { i := 9, q := 9 })
    let carried (n : BitVec 16) : HeadTransmission :=
      .lanes ({ i := n, q := n } :: List.replicate 7 { i := 0, q := 0 })
    let starved := { cell with placements := [{ placed with outcome := .starved, grant := 0, step := 31, inUse := 31 }] }
    cell.inService 3 = true ∧ cell.mode = .run ∧ starved.downlinkState ((starved.placements)[0]) ≠ .radiating ∧
    after (.samplePeriod streams) cell (fun t => decide (t.wires.heads[(3 : Head)] = carried 9)) = true ∧
    after (.samplePeriod streams) starved (fun t => decide (t.wires.heads[(3 : Head)] = carried 0)) = true := by decide +kernel

theorem witness_ASamplePeriodMovesTheSamples :
    cell.mode ≠ .reset ∧ cell.due = [] ∧ linked.mode = .hold ∧ linked.due = [] ∧ placed ∈ cell.placements ∧ placed.head = 3 ∧
    cell.downlinkState placed = .radiating ∧ placed.downHeld = [] ∧
    (∀ q ∈ cell.placements, q.head = 3 → q ≠ placed →
      q.first.val + q.units ≤ placed.first.val ∨ placed.first.val + placed.units ≤ q.first.val) ∧
    placed.first.val + placed.units ≤ 8 ∧ cell.uplinks[(0 : Head)].running = false ∧ cell.uplinks[(3 : Head)].running = true ∧
    cell.uplinks[(3 : Head)].almostEmpty < (cell.uplinks[(3 : Head)].groups.drop 1).length ∧
    (cell.uplinks[(3 : Head)].groups.drop 1).length < 64 - cell.uplinks[(3 : Head)].almostFull ∧
    (testing TestState.reset).heads[(3 : Head)].state = .test ∧ cell.heads[(0 : Head)].state = .off ∧
    (cellHead fun x => { x with state := .seek }).heads[(3 : Head)].state = .seek ∧
    (cell.setMode .hold).inService 3 = true ∧ State.reset.linkUp 0 = false ∧ linked.linkUp 0 = true := by decide +kernel

/-- In RUN, C0's uplink is combined from H3 alone; with every operator link DOWN it is not sent. -/
theorem witness_ASamplePeriodCombinesTheUplink :
    cell.mode = .run ∧ cell.due = [] ∧ cell.linkUp (Carrier.owner 0) = true ∧ cell.inService 3 = true ∧
    cell.uplinks[(3 : Head)].muted = false ∧ cell.uplinks[(3 : Head)].slipGate = 0 ∧ placed.exclusion = .none ∧
    ({ cell with links := State.reset.links } : State).linkUp (Carrier.owner 0) = false := by decide +kernel

theorem witness_GroupsAreAppendedAndChecked :
    let words : Vector LaneWord 8 := Vector.replicate 8 { sample := zeroSample, parity := 0 }
    let near (n : Nat) := (cellUplink fun x => { x with groups := List.replicate n zeroGroup }).uplinks[(3 : Head)]
    words.toList.length = 8 ∧ cell.mode ≠ .reset ∧ cell.inService 3 = true ∧ cell.inService 0 = false ∧
    cell.uplinks[(0 : Head)].running = false ∧ (near 54).running = true ∧ (near 54).almostEmpty < 54 + 1 ∧
    54 + 1 < 64 - (near 54).almostFull ∧ 64 - (near 55).almostFull ≤ (near 55).groups.length + 1 ∧
    (near 7).groups.length + 1 ≤ (near 7).almostEmpty ∧ ¬ (near 64).groups.length < 64 := by
  decide +kernel

/-- R107: a word of which two bytes fail their parity is one error, and so is a word of which one fails. -/
theorem test_a_failing_word_is_one_error :
    let word (flip : BitVec 4) : LaneWord := { sample := zeroSample, parity := parityBits zeroSample.word ^^^ flip }
    parityErrors ⟨#[word 3, word 0, word 8, word 0, word 0, word 0, word 0, word 0], rfl⟩ = 2 := by
  simp [parityErrors]

theorem witness_SamplesAreRoundedHalfUpAndSaturate :
    saturated [(32767, 64)] 0 = 0 ∧ saturated [(32767, 65)] 0 = 1 ∧ saturated [(-32768, 65)] 0 = 1 := by decide +kernel

/-! ### The head links -/

/-- 20 ms in du: the default blip limit. -/
def blipTime : Nat := 20 * 250000

theorem witness_LightAndLockAreFollowed :
    let dark := cellHead fun x => { x with lightAbsent := true, lightTimer := some 0, framerLock := false }
    let inState (k : LinkState) := (cellHead fun x => { x with state := k, lightTimer := some 0 }).heads[(3 : Head)].state
    cell.mode ≠ .reset ∧ cell.heads[(3 : Head)].lightAbsent = false ∧ dark.heads[(3 : Head)].lightAbsent = true ∧
    dark.heads[(3 : Head)].lightTimer = some 0 ∧ dark.heads[(3 : Head)].framerLock = false ∧
    (dark.atMoment (blipTime - 1)).lightMs 0 < dark.heads[(3 : Head)].settings.blipLimit ∧
    dark.heads[(3 : Head)].settings.blipLimit ≤ (dark.atMoment blipTime).lightMs 0 ∧ inState .seek = .seek ∧
    inState .failed = .failed ∧ inState .measure = .measure ∧ inState .test = .test := by decide +kernel

theorem witness_AnInServiceHeadThatLosesItsLinkSeeks :
    let dark := cellHead fun x => { x with lightTimer := some 0, state := .degraded }
    cell.mode ≠ .reset ∧ cell.inService 3 = true ∧ dark.inService 3 = true ∧ cell.heads[(3 : Head)].lightAbsent = false ∧
    cell.timing.now = 0 ∧ dark.heads[(3 : Head)].lightTimer = some 0 ∧
    dark.heads[(3 : Head)].settings.blipLimit ≤ (dark.atMoment blipTime).lightMs 0 ∧
    cell.heads[(3 : Head)].reportTimer = some 0 ∧
    cell.heads[(3 : Head)].settings.lostLimit ≤ (cell.atMoment (1000 * 250000)).reportMs 0 := by decide +kernel

/-- A clean report that repeats H3's last, 49, 50, 250 and 251 ms after it; and a SEEK head with its frames done. -/
theorem witness_AcceptedReportsAreTaken :
    let seeking (n : Nat) := cellHead fun x => { x with state := .seek, lockedCount := n }
    let unlocked := cellHead fun x => { x with state := .seek, framerLock := false }
    let x := cell.heads[(3 : Head)]
    let ms (n : Nat) := (cell.atMoment (n * 250000)).reportMs 0
    cell.mode ≠ .reset ∧ x.state = .up ∧ (seeking 4).heads[(3 : Head)].state = .seek ∧
    (seeking 4).heads[(3 : Head)].framerLock = true ∧ unlocked.heads[(3 : Head)].framerLock = false ∧
    2 ^ (x.settings.hysteresis + 1) ≤ (seeking 4).heads[(3 : Head)].lockedCount ∧ (seeking 4).due = [] ∧
    (seeking 3).heads[(3 : Head)].lockedCount < 2 ^ (x.settings.hysteresis + 1) ∧
    cell.power[(3 : Head)].handedDerate ≠ (7 : Fin 8).val ∧ x.reportTimer = some 0 ∧ x.capability = .yes ∧
    cell.power[(3 : Head)].handedDerate = 0 ∧ cell.power[(3 : Head)].handedPaOff = false ∧
    x.report = some { derate := (0 : Fin 8).val, paOff := false, overTemp := false, supply := false, paFault := false } ∧
    .headFault ∉ x.held ∧ ms 49 < x.settings.reportMin ∧ x.settings.reportMin ≤ ms 50 ∧ ms 250 ≤ x.settings.reportMax ∧
    x.settings.reportMax < ms 251 := by decide +kernel

/-- The report that H3 gives, WIDE capability as given. -/
def tells (wide : Bool) : HeadReport :=
  { wide := wide, latency := 20, derate := 0, paOff := false, overTemp := false, supply := false, paFault := false }

/-- R95, R161: a faulty report raises HEAD_FAULT with derate 3, PA-off and PA fault as 3 + 8 + 64; it is raised again, and
counted, only where the detail differs; a clean report clears it. -/
theorem witness_AcceptedReportsAreTaken_fault :
    let fault (d : Fin 8) : HeadReport := { tells true with derate := d, paOff := true, paFault := true }
    let faulty := (cellHead fun x => { x with
      held := [.headFault]
      report := some { derate := 3, paOff := true, overTemp := false, supply := false, paFault := true } }).setLog
      (cell.raise .headFault (.head 3) 75).log
    let shown (t : State) : Option (Bool × Nat × BitVec 32) :=
      (t.log.find .headFault (.head 3)).map fun x => (x.2.active, x.2.count, x.2.detail)
    faulty.log.sound ∧
    after (.headReport 3 0 (fault 3) true) cell (fun t => decide (shown t = some (true, 1, 75))) = true ∧
    after (.headReport 3 0 (fault 3) true) faulty (fun t => decide (shown t = some (true, 1, 75))) = true ∧
    after (.headReport 3 0 (fault 4) true) faulty (fun t => decide (shown t = some (true, 2, 76))) = true ∧
    after (.headReport 3 0 (tells true) true) faulty (fun t => decide (shown t = some (false, 1, 75))) = true :=
  ⟨oneSound_sound (by decide +kernel), by decide +kernel⟩

/-- R22, R42: C0 is orphaned where its one placement leaves service with H3. -/
theorem test_orphans_follow_service :
    after (.lockLost 3) cell (fun t => decide (t.carriers[(0 : Carrier)].orphan = true ∧
      (t.log.find .carrierOrphaned (.carrier 0)).map (·.2.active) = some true)) = true := by decide +kernel

/-- R38 to R40, R90: H3's placement becomes WINDOW where its new delay, 94 du, is 1024 du from H5's, and not at 1023; a
WINDOW placement on H5 returns when H3's delay goes; a WIDE one follows the capability; a spread with neither changes
nothing. -/
theorem witness_ExclusionsFollowDelaysAndCapabilities :
    (((twoHeads 1118 .none).lanesAgree ∧ (twoHeads 1117 .none).lanesAgree ∧ (twoHeads 1122 .window).lanesAgree) ∧
      (wideOn .none .yes).lanesAgree ∧ (wideOn .incapable .no).lanesAgree) ∧
    (((twoHeads 1118 .none).placementsInOrder ∧ (twoHeads 1118 .none).incapableAreWide) ∧
      ((twoHeads 1122 .window).placementsInOrder ∧ (twoHeads 1122 .window).incapableAreWide) ∧
      ((wideOn .none .yes).placementsInOrder ∧ (wideOn .none .yes).incapableAreWide) ∧
      ((wideOn .incapable .no).placementsInOrder ∧ (wideOn .incapable .no).incapableAreWide)) ∧
    (twoHeads 1122 .window).spreadWithinLimit ∧ cell.log.sound ∧
    (∀ d x, (twoHeads d x).log = cell.log) ∧ (∀ x y, (wideOn x y).log = cell.log) ∧ cell.mode ≠ .reset ∧
    (twoHeads 1122 .window).ready Port.mp 1 = true ∧ (twoHeads 1122 .window).inService 3 = true ∧
    after (.markerReturn 3 3 208) (twoHeads 1118 .none) (fun t => decide (reasons t = [.window, .none] ∧
      t.heads[(3 : Head)].delay = some 94)) = true ∧
    after (.markerReturn 3 3 208) (twoHeads 1117 .none) (fun t => decide (reasons t = [.none, .none])) = true ∧
    after (.lockLost 3) (twoHeads 1122 .window) (fun t => decide (reasons t = [.none, .none])) = true ∧
    after (.headDisable Port.mp 3) (twoHeads 1122 .window) (fun t => decide (reasons t = [.none, .none])) = true ∧
    after (.headReport 3 0 (tells false) true) (wideOn .none .yes) (fun t => decide (reasons t = [.none, .incapable] ∧
      (t.log.find .carrierExcluded (.carrierHead 1 3)).map (fun x => (x.2.active, x.2.detail)) = some (true, 1))) = true ∧
    after (.headReport 3 0 (tells true) true) (wideOn .incapable .no) (fun t => decide (reasons t = [.none, .none])) = true :=
  ⟨⟨⟨agreeing_lanes (by decide +kernel), agreeing_lanes (by decide +kernel), agreeing_lanes (by decide +kernel)⟩,
      agreeing_lanes (by decide +kernel), agreeing_lanes (by decide +kernel)⟩,
    ⟨ordering_order (by decide +kernel), ordering_order (by decide +kernel), ordering_order (by decide +kernel),
      ordering_order (by decide +kernel)⟩, spreading_spread (by decide +kernel), cell_sound, fun _ _ => rfl, fun _ _ => rfl,
    by decide +kernel⟩

/-- A lost limit of 250 ms is not above the maximum. -/
def tight : State := cellHead fun x => { x with settings := { x.settings with lostLimit := 250 } }

theorem witness_TheReportWatchActsAtItsLimits :
    let measuring := cellHead fun x => { x with state := .measure }
    cell.mode ≠ .reset ∧ cell.heads[(3 : Head)].reportTimer = some 0 ∧ cell.heads[(3 : Head)].latePassed = false ∧
    cell.heads[(3 : Head)].settings.reportMax < (cell.atMoment (251 * 250000)).reportMs 0 ∧
    (cell.atMoment (250 * 250000)).reportMs 0 ≤ cell.heads[(3 : Head)].settings.reportMax ∧
    measuring.heads[(3 : Head)].state = .measure ∧ measuring.heads[(3 : Head)].reportTimer = some 0 ∧
    measuring.heads[(3 : Head)].settings.lostLimit ≤ (measuring.atMoment (1000 * 250000)).reportMs 0 ∧
    (cell.atMoment (999 * 250000)).reportMs 0 < cell.heads[(3 : Head)].settings.lostLimit ∧
    cell.heads[(3 : Head)].settings.reportMax < cell.heads[(3 : Head)].settings.lostLimit ∧
    tight.heads[(3 : Head)].settings.lostLimit ≤ tight.heads[(3 : Head)].settings.reportMax := by decide +kernel

/-- R104: with the lost limit at the maximum the passing raises nothing, and the lost limit takes the head out. -/
theorem test_a_lost_limit_at_the_maximum_raises_no_late :
    after (.reportLate 3 (251 * 250000)) tight (fun t => (t.log.find .reportLate (.head 3)).isNone) = true ∧
    after (.reportLostLimit 3 (250 * 250000)) tight (fun t => decide (t.heads[(3 : Head)].state = .seek)) = true := by
  decide +kernel

theorem witness_DelayMeasurementsRunTheirCourse :
    let out := outMarkers ++ [{ sentFrame := 3, roundTrip := none }]
    let lost (k : LinkState) (n : Nat) := cellDue (cellHead fun x => { x with state := k, attempt := n, markers := some out }) (.markerLost 3)
    let measuring := cellHead fun x => { x with state := .measure, delay := none }
    let again := cellHead fun x => { x with markers := some out }
    let trips (last : Nat) := outMarkers.filterMap (·.roundTrip) ++ [min 65535 last]
    (cellDue measuring (.attemptBegin 3)).due = [.attemptBegin 3, .loadWindow] ∧ measuring.heads[(3 : Head)].state = .measure ∧
    measuring.heads[(3 : Head)].markers = none ∧
    (cellDue (cellHead fun x => { x with remeasureCount := 0 }) (.remeasureBegin 3)).due = [.remeasureBegin 3, .loadWindow] ∧
    (cellHead fun x => { x with remeasureCount := 0 }).heads[(3 : Head)].remeasureCount = 0 ∧ cell.inService 3 = true ∧
    0 < cell.heads[(3 : Head)].settings.remeasure ∧ (lost .measure 3).due = [.markerLost 3, .loadWindow] ∧
    (lost .measure 3).heads[(3 : Head)].markers.isSome = true ∧ 3 ≤ (lost .measure 3).heads[(3 : Head)].attempt ∧
    (lost .measure 2).heads[(3 : Head)].attempt < 3 ∧ (lost .up 0).heads[(3 : Head)].state ≠ .measure ∧
    again.heads[(3 : Head)].markers = some out ∧ (∀ b ∈ outMarkers, b.roundTrip.isSome = true) ∧ .markerLost 3 ∉ again.due ∧
    outMarkers.length = 3 ∧ again.heads[(3 : Head)].latency = some 20 ∧ again.heads[(3 : Head)].delay = some 98 ∧
    ((∀ a ∈ trips 218, ∀ b ∈ trips 218, a ≤ b + 2) ∧ 20 ≤ (trips 218).sum / 4 ∧ 98 = ((trips 218).sum / 4 - 20) / 2) ∧
    (∃ a ∈ trips 219, ∃ b ∈ trips 219, b + 2 < a) ∧ (trips 218).sum / 4 < 217 ∧
    (let far := List.replicate 4 8210
     (∀ a ∈ far, ∀ b ∈ far, a ≤ b + 2) ∧ (far.sum / 4 - 20) / 2 = 4095 ∧ 4095 < (far.sum / 4 - 18) / 2) := by decide +kernel

/-- R98, R101: HEAD_LINK_LOST is cleared as H3 enters UP, whose service mark is broken; a new delay raises DELAY_SHIFT. -/
theorem witness_DelayMeasurementsRunTheirCourse_alarms :
    let out := outMarkers ++ [{ sentFrame := 3, roundTrip := none }]
    let measuring := { cellHead (fun x => { x with state := .measure, delay := none, markers := some out, held := [.headLinkLost] }) with
      log := (cell.raise .headLinkLost (.head 3) 1).log }
    let again := cellHead fun x => { x with markers := some out, delay := some 90 }
    (measuring.log.sound ∧ again.log.sound) ∧ .headLinkLost ∈ measuring.heads[(3 : Head)].held ∧
    after (.markerReturn 3 3 218) measuring (fun t => !t.load.heads[(3 : Head)].whole &&
      decide ((t.log.find .headLinkLost (.head 3)).map (·.2.active) = some false)) = true ∧
    after (.markerReturn 3 3 218) again (fun t =>
      decide ((t.log.find .delayShift (.head 3)).map (·.2.detail) = some 98)) = true :=
  ⟨⟨oneSound_sound (by decide +kernel), cell_sound⟩, by decide +kernel⟩

theorem witness_HeadWindowsEndWhenDue :
    let blip (n : Nat) := cellDue (cellHead fun x => { x with blipFrames := 99, blips := n }) (.blipWindow 3)
    let error (k : LinkState) (n d : Nat) :=
      cellDue (cellHead fun x => { x with state := k, errorFrames := 99, errors := n, degradedCount := d }) (.errorWindow 3)
    let held := cellDue (cellHead fun x => { x with state := .failed, holdOffCount := 500 }) (.holdOff 3)
    let lock := cellDue (cellHead fun x => { x with state := .seek, lockedCount := 4, reportSeen := true }) (.seekLock 3 7)
    (blip 4).due = [.blipWindow 3, .loadWindow] ∧ 99 ≤ (blip 5).heads[(3 : Head)].blipFrames ∧
    (blip 4).heads[(3 : Head)].blips < 5 ∧ 5 ≤ (blip 5).heads[(3 : Head)].blips ∧
    (error .up 15 0).due = [.errorWindow 3, .loadWindow] ∧ (error .up 15 0).heads[(3 : Head)].errors < 16 ∧
    (error .up 16 0).heads[(3 : Head)].settings.degradeThreshold ≤ (error .up 16 0).heads[(3 : Head)].errors ∧
    (error .degraded 3 0).heads[(3 : Head)].errors < (error .degraded 3 0).heads[(3 : Head)].settings.clearThreshold ∧
    (error .degraded 4 9).heads[(3 : Head)].settings.clearThreshold ≤ (error .degraded 4 9).heads[(3 : Head)].errors ∧
    min 255 (9 + 1) = (error .degraded 4 9).heads[(3 : Head)].settings.failCount ∧
    min 255 (8 + 1) < (error .degraded 4 8).heads[(3 : Head)].settings.failCount ∧ held.due = [.holdOff 3, .loadWindow] ∧
    held.heads[(3 : Head)].settings.holdOff ≤ held.heads[(3 : Head)].holdOffCount ∧ lock.due = [.seekLock 3 7, .loadWindow] ∧
    2 ^ (lock.heads[(3 : Head)].settings.hysteresis + 1) ≤ lock.heads[(3 : Head)].lockedCount ∧
    lock.heads[(3 : Head)].reportSeen = true := by decide +kernel

/-- R108, R109: at the fail count HEAD_DEGRADED is cleared and HEAD_FAILED raised with detail 1. -/
theorem witness_HeadWindowsEndWhenDue_failure :
    let s := (cellDue (cellHead fun x => { x with
        state := .degraded, errorFrames := 99, errors := 4, degradedCount := 9, held := [.headDegraded] })
      (.errorWindow 3)).setLog (cell.raise .headDegraded (.head 3) 16).log
    s.log.sound ∧ after (.errorWindowEnd 3) s (fun t => decide (
      (t.log.find .headFailed (.head 3)).map (fun x => (x.2.active, x.2.detail)) = some (true, 1) ∧
      (t.log.find .headDegraded (.head 3)).map (·.2.active) = some false)) = true :=
  ⟨oneSound_sound (by decide +kernel), by decide +kernel⟩

/-! ### What the last boundary has left due -/

/-- R197: a binding that is due is applied before RESTART, and leaves its CARRIER_ORPHANED record CLEARED. -/
theorem test_restart_applies_a_due_binding :
    after (.restart 4) bindingDue (fun t => decide (t.placements = [] ∧
      (t.log.find .carrierOrphaned (.carrier 0)).map (·.2.active) = some false)) = true := by decide +kernel

/-- R129: a load window that the last boundary has ended is published before its length changes. -/
theorem test_a_new_length_publishes_the_ended_window :
    after (.setLoadWindow 4 600) windowEnd (fun t =>
      decide ((t.load.published.map (·.window)) = some 500 ∧ t.load.window = 600)) = true := by decide +kernel

end Sys2Proof.Tests
end

section
/-!
SUPPORT. What the shared operations leave of each field of the state, and reading a vector that has been set.
-/

namespace Sys2Proof.Machine

open Sys2Proof

/-- A vector with one entry set, read at an index. -/
theorem get_set {α : Type} {n : Nat} (v : Vector α n) (i j : Fin n) (x : α) :
    (v.set i x)[j] = if i = j then x else v[j] := by
  simp [Vector.getElem_set, Fin.ext_iff]

/-! ## Messages, raises and clears change the log and the ports alone -/

variable (s : State)

@[simp] theorem sendUnsolicited_mode (p : Port) (m : Message) : (s.sendUnsolicited p m).mode = s.mode :=
  (congrArg State.mode (sendUnsolicited_sansLog s p m) :)
@[simp] theorem sendUnsolicited_timing (p : Port) (m : Message) : (s.sendUnsolicited p m).timing = s.timing :=
  (congrArg State.timing (sendUnsolicited_sansLog s p m) :)
@[simp] theorem sendUnsolicited_carriers (p : Port) (m : Message) : (s.sendUnsolicited p m).carriers = s.carriers :=
  (congrArg State.carriers (sendUnsolicited_sansLog s p m) :)
@[simp] theorem sendUnsolicited_sectorMap (p : Port) (m : Message) : (s.sendUnsolicited p m).sectorMap = s.sectorMap :=
  (congrArg State.sectorMap (sendUnsolicited_sansLog s p m) :)
@[simp] theorem sendUnsolicited_lanes (p : Port) (m : Message) : (s.sendUnsolicited p m).lanes = s.lanes :=
  (congrArg State.lanes (sendUnsolicited_sansLog s p m) :)
@[simp] theorem sendUnsolicited_placements (p : Port) (m : Message) : (s.sendUnsolicited p m).placements = s.placements :=
  (congrArg State.placements (sendUnsolicited_sansLog s p m) :)
@[simp] theorem sendUnsolicited_power (p : Port) (m : Message) : (s.sendUnsolicited p m).power = s.power :=
  (congrArg State.power (sendUnsolicited_sansLog s p m) :)
@[simp] theorem sendUnsolicited_weights (p : Port) (m : Message) : (s.sendUnsolicited p m).weights = s.weights :=
  (congrArg State.weights (sendUnsolicited_sansLog s p m) :)
@[simp] theorem sendUnsolicited_uplinks (p : Port) (m : Message) : (s.sendUnsolicited p m).uplinks = s.uplinks :=
  (congrArg State.uplinks (sendUnsolicited_sansLog s p m) :)
@[simp] theorem sendUnsolicited_monitors (p : Port) (m : Message) : (s.sendUnsolicited p m).monitors = s.monitors :=
  (congrArg State.monitors (sendUnsolicited_sansLog s p m) :)
@[simp] theorem sendUnsolicited_satFrames (p : Port) (m : Message) : (s.sendUnsolicited p m).satFrames = s.satFrames :=
  (congrArg State.satFrames (sendUnsolicited_sansLog s p m) :)
@[simp] theorem sendUnsolicited_heads (p : Port) (m : Message) : (s.sendUnsolicited p m).heads = s.heads :=
  (congrArg State.heads (sendUnsolicited_sansLog s p m) :)
@[simp] theorem sendUnsolicited_load (p : Port) (m : Message) : (s.sendUnsolicited p m).load = s.load :=
  (congrArg State.load (sendUnsolicited_sansLog s p m) :)
@[simp] theorem sendUnsolicited_plans (p : Port) (m : Message) : (s.sendUnsolicited p m).plans = s.plans :=
  (congrArg State.plans (sendUnsolicited_sansLog s p m) :)
@[simp] theorem sendUnsolicited_inboxes (p : Port) (m : Message) : (s.sendUnsolicited p m).inboxes = s.inboxes :=
  (congrArg State.inboxes (sendUnsolicited_sansLog s p m) :)
@[simp] theorem sendUnsolicited_arbiter (p : Port) (m : Message) : (s.sendUnsolicited p m).arbiter = s.arbiter :=
  (congrArg State.arbiter (sendUnsolicited_sansLog s p m) :)
@[simp] theorem sendUnsolicited_links (p : Port) (m : Message) : (s.sendUnsolicited p m).links = s.links :=
  (congrArg State.links (sendUnsolicited_sansLog s p m) :)
@[simp] theorem sendUnsolicited_wires (p : Port) (m : Message) : (s.sendUnsolicited p m).wires = s.wires :=
  (congrArg State.wires (sendUnsolicited_sansLog s p m) :)
@[simp] theorem sendUnsolicited_due (p : Port) (m : Message) : (s.sendUnsolicited p m).due = s.due :=
  (congrArg State.due (sendUnsolicited_sansLog s p m) :)
@[simp] theorem sendUnsolicited_pending (p : Port) (m : Message) : (s.sendUnsolicited p m).pending = s.pending :=
  (congrArg State.pending (sendUnsolicited_sansLog s p m) :)

@[simp] theorem withLog_mode (log : AlarmLog) (quiet : Option Link) : (s.withLog log quiet).mode = s.mode :=
  (congrArg State.mode (withLog_sansLog s log quiet) :)
@[simp] theorem withLog_timing (log : AlarmLog) (quiet : Option Link) : (s.withLog log quiet).timing = s.timing :=
  (congrArg State.timing (withLog_sansLog s log quiet) :)
@[simp] theorem withLog_carriers (log : AlarmLog) (quiet : Option Link) : (s.withLog log quiet).carriers = s.carriers :=
  (congrArg State.carriers (withLog_sansLog s log quiet) :)
@[simp] theorem withLog_sectorMap (log : AlarmLog) (quiet : Option Link) : (s.withLog log quiet).sectorMap = s.sectorMap :=
  (congrArg State.sectorMap (withLog_sansLog s log quiet) :)
@[simp] theorem withLog_lanes (log : AlarmLog) (quiet : Option Link) : (s.withLog log quiet).lanes = s.lanes :=
  (congrArg State.lanes (withLog_sansLog s log quiet) :)
@[simp] theorem withLog_placements (log : AlarmLog) (quiet : Option Link) : (s.withLog log quiet).placements = s.placements :=
  (congrArg State.placements (withLog_sansLog s log quiet) :)
@[simp] theorem withLog_power (log : AlarmLog) (quiet : Option Link) : (s.withLog log quiet).power = s.power :=
  (congrArg State.power (withLog_sansLog s log quiet) :)
@[simp] theorem withLog_weights (log : AlarmLog) (quiet : Option Link) : (s.withLog log quiet).weights = s.weights :=
  (congrArg State.weights (withLog_sansLog s log quiet) :)
@[simp] theorem withLog_uplinks (log : AlarmLog) (quiet : Option Link) : (s.withLog log quiet).uplinks = s.uplinks :=
  (congrArg State.uplinks (withLog_sansLog s log quiet) :)
@[simp] theorem withLog_monitors (log : AlarmLog) (quiet : Option Link) : (s.withLog log quiet).monitors = s.monitors :=
  (congrArg State.monitors (withLog_sansLog s log quiet) :)
@[simp] theorem withLog_satFrames (log : AlarmLog) (quiet : Option Link) : (s.withLog log quiet).satFrames = s.satFrames :=
  (congrArg State.satFrames (withLog_sansLog s log quiet) :)
@[simp] theorem withLog_heads (log : AlarmLog) (quiet : Option Link) : (s.withLog log quiet).heads = s.heads :=
  (congrArg State.heads (withLog_sansLog s log quiet) :)
@[simp] theorem withLog_load (log : AlarmLog) (quiet : Option Link) : (s.withLog log quiet).load = s.load :=
  (congrArg State.load (withLog_sansLog s log quiet) :)
@[simp] theorem withLog_plans (log : AlarmLog) (quiet : Option Link) : (s.withLog log quiet).plans = s.plans :=
  (congrArg State.plans (withLog_sansLog s log quiet) :)
@[simp] theorem withLog_inboxes (log : AlarmLog) (quiet : Option Link) : (s.withLog log quiet).inboxes = s.inboxes :=
  (congrArg State.inboxes (withLog_sansLog s log quiet) :)
@[simp] theorem withLog_arbiter (log : AlarmLog) (quiet : Option Link) : (s.withLog log quiet).arbiter = s.arbiter :=
  (congrArg State.arbiter (withLog_sansLog s log quiet) :)
@[simp] theorem withLog_links (log : AlarmLog) (quiet : Option Link) : (s.withLog log quiet).links = s.links :=
  (congrArg State.links (withLog_sansLog s log quiet) :)
@[simp] theorem withLog_wires (log : AlarmLog) (quiet : Option Link) : (s.withLog log quiet).wires = s.wires :=
  (congrArg State.wires (withLog_sansLog s log quiet) :)
@[simp] theorem withLog_due (log : AlarmLog) (quiet : Option Link) : (s.withLog log quiet).due = s.due :=
  (congrArg State.due (withLog_sansLog s log quiet) :)
@[simp] theorem withLog_pending (log : AlarmLog) (quiet : Option Link) : (s.withLog log quiet).pending = s.pending :=
  (congrArg State.pending (withLog_sansLog s log quiet) :)

@[simp] theorem raise_mode (k : AlarmKind) (x : Subject) (d : Nat) : (s.raise k x d).mode = s.mode :=
  (congrArg State.mode (raise_sansLog s k x d) :)
@[simp] theorem raise_timing (k : AlarmKind) (x : Subject) (d : Nat) : (s.raise k x d).timing = s.timing :=
  (congrArg State.timing (raise_sansLog s k x d) :)
@[simp] theorem raise_carriers (k : AlarmKind) (x : Subject) (d : Nat) : (s.raise k x d).carriers = s.carriers :=
  (congrArg State.carriers (raise_sansLog s k x d) :)
@[simp] theorem raise_sectorMap (k : AlarmKind) (x : Subject) (d : Nat) : (s.raise k x d).sectorMap = s.sectorMap :=
  (congrArg State.sectorMap (raise_sansLog s k x d) :)
@[simp] theorem raise_lanes (k : AlarmKind) (x : Subject) (d : Nat) : (s.raise k x d).lanes = s.lanes :=
  (congrArg State.lanes (raise_sansLog s k x d) :)
@[simp] theorem raise_placements (k : AlarmKind) (x : Subject) (d : Nat) : (s.raise k x d).placements = s.placements :=
  (congrArg State.placements (raise_sansLog s k x d) :)
@[simp] theorem raise_power (k : AlarmKind) (x : Subject) (d : Nat) : (s.raise k x d).power = s.power :=
  (congrArg State.power (raise_sansLog s k x d) :)
@[simp] theorem raise_weights (k : AlarmKind) (x : Subject) (d : Nat) : (s.raise k x d).weights = s.weights :=
  (congrArg State.weights (raise_sansLog s k x d) :)
@[simp] theorem raise_uplinks (k : AlarmKind) (x : Subject) (d : Nat) : (s.raise k x d).uplinks = s.uplinks :=
  (congrArg State.uplinks (raise_sansLog s k x d) :)
@[simp] theorem raise_monitors (k : AlarmKind) (x : Subject) (d : Nat) : (s.raise k x d).monitors = s.monitors :=
  (congrArg State.monitors (raise_sansLog s k x d) :)
@[simp] theorem raise_satFrames (k : AlarmKind) (x : Subject) (d : Nat) : (s.raise k x d).satFrames = s.satFrames :=
  (congrArg State.satFrames (raise_sansLog s k x d) :)
@[simp] theorem raise_heads (k : AlarmKind) (x : Subject) (d : Nat) : (s.raise k x d).heads = s.heads :=
  (congrArg State.heads (raise_sansLog s k x d) :)
@[simp] theorem raise_load (k : AlarmKind) (x : Subject) (d : Nat) : (s.raise k x d).load = s.load :=
  (congrArg State.load (raise_sansLog s k x d) :)
@[simp] theorem raise_plans (k : AlarmKind) (x : Subject) (d : Nat) : (s.raise k x d).plans = s.plans :=
  (congrArg State.plans (raise_sansLog s k x d) :)
@[simp] theorem raise_inboxes (k : AlarmKind) (x : Subject) (d : Nat) : (s.raise k x d).inboxes = s.inboxes :=
  (congrArg State.inboxes (raise_sansLog s k x d) :)
@[simp] theorem raise_arbiter (k : AlarmKind) (x : Subject) (d : Nat) : (s.raise k x d).arbiter = s.arbiter :=
  (congrArg State.arbiter (raise_sansLog s k x d) :)
@[simp] theorem raise_links (k : AlarmKind) (x : Subject) (d : Nat) : (s.raise k x d).links = s.links :=
  (congrArg State.links (raise_sansLog s k x d) :)
@[simp] theorem raise_wires (k : AlarmKind) (x : Subject) (d : Nat) : (s.raise k x d).wires = s.wires :=
  (congrArg State.wires (raise_sansLog s k x d) :)
@[simp] theorem raise_due (k : AlarmKind) (x : Subject) (d : Nat) : (s.raise k x d).due = s.due :=
  (congrArg State.due (raise_sansLog s k x d) :)
@[simp] theorem raise_pending (k : AlarmKind) (x : Subject) (d : Nat) : (s.raise k x d).pending = s.pending :=
  (congrArg State.pending (raise_sansLog s k x d) :)

@[simp] theorem clear_mode (k : AlarmKind) (x : Subject) (quiet : Option Link) : (s.clear k x quiet).mode = s.mode :=
  (congrArg State.mode (clear_sansLog s k x quiet) :)
@[simp] theorem clear_timing (k : AlarmKind) (x : Subject) (quiet : Option Link) : (s.clear k x quiet).timing = s.timing :=
  (congrArg State.timing (clear_sansLog s k x quiet) :)
@[simp] theorem clear_carriers (k : AlarmKind) (x : Subject) (quiet : Option Link) : (s.clear k x quiet).carriers = s.carriers :=
  (congrArg State.carriers (clear_sansLog s k x quiet) :)
@[simp] theorem clear_sectorMap (k : AlarmKind) (x : Subject) (quiet : Option Link) : (s.clear k x quiet).sectorMap = s.sectorMap :=
  (congrArg State.sectorMap (clear_sansLog s k x quiet) :)
@[simp] theorem clear_lanes (k : AlarmKind) (x : Subject) (quiet : Option Link) : (s.clear k x quiet).lanes = s.lanes :=
  (congrArg State.lanes (clear_sansLog s k x quiet) :)
@[simp] theorem clear_placements (k : AlarmKind) (x : Subject) (quiet : Option Link) : (s.clear k x quiet).placements = s.placements :=
  (congrArg State.placements (clear_sansLog s k x quiet) :)
@[simp] theorem clear_power (k : AlarmKind) (x : Subject) (quiet : Option Link) : (s.clear k x quiet).power = s.power :=
  (congrArg State.power (clear_sansLog s k x quiet) :)
@[simp] theorem clear_weights (k : AlarmKind) (x : Subject) (quiet : Option Link) : (s.clear k x quiet).weights = s.weights :=
  (congrArg State.weights (clear_sansLog s k x quiet) :)
@[simp] theorem clear_uplinks (k : AlarmKind) (x : Subject) (quiet : Option Link) : (s.clear k x quiet).uplinks = s.uplinks :=
  (congrArg State.uplinks (clear_sansLog s k x quiet) :)
@[simp] theorem clear_monitors (k : AlarmKind) (x : Subject) (quiet : Option Link) : (s.clear k x quiet).monitors = s.monitors :=
  (congrArg State.monitors (clear_sansLog s k x quiet) :)
@[simp] theorem clear_satFrames (k : AlarmKind) (x : Subject) (quiet : Option Link) : (s.clear k x quiet).satFrames = s.satFrames :=
  (congrArg State.satFrames (clear_sansLog s k x quiet) :)
@[simp] theorem clear_heads (k : AlarmKind) (x : Subject) (quiet : Option Link) : (s.clear k x quiet).heads = s.heads :=
  (congrArg State.heads (clear_sansLog s k x quiet) :)
@[simp] theorem clear_load (k : AlarmKind) (x : Subject) (quiet : Option Link) : (s.clear k x quiet).load = s.load :=
  (congrArg State.load (clear_sansLog s k x quiet) :)
@[simp] theorem clear_plans (k : AlarmKind) (x : Subject) (quiet : Option Link) : (s.clear k x quiet).plans = s.plans :=
  (congrArg State.plans (clear_sansLog s k x quiet) :)
@[simp] theorem clear_inboxes (k : AlarmKind) (x : Subject) (quiet : Option Link) : (s.clear k x quiet).inboxes = s.inboxes :=
  (congrArg State.inboxes (clear_sansLog s k x quiet) :)
@[simp] theorem clear_arbiter (k : AlarmKind) (x : Subject) (quiet : Option Link) : (s.clear k x quiet).arbiter = s.arbiter :=
  (congrArg State.arbiter (clear_sansLog s k x quiet) :)
@[simp] theorem clear_links (k : AlarmKind) (x : Subject) (quiet : Option Link) : (s.clear k x quiet).links = s.links :=
  (congrArg State.links (clear_sansLog s k x quiet) :)
@[simp] theorem clear_wires (k : AlarmKind) (x : Subject) (quiet : Option Link) : (s.clear k x quiet).wires = s.wires :=
  (congrArg State.wires (clear_sansLog s k x quiet) :)
@[simp] theorem clear_due (k : AlarmKind) (x : Subject) (quiet : Option Link) : (s.clear k x quiet).due = s.due :=
  (congrArg State.due (clear_sansLog s k x quiet) :)
@[simp] theorem clear_pending (k : AlarmKind) (x : Subject) (quiet : Option Link) : (s.clear k x quiet).pending = s.pending :=
  (congrArg State.pending (clear_sansLog s k x quiet) :)

end Sys2Proof.Machine
end

section
/-!
SUPPORT. What the agreement of lanes and plans looks at, and the operations that leave all of it alone.
-/

namespace Sys2Proof.Machine

open Sys2Proof

/-- Where a placement stands, and on how many units. -/
def Placement.place (p : Placement) : Head × Carrier × LaneIndex × Nat := (p.head, p.carrier, p.first, p.units)

/-- What a carrier record says of the carrier's units and sectors. -/
def CarrierRecord.traffic (r : CarrierRecord) : CarrierRecord := { r with power := 0, shift := 0, orphan := false }

/-- The affected operators of the offer in a slot, where it holds one. -/
def PlanSlot.affected? (x : PlanSlot) : Option (List Link) := x.offer?.map (·.affected)

/-- The carriers of a due application of bindings. -/
def Due.carriers? : Due → Option (List Carrier)
  | .bindingApply l => some l
  | _ => none

/-- What the agreement of lanes and plans looks at. -/
structure Agreement where
  places    : List (Head × Carrier × LaneIndex × Nat)
  lanes     : Vector (Vector LaneUnit 8) 16
  sectorMap : SectorMap
  traffic   : Vector CarrierRecord 16
  offers    : Vector (Option (List Link)) 4
  bindings  : List (List Carrier)

def State.agreement (s : State) : Agreement :=
  { places := s.placements.map Placement.place, lanes := s.lanes, sectorMap := s.sectorMap
    traffic := s.carriers.map CarrierRecord.traffic, offers := s.plans.slots.map PlanSlot.affected?
    bindings := s.due.filterMap Due.carriers? }

/-- Lanes and plans agree: the two invariants that every step keeps together. -/
def State.agrees (s : State) : Prop := s.lanesAgree ∧ s.plansAgree

/-! ## The agreement depends on nothing else -/

section
variable {s t : State} (e : t.agreement = s.agreement)
include e

theorem places_of_agreement : t.placements.map Placement.place = s.placements.map Placement.place :=
  congrArg Agreement.places e

theorem lanes_of_agreement : t.lanes = s.lanes := congrArg Agreement.lanes e

theorem sectorMap_of_agreement : t.sectorMap = s.sectorMap := congrArg Agreement.sectorMap e

theorem traffic_of_agreement (c : Carrier) : t.carriers[c].traffic = s.carriers[c].traffic := by
  have h := congrArg (fun a : Agreement => a.traffic[c]) e
  simpa [State.agreement] using h

theorem width_of_agreement (c : Carrier) : t.carriers[c].width = s.carriers[c].width :=
  (congrArg CarrierRecord.width (traffic_of_agreement e c) :)

theorem active_of_agreement (c : Carrier) : t.carriers[c].active = s.carriers[c].active :=
  (congrArg CarrierRecord.active (traffic_of_agreement e c) :)

theorem pending_of_agreement (c : Carrier) : t.carriers[c].pending = s.carriers[c].pending :=
  (congrArg CarrierRecord.pending (traffic_of_agreement e c) :)

theorem declared_of_agreement (c : Carrier) : t.carriers[c].declared = s.carriers[c].declared :=
  (congrArg CarrierRecord.declared (traffic_of_agreement e c) :)

/-- Every placement stands where one stood before. -/
theorem place_of_agreement {p : Placement} (hp : p ∈ t.placements) : ∃ q ∈ s.placements, q.place = p.place := by
  have : p.place ∈ s.placements.map Placement.place := places_of_agreement e ▸ List.mem_map_of_mem hp
  simpa using this

theorem headSet_of_agreement (c : Carrier) : t.headSet c = s.headSet c := by
  simp only [State.headSet, sectorMap_of_agreement e, active_of_agreement e]

theorem affected_of_agreement (k : SlotIndex) : t.plans.slots[k].affected? = s.plans.slots[k].affected? := by
  have h := congrArg (fun a : Agreement => a.offers[k]) e
  simpa [State.agreement] using h

end

/-- A place is sound: its carrier owns the units of its width there, from a permitted start. -/
def State.ownsRun (s : State) (x : Head × Carrier × LaneIndex × Nat) : Prop :=
  x.2.2.2 = s.carriers[x.2.1].width.units ∧ x.2.2.1 ∈ s.carriers[x.2.1].width.starts ∧
    ∀ i, covers x.2.2.1.val x.2.2.2 i → s.lanes[x.1][i] = .owned x.2.1

/-- A carrier has a placement on a head. -/
def State.stands (s : State) (h : Head) (c : Carrier) : Prop := ∃ p ∈ s.placements, p.head = h ∧ p.carrier = c

theorem placement_isSome_iff (s : State) (h : Head) (c : Carrier) : (s.placement h c).isSome = true ↔ s.stands h c := by
  simp [State.placement, State.stands]

theorem stands_of_agreement {s t : State} (e : t.agreement = s.agreement) {h : Head} {c : Carrier} (hs : t.stands h c) :
    s.stands h c := by
  obtain ⟨p, hp, rfl, rfl⟩ := hs
  obtain ⟨q, hq, hplace⟩ := place_of_agreement e hp
  simp only [Placement.place, Prod.mk.injEq] at hplace
  exact ⟨q, hq, hplace.1, hplace.2.1⟩

theorem lanesAgree_of_agreement {s t : State} (e : t.agreement = s.agreement) (hs : s.lanesAgree) : t.lanesAgree := by
  obtain ⟨unique, sets, placed, owned, pending, reserved, declared⟩ := hs
  have width := width_of_agreement e
  have lanes := lanes_of_agreement e
  refine ⟨?_, ?_, ?_, ?_, ?_, ?_, ?_⟩
  · have pairs : ∀ x : State, (x.placements.map fun p => (p.head, p.carrier)) =
        (x.placements.map Placement.place).map fun y => (y.1, y.2.1) := fun x => by simp [Placement.place]
    rw [pairs, places_of_agreement e, ← pairs]
    exact unique
  · intro h c
    rw [headSet_of_agreement e, ← sets, placement_isSome_iff, placement_isSome_iff]
    exact ⟨stands_of_agreement e, stands_of_agreement e.symm⟩
  · intro p hp
    obtain ⟨q, hq, hplace⟩ := place_of_agreement e hp
    have run : s.ownsRun p.place := hplace ▸ placed q hq
    simpa only [State.ownsRun, Placement.place, width, lanes] using run
  · intro h i c hl
    rw [lanes] at hl
    obtain ⟨p, hp, hh, hc, hcov⟩ := owned h i c hl
    obtain ⟨q, hq, hplace⟩ := place_of_agreement e.symm hp
    simp only [Placement.place, Prod.mk.injEq] at hplace
    obtain ⟨qh, qc, qf, qu⟩ := hplace
    exact ⟨q, hq, qh.trans hh, qc.trans hc, by rw [qf, qu]; exact hcov⟩
  · intro c b hb
    rw [pending_of_agreement e] at hb
    simpa only [width, lanes, sectorMap_of_agreement e, State.gainingHeads, headSet_of_agreement e] using pending c b hb
  · intro h i c hl
    rw [lanes] at hl
    simpa only [pending_of_agreement e, width] using reserved h i c hl
  · intro c hd
    rw [declared_of_agreement e] at hd
    simp only [CarrierRecord.bound, active_of_agreement e, pending_of_agreement e]
    exact declared c hd

/-! ## Plans -/

theorem planPending_iff (s : State) : s.planPending = true ↔ ∃ k : SlotIndex, s.plans.slots[k].offer?.isSome = true := by
  simp [State.planPending, State.pendingPlan, allSlots, List.findSome?_isSome_iff]

theorem bindingPending_iff (s : State) : s.bindingPending = true ↔ ∃ c : Carrier, s.carriers[c].pending.isSome = true := by
  simp [State.bindingPending, allCarriers]

theorem offer_isSome_iff (x : PlanSlot) : x.offer?.isSome = true ↔ x.affected?.isSome = true := by
  simp [PlanSlot.affected?]

theorem plansAgree_of_agreement {s t : State} (e : t.agreement = s.agreement) (hs : s.plansAgree) : t.plansAgree := by
  obtain ⟨single, apart, affected, due⟩ := hs
  have offers : ∀ k : SlotIndex, t.plans.slots[k].offer?.isSome = s.plans.slots[k].offer?.isSome := fun k => by
    rw [Bool.eq_iff_iff, offer_isSome_iff, offer_isSome_iff, affected_of_agreement e]
  refine ⟨?_, ?_, ?_, ?_⟩
  · intro j k hj hk
    exact single j k (offers j ▸ hj) (offers k ▸ hk)
  · intro hp
    rw [planPending_iff] at hp
    simp only [offers, ← planPending_iff] at hp
    simpa only [State.bindingPending, pending_of_agreement e] using apart hp
  · intro k o ho
    have ha : s.plans.slots[k].affected? = some o.affected := by
      rw [← affected_of_agreement e, PlanSlot.affected?, ho, Option.map_some]
    obtain ⟨o', ho', hl⟩ := Option.map_eq_some_iff.1 ha
    exact hl ▸ affected k o' ho'
  · intro l hl
    have : l ∈ t.due.filterMap Due.carriers? := List.mem_filterMap.2 ⟨_, hl, rfl⟩
    rw [show t.due.filterMap Due.carriers? = s.due.filterMap Due.carriers? from congrArg Agreement.bindings e] at this
    obtain ⟨d, hd, hdl⟩ := List.mem_filterMap.1 this
    cases d <;> simp only [Due.carriers?, reduceCtorEq, Option.some.injEq] at hdl
    exact due l (hdl ▸ hd)

/-- What leaves the agreement alone keeps lanes and plans in agreement. -/
theorem agrees_of_agreement {s t : State} (e : t.agreement = s.agreement) (hs : s.agrees) : t.agrees :=
  ⟨lanesAgree_of_agreement e hs.1, plansAgree_of_agreement e hs.2⟩

end Sys2Proof.Machine
end

section
/-!
SUPPORT. The operations that leave the agreement of lanes and plans alone, in the order of the model's files.
-/

namespace Sys2Proof.Machine

open Sys2Proof

variable (s : State)

/-! ## Updates of one record -/

@[simp] theorem setMode_agreement (x : Mode) : (s.setMode x).agreement = s.agreement := rfl
@[simp] theorem setTiming_agreement (x : Timing) : (s.setTiming x).agreement = s.agreement := rfl
@[simp] theorem setWires_agreement (x : Wires) : (s.setWires x).agreement = s.agreement := rfl
@[simp] theorem setLoad_agreement (x : LoadMonitor) : (s.setLoad x).agreement = s.agreement := rfl
@[simp] theorem setLog_agreement (x : AlarmLog) : (s.setLog x).agreement = s.agreement := rfl
@[simp] theorem setArbiter_agreement (x : Arbiter) : (s.setArbiter x).agreement = s.agreement := rfl
@[simp] theorem setSatFrames_agreement (n : Nat) : (s.setSatFrames n).agreement = s.agreement := rfl
@[simp] theorem setInbox_agreement (p : Port) (m : Option Mail) : (s.setInbox p m).agreement = s.agreement := rfl
@[simp] theorem setWeight_agreement (l : Link) (w : Nat) : (s.setWeight l w).agreement = s.agreement := rfl
@[simp] theorem modPower_agreement (h : Head) (f : PowerHead → PowerHead) : (s.modPower h f).agreement = s.agreement := rfl
@[simp] theorem modUplink_agreement (h : Head) (f : UplinkHead → UplinkHead) :
    (s.modUplink h f).agreement = s.agreement := rfl
@[simp] theorem modMonitor_agreement (c : Carrier) (f : SaturationMonitor → SaturationMonitor) :
    (s.modMonitor c f).agreement = s.agreement := rfl
@[simp] theorem modHead_agreement (h : Head) (f : HeadLink → HeadLink) : (s.modHead h f).agreement = s.agreement := rfl
@[simp] theorem modPort_agreement (p : Port) (f : PortRecord → PortRecord) : (s.modPort p f).agreement = s.agreement := rfl
@[simp] theorem modLink_agreement (l : Link) (f : LinkRecord → LinkRecord) : (s.modLink l f).agreement = s.agreement := rfl
@[simp] theorem modTest_agreement (h : Head) (f : TestState → TestState) : (s.modTest h f).agreement = s.agreement := rfl
@[simp] theorem modLoadHead_agreement (h : Head) (f : LoadHead → LoadHead) : (s.modLoadHead h f).agreement = s.agreement := rfl
@[simp] theorem modTrigger_agreement (t : TriggerIndex) (f : Trigger → Trigger) :
    (s.modTrigger t f).agreement = s.agreement := rfl
@[simp] theorem enqueue_agreement (p : Port) (ms : List Message) : (s.enqueue p ms).agreement = s.agreement := rfl

/-- Placements that all stay in their places. -/
theorem setPlacements_map_agreement {f : Placement → Placement} (hf : ∀ p, (f p).place = p.place) :
    (s.setPlacements (s.placements.map f)).agreement = s.agreement := by
  have : (s.placements.map f).map Placement.place = s.placements.map Placement.place := by
    rw [List.map_map]; exact List.map_congr_left fun p _ => hf p
  simp only [State.agreement, State.setPlacements_placements, this]
  rfl

theorem modPlacement_agreement (h : Head) (c : Carrier) {f : Placement → Placement} (hf : ∀ p, (f p).place = p.place) :
    (s.modPlacement h c f).agreement = s.agreement :=
  setPlacements_map_agreement s fun p => by split <;> simp [hf]

/-- A carrier whose units and sectors stay as they are. -/
theorem modCarrier_agreement (c : Carrier) {f : CarrierRecord → CarrierRecord} (hf : ∀ r, (f r).traffic = r.traffic) :
    (s.modCarrier c f).agreement = s.agreement := by
  have : (s.modCarrier c f).carriers.map CarrierRecord.traffic = s.carriers.map CarrierRecord.traffic := by
    apply Vector.ext
    intro i hi
    simp only [State.modCarrier, Vector.getElem_map, Vector.getElem_set]
    split
    · next h => subst h; exact hf _
    · rfl
  simp only [State.agreement, this]
  rfl

/-- Something that names no bindings falls due. -/
theorem addDue_agreement {d : Due} (hd : d.carriers? = none) : (s.addDue d).agreement = s.agreement := by
  unfold State.addDue
  split
  · rfl
  · simp [State.agreement, hd]

theorem agreement_ite {P : Prop} [Decidable P] {t u : State} {a : Agreement} (ht : t.agreement = a)
    (hu : u.agreement = a) : (if P then t else u).agreement = a := by
  split <;> assumption

/-! ## Messages, the alarm log and recomputes -/

theorem agreement_of_sansPower {s t : State} (h : t.sansPower = s.sansPower) : t.agreement = s.agreement :=
  (congrArg State.agreement h :)

theorem agreement_of_sansLog {s t : State} (h : t.sansLog = s.sansLog) : t.agreement = s.agreement :=
  agreement_of_sansPower (sansPower_of_sansLog h)

@[simp] theorem sendUnsolicited_agreement (p : Port) (m : Message) : (s.sendUnsolicited p m).agreement = s.agreement :=
  agreement_of_sansLog (sendUnsolicited_sansLog s p m)

@[simp] theorem withLog_agreement (log : AlarmLog) (quiet : Option Link) : (s.withLog log quiet).agreement = s.agreement :=
  agreement_of_sansLog (withLog_sansLog s log quiet)

@[simp] theorem raise_agreement (k : AlarmKind) (x : Subject) (d : Nat) : (s.raise k x d).agreement = s.agreement :=
  agreement_of_sansLog (raise_sansLog s k x d)

@[simp] theorem clear_agreement (k : AlarmKind) (x : Subject) (quiet : Option Link) :
    (s.clear k x quiet).agreement = s.agreement :=
  agreement_of_sansLog (clear_sansLog s k x quiet)

@[simp] theorem startRecompute_agreement (h : Head) : (s.startRecompute h).agreement = s.agreement := rfl

@[simp] theorem requestRecompute_agreement (h : Head) : (s.requestRecompute h).agreement = s.agreement :=
  agreement_of_sansPower (requestRecompute_sansPower s h)

@[simp] theorem requestOnce_agreement (s0 : State) (h : Head) : (s.requestOnce s0 h).agreement = s.agreement :=
  agreement_of_sansPower (requestOnce_sansPower s s0 h)

@[simp] theorem handPower_agreement (s0 : State) (h : Head) (d : Nat) (b : Bool) :
    (s.handPower s0 h d b).agreement = s.agreement :=
  agreement_of_sansPower (handPower_sansPower s s0 h d b)

/-- A list of operations each of which keeps the agreement. -/
theorem forAll_agreement {α : Type} {g : α → State → State} (h : ∀ a t, (g a t).agreement = t.agreement) (l : List α) :
    (forAll l g s).agreement = s.agreement :=
  forAll_keeps State.agreement g h l s

/-! ## Eligibility, orphans, exclusion -/

@[simp] theorem evalOrphan_agreement (c : Carrier) : (s.evalOrphan c).agreement = s.agreement := by
  have flag : ∀ b, (s.modCarrier c fun r => { r with orphan := b }).agreement = s.agreement := fun b =>
    modCarrier_agreement s c fun _ => rfl
  unfold State.evalOrphan
  dsimp only
  split
  · rfl
  · split <;> simp [flag]

@[simp] theorem evalOrphans_agreement : s.evalOrphans.agreement = s.agreement :=
  forAll_agreement s (fun c t => evalOrphan_agreement t c) _

@[simp] theorem loseEligibility_agreement (p : Placement) : (s.loseEligibility p).agreement = s.agreement := by
  have left : (s.modPlacement p.head p.carrier fun x =>
      { x with outcome := .none, grant := 0, step := 31, basis := none, inUse := 31 }).agreement = s.agreement :=
    modPlacement_agreement s _ _ fun _ => rfl
  unfold State.loseEligibility
  exact agreement_ite ((clear_agreement _ _ _ _).trans left) left

@[simp] theorem settle_agreement (s0 : State) : (settle s0 s).agreement = s.agreement := by
  unfold settle
  dsimp only
  rw [evalOrphans_agreement, forAll_agreement _ (fun h t => requestRecompute_agreement t h),
    forAll_agreement _ (fun p t => loseEligibility_agreement t p)]

@[simp] theorem setExclusion_agreement (h : Head) (c : Carrier) (x : Exclusion) :
    (s.setExclusion h c x).agreement = s.agreement := by
  have set : (s.modPlacement h c fun q => { q with exclusion := x }).agreement = s.agreement :=
    modPlacement_agreement s h c fun _ => rfl
  unfold State.setExclusion
  split
  · rfl
  · exact agreement_ite rfl (agreement_ite (by simp [set]) (by simp [set]))

@[simp] theorem testDelay_agreement (h : Head) (c : Carrier) : (s.testDelay h c).agreement = s.agreement := by
  unfold State.testDelay
  split
  · rfl
  · split
    · rfl
    · split <;> simp

@[simp] theorem retryPlacement_agreement (h : Head) (c : Carrier) : (s.retryPlacement h c).agreement = s.agreement := by
  unfold State.retryPlacement
  split
  · rfl
  · split <;> simp

@[simp] theorem delayChanged_agreement (h : Head) : (s.delayChanged h).agreement = s.agreement := by
  unfold State.delayChanged State.retryPass
  dsimp only
  rw [forAll_agreement _ (fun _ t => retryPlacement_agreement t _ _)]
  split
  · exact forAll_agreement s (fun _ t => testDelay_agreement t h _) _
  · rfl

@[simp] theorem testCapability_agreement (h : Head) (c : Carrier) : (s.testCapability h c).agreement = s.agreement := by
  unfold State.testCapability
  split
  · rfl
  · split
    · rfl
    · split
      · simp
      · split <;> simp

@[simp] theorem capabilityChanged_agreement (h : Head) : (s.capabilityChanged h).agreement = s.agreement :=
  forAll_agreement s (fun _ t => testCapability_agreement t h _) _

@[simp] theorem evalCreated_agreement (h : Head) (c : Carrier) : (s.evalCreated h c).agreement = s.agreement := by
  unfold State.evalCreated
  split
  · simp
  · split <;> simp

@[simp] theorem atMoment_agreement (m : Nat) : (s.atMoment m).agreement = s.agreement := rfl

/-! ## Ports -/

@[simp] theorem arrive_agreement (p : Port) (m : Message) : (s.arrive p m).agreement = s.agreement := by
  unfold State.arrive
  split
  · rfl
  · split <;> rfl

@[simp] theorem deliver_agreement (p : Port) (a : Answer) : (s.deliver p a).agreement = s.agreement := by
  unfold State.deliver
  split
  · rfl
  · split
    · rfl
    all_goals
      split
      · rfl
      · dsimp only
        split <;> rfl

@[simp] theorem spiTransaction_agreement (bytes : List Byte) : (s.spiTransaction bytes).agreement = s.agreement := by
  have write : ∀ l, (s.spiWrite l).agreement = s.agreement := fun l => by
    unfold State.spiWrite
    split <;> simp
  have read : ∀ n, (s.spiRead n).agreement = s.agreement := fun n => by
    unfold State.spiRead
    split
    · rfl
    · dsimp only
      split <;> rfl
  unfold State.spiTransaction
  split
  · rfl
  · split
    · rfl
    · split
      · exact write _
      · split
        · exact read _
        · rfl

/-! ## Power sharing -/

@[simp] theorem installEntry_agreement (h : Head) (x : Snapshot) (e : Carrier × Nat) :
    (s.installEntry h x e).agreement = s.agreement := by
  unfold State.installEntry
  split
  · rfl
  · refine agreement_ite ?_ rfl
    dsimp only
    generalize hm : State.modPlacement s h e.1 _ = t
    have installed : t.agreement = s.agreement := hm ▸ modPlacement_agreement s h e.1 fun _ => rfl
    exact agreement_ite ((raise_agreement _ _ _ _).trans installed)
      (agreement_ite ((clear_agreement _ _ _ _).trans installed) installed)

@[simp] theorem completeRecompute_agreement (h : Head) : (s.completeRecompute h).agreement = s.agreement := by
  unfold State.completeRecompute
  split
  · rfl
  · dsimp only
    split <;> simp [forAll_agreement _ (fun e t => installEntry_agreement t h _ e)]

@[simp] theorem completeAged_agreement : s.completeAged.agreement = s.agreement :=
  forAll_agreement s (fun h t => by
    split
    · exact completeRecompute_agreement t h
    · split <;> rfl) _

/-! ## Load monitor and triggers -/

@[simp] theorem breakService_agreement (h : Head) : (s.breakService h).agreement = s.agreement := rfl
@[simp] theorem breakLink_agreement (l : Link) : (s.breakLink l).agreement = s.agreement := rfl
@[simp] theorem breakRun_agreement : s.breakRun.agreement = s.agreement := rfl
@[simp] theorem restartWindow_agreement (f : Frame) : (s.restartWindow f).agreement = s.agreement := rfl
@[simp] theorem publish_agreement : s.publish.agreement = s.agreement := rfl

@[simp] theorem loadBoundary_agreement : s.loadBoundary.agreement = s.agreement := by
  have count : ∀ (p : Placement) (t : State), (t.countPlacement p).agreement = t.agreement := fun p t => by
    unfold State.countPlacement
    split <;> rfl
  unfold State.loadBoundary
  dsimp only
  rw [State.freshMarks, setLoad_agreement]
  split
  · rfl
  · split
    · rw [addDue_agreement _ rfl, setLoad_agreement, forAll_agreement _ count]
    · rw [setLoad_agreement, forAll_agreement _ count]

/-! ## Head links -/

@[simp] theorem raiseHeld_agreement (h : Head) (k : AlarmKind) (d : Nat) : (s.raiseHeld h k d).agreement = s.agreement := by
  simp [State.raiseHeld]

@[simp] theorem clearHeld_agreement (h : Head) (k : AlarmKind) : (s.clearHeld h k).agreement = s.agreement := by
  unfold State.clearHeld
  split <;> simp

@[simp] theorem resetGuard_agreement (h : Head) : (s.resetGuard h).agreement = s.agreement := by simp [State.resetGuard]
@[simp] theorem stopBuffer_agreement (h : Head) : (s.stopBuffer h).agreement = s.agreement := rfl
@[simp] theorem startBuffer_agreement (h : Head) : (s.startBuffer h).agreement = s.agreement := rfl

@[simp] theorem handOnLeave_agreement (s0 : State) (h : Head) : (s.handOnLeave s0 h).agreement = s.agreement := by
  simp [State.handOnLeave]

@[simp] theorem leaveService_agreement (h : Head) (x : LinkState) : (s.leaveService h x).agreement = s.agreement := by
  unfold State.leaveService
  dsimp only
  rw [handOnLeave_agreement, modHead_agreement]
  split <;> simp

@[simp] theorem leaveFor_agreement (h : Head) (x : LinkState) : (s.leaveFor h x).agreement = s.agreement := by
  unfold State.leaveFor
  split <;> simp

@[simp] theorem enterService_agreement (h : Head) (d : Nat) : (s.enterService h d).agreement = s.agreement := by
  simp [State.enterService]

@[simp] theorem seekEntry_agreement (h : Head) : (s.seekEntry h).agreement = s.agreement := rfl
@[simp] theorem loseLink_agreement (h : Head) (d : Nat) : (s.loseLink h d).agreement = s.agreement := by simp [State.loseLink]
@[simp] theorem leaveMeasure_agreement (h : Head) : (s.leaveMeasure h).agreement = s.agreement := by simp [State.leaveMeasure]

@[simp] theorem completeSeek_agreement (h : Head) (m : Nat) : (s.completeSeek h m).agreement = s.agreement := by
  unfold State.completeSeek
  split <;> rfl

@[simp] theorem enterFailed_agreement (h : Head) (d : Nat) : (s.enterFailed h d).agreement = s.agreement := by
  simp [State.enterFailed]

@[simp] theorem enterOff_agreement (h : Head) : (s.enterOff h).agreement = s.agreement := by
  have conditions : ∀ t : State, (forAll headConditions (fun k u => u.clearHeld h k) t).agreement = t.agreement := fun t =>
    forAll_agreement t (fun k u => clearHeld_agreement u h k) _
  unfold State.enterOff
  dsimp only
  split <;> simp [conditions]

@[simp] theorem loseLight_agreement (h : Head) : (s.loseLight h).agreement = s.agreement := by
  unfold State.loseLight
  dsimp only
  split <;> simp

@[simp] theorem loseLock_agreement (h : Head) : (s.loseLock h).agreement = s.agreement := by
  unfold State.loseLock
  dsimp only
  split <;> simp

@[simp] theorem takeCapability_agreement (h : Head) (r : HeadReport) : (s.takeCapability h r).agreement = s.agreement := by
  unfold State.takeCapability
  exact agreement_ite rfl (by simp)

@[simp] theorem followFault_agreement (h : Head) (b : Option ReportRecord) (n : ReportRecord) :
    (s.followFault h b n).agreement = s.agreement := by
  unfold State.followFault
  split
  · simp
  · split <;> simp

@[simp] theorem takeReport_agreement (h : Head) (r : HeadReport) : (s.takeReport h r).agreement = s.agreement := by
  unfold State.takeReport
  dsimp only
  rw [followFault_agreement, handPower_agreement]
  split <;> simp

@[simp] theorem judgePeriod_agreement (h : Head) : (s.judgePeriod h).agreement = s.agreement := by
  unfold State.judgePeriod
  dsimp only
  split
  · rfl
  · split
    · rfl
    · split
      · simp
      · split <;> simp

@[simp] theorem seekFallsDue_agreement (h : Head) (m : Nat) : (s.seekFallsDue h m).agreement = s.agreement := by
  unfold State.seekFallsDue
  dsimp only
  split
  · rfl
  · simp [State.agreement, Due.carriers?]

@[simp] theorem reportArrived_agreement (h : Head) : (s.reportArrived h).agreement = s.agreement := by
  unfold State.reportArrived
  split
  · simp
  · dsimp only
    split <;> simp

@[simp] theorem passMaximum_agreement (h : Head) : (s.passMaximum h).agreement = s.agreement := by simp [State.passMaximum]

@[simp] theorem loseReports_agreement (h : Head) : (s.loseReports h).agreement = s.agreement := by
  unfold State.loseReports
  split <;> simp

@[simp] theorem failAttempt_agreement (h : Head) (r : Nat) : (s.failAttempt h r).agreement = s.agreement := by
  unfold State.failAttempt
  dsimp only
  split
  · split <;> simp
  · simp

@[simp] theorem acceptRemeasure_agreement (h : Head) (d : Nat) : (s.acceptRemeasure h d).agreement = s.agreement := by
  unfold State.acceptRemeasure
  dsimp only
  split <;> simp

@[simp] theorem returnMarker_agreement (h : Head) (f : Frame) (n : Nat) : (s.returnMarker h f n).agreement = s.agreement := by
  have complete : ∀ (t : State) l, (t.completeAttempt h l).agreement = t.agreement := fun t l => by
    unfold State.completeAttempt
    split
    · simp
    · split <;> simp
  unfold State.returnMarker
  split
  · rfl
  · split
    · rfl
    · dsimp only
      split <;> simp [complete]

@[simp] theorem beginAttempt_agreement (h : Head) : (s.beginAttempt h).agreement = s.agreement := by
  unfold State.beginAttempt
  split <;> rfl

@[simp] theorem beginRemeasure_agreement (h : Head) : (s.beginRemeasure h).agreement = s.agreement := by
  unfold State.beginRemeasure
  dsimp only
  split <;> rfl

@[simp] theorem loseMarker_agreement (h : Head) : (s.loseMarker h).agreement = s.agreement := by
  unfold State.loseMarker
  split <;> simp

@[simp] theorem endBlipWindow_agreement (h : Head) : (s.endBlipWindow h).agreement = s.agreement := by
  unfold State.endBlipWindow
  split
  · rfl
  · dsimp only
    rw [modHead_agreement]
    split <;> simp

@[simp] theorem endErrorWindow_agreement (h : Head) : (s.endErrorWindow h).agreement = s.agreement := by
  unfold State.endErrorWindow
  dsimp only
  split
  · split <;> simp
  · split
    · simp
    · split <;> simp
  all_goals rfl

@[simp] theorem expireHoldOff_agreement (h : Head) : (s.expireHoldOff h).agreement = s.agreement := by
  unfold State.expireHoldOff
  split <;> rfl

@[simp] theorem watchMaximum_agreement (h : Head) : (s.watchMaximum h).agreement = s.agreement := by
  obtain e | ⟨_, _, _, _, e⟩ := watchMaximum_cases s h <;> rw [e]
  exact passMaximum_agreement s h

@[simp] theorem watchLost_agreement (h : Head) : (s.watchLost h).agreement = s.agreement := by
  obtain e | ⟨_, _, _, e⟩ := watchLost_cases s h <;> rw [e]
  exact loseReports_agreement s h

@[simp] theorem watchLight_agreement (h : Head) : (s.watchLight h).agreement = s.agreement := by
  obtain e | ⟨_, _, _, e⟩ := watchLight_cases s h <;> rw [e]
  exact loseLight_agreement s h

@[simp] theorem compareLimits_agreement (h : Head) (old : HeadSettings) :
    (s.compareLimits h old).agreement = s.agreement := by
  unfold State.compareLimits
  extract_lets y t u v
  have ht : t.agreement = s.agreement := agreement_ite (by simp) rfl
  have hu : u.agreement = s.agreement := agreement_ite (by simp [ht]) ht
  have hv : v.agreement = s.agreement := agreement_ite (by simp [hu]) hu
  exact agreement_ite (by simp [hv]) hv

end Sys2Proof.Machine
end

section
/-!
SUPPORT. Lane units as placements own them and pending bindings reserve them: what creating and removing a placement, and
reserving and releasing a run, make of them.
-/

namespace Sys2Proof.Machine

open Sys2Proof

/-! ## Lane tables -/

theorem fillLanes_get (lanes : Vector LaneUnit 8) (first units : Nat) (x : LaneUnit) (i : LaneIndex) :
    (covers first units i → (fillLanes lanes first units x)[i] = x) ∧
      (¬ covers first units i → (fillLanes lanes first units x)[i] = lanes[i]) := by
  constructor <;> intro h <;> simp only [covers] at h <;> simp [fillLanes, h]

theorem replaceLanes_get (lanes : Vector LaneUnit 8) (x y : LaneUnit) (i : LaneIndex) :
    (replaceLanes lanes x y)[i] = if lanes[i] = x then y else lanes[i] := by
  simp [replaceLanes]

theorem modLanes_get (s : State) (h g : Head) (f : Vector LaneUnit 8 → Vector LaneUnit 8) :
    (s.modLanes h f).lanes[g] = if h = g then f s.lanes[g] else s.lanes[g] := by
  rw [State.modLanes_lanes, get_set]
  split
  · next e => rw [e]
  · rfl

theorem modLanes_unit (s : State) (h g : Head) (f : Vector LaneUnit 8 → Vector LaneUnit 8) (i : LaneIndex) :
    (s.modLanes h f).lanes[g][i] = if g = h then (f s.lanes[g])[i] else s.lanes[g][i] := by
  have e := modLanes_get s h g f
  by_cases x : g = h
  · rw [if_pos x.symm] at e; rw [if_pos x]; exact congrArg (fun l : Vector LaneUnit 8 => l[i]) e
  · rw [if_neg (Ne.symm x)] at e; rw [if_neg x]; exact congrArg (fun l : Vector LaneUnit 8 => l[i]) e

/-- A unit after a run on a head has been filled. -/
theorem fillRun_unit (s : State) (h : Head) (u n : Nat) (x : LaneUnit) (g : Head) (i : LaneIndex) :
    (g = h ∧ covers u n i → (s.modLanes h fun l => fillLanes l u n x).lanes[g][i] = x) ∧
      (¬ (g = h ∧ covers u n i) → (s.modLanes h fun l => fillLanes l u n x).lanes[g][i] = s.lanes[g][i]) := by
  rw [modLanes_unit]
  obtain ⟨inside, outside⟩ := fillLanes_get s.lanes[g] u n x i
  constructor
  · rintro ⟨rfl, hc⟩; rw [if_pos rfl]; exact inside hc
  · intro hne
    split
    · next e => exact outside fun hc => hne ⟨e, hc⟩
    · rfl

/-- A unit after the units of a head that hold one value have taken another. -/
theorem replaceRun_unit (s : State) (h : Head) (x y : LaneUnit) (g : Head) (i : LaneIndex) :
    (s.modLanes h fun l => replaceLanes l x y).lanes[g][i] =
      if g = h ∧ s.lanes[g][i] = x then y else s.lanes[g][i] := by
  rw [modLanes_unit, replaceLanes_get, ite_and]

/-! ## Lanes held by placements and reservations -/

/-- Lane tables agree with the placements and with given reservations of each carrier: no pair of head and carrier has two
placements, each placement owns its run and each reservation has its run RESERVED, and every unit that is owned or RESERVED
is part of such a run (R16, R25). -/
structure State.lanesHeld (s : State) (held : Carrier → List Reservation) : Prop where
  unique : (s.placements.map fun p => (p.head, p.carrier)).Nodup
  placed : ∀ p ∈ s.placements, s.ownsRun p.place
  owned : ∀ (h : Head) (i : LaneIndex) (c : Carrier), s.lanes[h][i] = .owned c →
    ∃ p ∈ s.placements, p.head = h ∧ p.carrier = c ∧ covers p.first.val p.units i
  kept : ∀ (c : Carrier), ∀ r ∈ held c, r.first ∈ s.carriers[c].width.starts ∧
    ∀ i, covers r.first.val s.carriers[c].width.units i → s.lanes[r.head][i] = .reserved c
  reserved : ∀ (h : Head) (i : LaneIndex) (c : Carrier), s.lanes[h][i] = .reserved c →
    ∃ r ∈ held c, r.head = h ∧ covers r.first.val s.carriers[c].width.units i

/-- The reservations of a carrier's pending binding. -/
def State.reservations (s : State) (c : Carrier) : List Reservation := (s.carriers[c].pending.map (·.reserved)).getD []

theorem reservations_of_some {s : State} {c : Carrier} {b : PendingBinding} (e : s.carriers[c].pending = some b) :
    s.reservations c = b.reserved := by rw [State.reservations, e]; rfl

theorem reservations_of_none {s : State} {c : Carrier} (e : s.carriers[c].pending = none) : s.reservations c = [] := by
  rw [State.reservations, e]; rfl

/-- The agreement of lanes, in terms of the lanes held. -/
theorem lanesAgree_iff (s : State) :
    s.lanesAgree ↔ s.lanesHeld s.reservations ∧ (∀ h c, s.stands h c ↔ h ∈ s.headSet c) ∧
      (∀ (c : Carrier) (b : PendingBinding), s.carriers[c].pending = some b →
        b.reserved.map (·.head) = s.gainingHeads c (headSetUnder s.sectorMap b.sectors)) ∧
      ∀ c : Carrier, s.carriers[c].declared = false → s.carriers[c].bound = false := by
  constructor
  · rintro ⟨unique, sets, placed, owned, pending, reserved, declared⟩
    refine ⟨⟨unique, placed, owned, ?_, ?_⟩, fun h c => (placement_isSome_iff s h c).symm.trans (sets h c), fun c b e => (pending c b e).1,
      declared⟩
    · intro c r hr
      cases e : s.carriers[c].pending with
      | none => rw [reservations_of_none e] at hr; cases hr
      | some b => exact (pending c b e).2 r (reservations_of_some e ▸ hr)
    · intro h i c e
      obtain ⟨b, hb, r, hr, hcov⟩ := reserved h i c e
      exact ⟨r, (reservations_of_some hb).symm ▸ hr, hcov⟩
  · rintro ⟨⟨unique, placed, owned, kept, reserved⟩, sets, pending, declared⟩
    refine ⟨unique, fun h c => (placement_isSome_iff s h c).trans (sets h c), placed, owned, ?_, ?_, declared⟩
    · intro c b e
      refine ⟨pending c b e, fun r hr => kept c r ((reservations_of_some e).symm ▸ hr)⟩
    · intro h i c e
      obtain ⟨r, hr, hcov⟩ := reserved h i c e
      cases hp : s.carriers[c].pending with
      | none => rw [reservations_of_none hp] at hr; cases hr
      | some b => exact ⟨b, rfl, r, reservations_of_some hp ▸ hr, hcov⟩

/-- The lanes held depend on the placements, the lane tables, the width classes and the reservations alone. -/
theorem lanesHeld_congr {s t : State} {held : Carrier → List Reservation} (hp : t.placements = s.placements)
    (hl : t.lanes = s.lanes) (hw : ∀ c : Carrier, t.carriers[c].width = s.carriers[c].width) (h : s.lanesHeld held) :
    t.lanesHeld held := by
  obtain ⟨unique, placed, owned, kept, reserved⟩ := h
  constructor
  · simpa only [hp] using unique
  · simpa only [hp, State.ownsRun, hw, hl] using placed
  · simpa only [hp, hl] using owned
  · simpa only [hl, hw] using kept
  · simpa only [hl, hw] using reserved

/-! ## A placement is removed -/

theorem removePlacement_placements (s : State) (h : Head) (c : Carrier) :
    (s.removePlacement h c).placements =
      s.placements.filter fun p => !(decide (p.head = h) && decide (p.carrier = c)) := by
  simp [State.removePlacement, State.withdrawWritable]

theorem removePlacement_lanes (s : State) (h : Head) (c : Carrier) :
    (s.removePlacement h c).lanes = (s.modLanes h fun l => replaceLanes l (.owned c) .free).lanes := by
  simp [State.removePlacement, State.withdrawWritable]

@[simp] theorem removePlacement_carriers (s : State) (h : Head) (c : Carrier) :
    (s.removePlacement h c).carriers = s.carriers := by simp [State.removePlacement, State.withdrawWritable]

@[simp] theorem removePlacement_sectorMap (s : State) (h : Head) (c : Carrier) :
    (s.removePlacement h c).sectorMap = s.sectorMap := by simp [State.removePlacement, State.withdrawWritable]

@[simp] theorem removePlacement_plans (s : State) (h : Head) (c : Carrier) :
    (s.removePlacement h c).plans = s.plans := by simp [State.removePlacement, State.withdrawWritable]

@[simp] theorem removePlacement_due (s : State) (h : Head) (c : Carrier) :
    (s.removePlacement h c).due = s.due := by simp [State.removePlacement, State.withdrawWritable]

theorem mem_removePlacement {s : State} {h : Head} {c : Carrier} {p : Placement} :
    p ∈ (s.removePlacement h c).placements ↔ p ∈ s.placements ∧ ¬ (p.head = h ∧ p.carrier = c) := by
  simp only [removePlacement_placements, List.mem_filter, Bool.not_eq_true', Bool.and_eq_false_iff, decide_eq_false_iff_not,
    not_and_or]

theorem stands_removePlacement {s : State} {h : Head} {c : Carrier} {g : Head} {d : Carrier} :
    (s.removePlacement h c).stands g d ↔ s.stands g d ∧ ¬ (g = h ∧ d = c) := by
  simp only [State.stands, mem_removePlacement]
  constructor
  · rintro ⟨p, ⟨hp, hne⟩, rfl, rfl⟩; exact ⟨⟨p, hp, rfl, rfl⟩, hne⟩
  · rintro ⟨⟨p, hp, rfl, rfl⟩, hne⟩; exact ⟨p, ⟨hp, hne⟩, rfl, rfl⟩

/-- A unit after a placement is removed. -/
theorem removePlacement_unit (s : State) (h : Head) (c : Carrier) (g : Head) (i : LaneIndex) :
    (s.removePlacement h c).lanes[g][i] =
      if g = h ∧ s.lanes[g][i] = .owned c then .free else s.lanes[g][i] := by
  exact (congrArg (fun l : Vector (Vector LaneUnit 8) 16 => l[g][i]) (removePlacement_lanes s h c)).trans
    (replaceRun_unit s h _ _ g i)

theorem removePlacement_lanesHeld {s : State} {held : Carrier → List Reservation} (hs : s.lanesHeld held) (h : Head)
    (c : Carrier) : (s.removePlacement h c).lanesHeld held := by
  obtain ⟨unique, placed, owned, kept, reserved⟩ := hs
  refine ⟨?_, ?_, ?_, ?_, ?_⟩
  · rw [removePlacement_placements]
    exact unique.sublist (List.filter_sublist.map _)
  · intro p hp
    obtain ⟨hp, hne⟩ := mem_removePlacement.1 hp
    obtain ⟨hu, hf, hrun⟩ := placed p hp
    refine ⟨by simpa using hu, by simpa using hf, fun i hi => ?_⟩
    have hi := hrun i hi
    rw [removePlacement_unit, if_neg, hi]
    rintro ⟨hh, ho⟩
    rw [hi, LaneUnit.owned.injEq] at ho
    exact hne ⟨hh, ho⟩
  · intro g i d e
    rw [removePlacement_unit] at e
    split at e
    · cases e
    · next hne =>
      obtain ⟨p, hp, rfl, rfl, hcov⟩ := owned g i d e
      exact ⟨p, mem_removePlacement.2 ⟨hp, fun x => hne ⟨x.1, x.2 ▸ e⟩⟩, rfl, rfl, hcov⟩
  · intro d r hr
    obtain ⟨hf, hrun⟩ := kept d r hr
    refine ⟨by simpa using hf, fun i hi => ?_⟩
    have hi := hrun i (by simpa using hi)
    rw [removePlacement_unit, if_neg (fun x => by rw [hi] at x; cases x.2), hi]
  · intro g i d e
    rw [removePlacement_unit] at e
    split at e
    · cases e
    · simpa using reserved g i d e

/-! ## A placement is created -/

theorem mem_insertPlacement {p q : Placement} {l : List Placement} : q ∈ insertPlacement p l ↔ q = p ∨ q ∈ l := by
  induction l with
  | nil => simp [insertPlacement]
  | cons x rest ih =>
    unfold insertPlacement
    split
    · simp
    · simp only [List.mem_cons, ih]; exact or_left_comm

theorem insertPlacement_perm (p : Placement) (l : List Placement) : (insertPlacement p l).Perm (p :: l) := by
  induction l with
  | nil => exact .refl _
  | cons x rest ih =>
    unfold insertPlacement
    split
    · exact .refl _
    · exact (ih.cons x).trans (.swap p x rest)

theorem mem_createPlacement {s : State} {h : Head} {c : Carrier} {u : LaneIndex} {p : Placement} :
    p ∈ (s.createPlacement h c u).placements ↔ p = newPlacement h c u s.carriers[c].width.units ∨ p ∈ s.placements := by
  simp [State.createPlacement, mem_insertPlacement]

@[simp] theorem createPlacement_carriers (s : State) (h : Head) (c : Carrier) (u : LaneIndex) :
    (s.createPlacement h c u).carriers = s.carriers := rfl
@[simp] theorem createPlacement_sectorMap (s : State) (h : Head) (c : Carrier) (u : LaneIndex) :
    (s.createPlacement h c u).sectorMap = s.sectorMap := rfl
@[simp] theorem createPlacement_plans (s : State) (h : Head) (c : Carrier) (u : LaneIndex) :
    (s.createPlacement h c u).plans = s.plans := rfl
@[simp] theorem createPlacement_due (s : State) (h : Head) (c : Carrier) (u : LaneIndex) :
    (s.createPlacement h c u).due = s.due := rfl

theorem stands_createPlacement {s : State} {h : Head} {c : Carrier} {u : LaneIndex} {g : Head} {d : Carrier} :
    (s.createPlacement h c u).stands g d ↔ s.stands g d ∨ (g = h ∧ d = c) := by
  simp only [State.stands, mem_createPlacement]
  constructor
  · rintro ⟨p, rfl | hp, rfl, rfl⟩
    · exact .inr ⟨rfl, rfl⟩
    · exact .inl ⟨p, hp, rfl, rfl⟩
  · rintro (⟨p, hp, rfl, rfl⟩ | ⟨rfl, rfl⟩)
    · exact ⟨p, .inr hp, rfl, rfl⟩
    · exact ⟨_, .inl rfl, rfl, rfl⟩

/-- The lane tables after a placement is created. -/
theorem createPlacement_lanes (s : State) (h : Head) (c : Carrier) (u : LaneIndex) (g : Head) :
    (s.createPlacement h c u).lanes[g] =
      if h = g then fillLanes s.lanes[g] u.val s.carriers[c].width.units (.owned c) else s.lanes[g] :=
  modLanes_get s h g fun l => fillLanes l u.val s.carriers[c].width.units (.owned c)

/-- A unit after a placement is created. -/
theorem createPlacement_unit (s : State) (h : Head) (c : Carrier) (u : LaneIndex) (g : Head) (i : LaneIndex) :
    (g = h ∧ covers u.val s.carriers[c].width.units i → (s.createPlacement h c u).lanes[g][i] = .owned c) ∧
      (¬ (g = h ∧ covers u.val s.carriers[c].width.units i) → (s.createPlacement h c u).lanes[g][i] = s.lanes[g][i]) :=
  fillRun_unit s h u.val s.carriers[c].width.units (.owned c) g i

/-- Every unit of a run is FREE. -/
def State.runFree (s : State) (h : Head) (u : LaneIndex) (n : Nat) : Prop := ∀ i, covers u.val n i → s.lanes[h][i] = .free

theorem createPlacement_lanesHeld {s : State} {held : Carrier → List Reservation} (hs : s.lanesHeld held) {h : Head}
    {c : Carrier} {u : LaneIndex} (hu : u ∈ s.carriers[c].width.starts) (hfree : s.runFree h u s.carriers[c].width.units)
    (hnone : ¬ s.stands h c) : (s.createPlacement h c u).lanesHeld held := by
  obtain ⟨unique, placed, owned, kept, reserved⟩ := hs
  have unit := createPlacement_unit s h c u
  have old : ∀ {g : Head} {i : LaneIndex}, s.lanes[g][i] ≠ .free →
      (s.createPlacement h c u).lanes[g][i] = s.lanes[g][i] := fun {g i} hne =>
    (unit g i).2 fun ⟨e, hc⟩ => hne (e ▸ hfree i hc)
  refine ⟨?_, ?_, ?_, ?_, ?_⟩
  · have hp : ((s.createPlacement h c u).placements.map fun p => (p.head, p.carrier)).Perm
        ((h, c) :: s.placements.map fun p => (p.head, p.carrier)) := (insertPlacement_perm _ _).map _
    refine hp.nodup_iff.2 (List.nodup_cons.2 ⟨fun hm => ?_, unique⟩)
    obtain ⟨p, hp, e⟩ := List.mem_map.1 hm
    exact hnone ⟨p, hp, (Prod.mk.inj e).1, (Prod.mk.inj e).2⟩
  · intro p hp
    obtain rfl | hp := mem_createPlacement.1 hp
    · exact ⟨rfl, hu, fun i hi => (unit h i).1 ⟨rfl, hi⟩⟩
    · obtain ⟨hn, hf, hrun⟩ := placed p hp
      exact ⟨hn, hf, fun i hi => by rw [old (by rw [hrun i hi]; simp), hrun i hi]⟩
  · intro g i d e
    by_cases hc : g = h ∧ covers u.val s.carriers[c].width.units i
    · obtain rfl : c = d := LaneUnit.owned.inj ((unit g i).1 hc ▸ e)
      exact ⟨_, mem_createPlacement.2 (.inl rfl), hc.1.symm, rfl, hc.2⟩
    · obtain ⟨p, hp, hcov⟩ := owned g i d ((unit g i).2 hc ▸ e)
      exact ⟨p, mem_createPlacement.2 (.inr hp), hcov⟩
  · intro d r hr
    obtain ⟨hf, hrun⟩ := kept d r hr
    exact ⟨hf, fun i hi => by rw [old (by rw [hrun i hi]; simp), hrun i hi]⟩
  · intro g i d e
    by_cases hc : g = h ∧ covers u.val s.carriers[c].width.units i
    · rw [(unit g i).1 hc] at e; cases e
    · exact reserved g i d ((unit g i).2 hc ▸ e)

/-! ## A run is reserved, and released -/

theorem reserveRun_lanesHeld {s : State} {held held' : Carrier → List Reservation} (hs : s.lanesHeld held) {c : Carrier}
    {r : Reservation} (hu : r.first ∈ s.carriers[c].width.starts)
    (hfree : s.runFree r.head r.first s.carriers[c].width.units) (hc : ∀ x, x ∈ held' c ↔ x = r ∨ x ∈ held c)
    (hd : ∀ d, d ≠ c → held' d = held d) :
    (s.modLanes r.head fun l => fillLanes l r.first.val s.carriers[c].width.units (.reserved c)).lanesHeld held' := by
  obtain ⟨unique, placed, owned, kept, reserved⟩ := hs
  have unit := fillRun_unit s r.head r.first.val s.carriers[c].width.units (.reserved c)
  have old : ∀ {g : Head} {i : LaneIndex}, s.lanes[g][i] ≠ .free →
      (s.modLanes r.head fun l => fillLanes l r.first.val s.carriers[c].width.units (.reserved c)).lanes[g][i] = s.lanes[g][i] :=
    fun {g i} hne => (unit g i).2 fun ⟨e, hc⟩ => hne (e ▸ hfree i hc)
  refine ⟨unique, ?_, ?_, ?_, ?_⟩
  · intro p hp
    obtain ⟨hn, hf, hrun⟩ := placed p hp
    exact ⟨hn, hf, fun i hi => by rw [old (by rw [hrun i hi]; simp), hrun i hi]⟩
  · intro g i d e
    by_cases hcov : g = r.head ∧ covers r.first.val s.carriers[c].width.units i
    · rw [(unit g i).1 hcov] at e; cases e
    · exact owned g i d ((unit g i).2 hcov ▸ e)
  · intro d x hx
    have old_run : x ∈ held d → _ := fun hx =>
      (⟨(kept d x hx).1, fun i hi => by rw [old (by rw [(kept d x hx).2 i hi]; simp), (kept d x hx).2 i hi]⟩ :
        x.first ∈ s.carriers[d].width.starts ∧ ∀ i, covers x.first.val s.carriers[d].width.units i →
          (s.modLanes r.head fun l => fillLanes l r.first.val s.carriers[c].width.units (.reserved c)).lanes[x.head][i] =
            .reserved d)
    by_cases e : d = c
    · subst e
      obtain rfl | hx := (hc x).1 hx
      · exact ⟨hu, fun i hi => (unit x.head i).1 ⟨rfl, hi⟩⟩
      · exact old_run hx
    · exact old_run (hd d e ▸ hx)
  · intro g i d e
    by_cases hcov : g = r.head ∧ covers r.first.val s.carriers[c].width.units i
    · obtain rfl : c = d := LaneUnit.reserved.inj ((unit g i).1 hcov ▸ e)
      exact ⟨r, (hc r).2 (.inl rfl), hcov.1.symm, hcov.2⟩
    · obtain ⟨x, hx, hcov⟩ := reserved g i d ((unit g i).2 hcov ▸ e)
      refine ⟨x, ?_, hcov⟩
      by_cases ed : d = c
      · subst ed; exact (hc x).2 (.inr hx)
      · rw [hd d ed]; exact hx

theorem releaseRun_lanesHeld {s : State} {held held' : Carrier → List Reservation} (hs : s.lanesHeld held) {h : Head}
    {c : Carrier} (hc : ∀ x, x ∈ held' c ↔ x ∈ held c ∧ x.head ≠ h) (hd : ∀ d, d ≠ c → held' d = held d) :
    (s.modLanes h fun l => replaceLanes l (.reserved c) .free).lanesHeld held' := by
  obtain ⟨unique, placed, owned, kept, reserved⟩ := hs
  refine ⟨unique, ?_, ?_, ?_, ?_⟩
  · intro p hp
    obtain ⟨hn, hf, hrun⟩ := placed p hp
    refine ⟨hn, hf, fun i hi => ?_⟩
    have hi := hrun i hi
    rw [replaceRun_unit, if_neg (fun x => by rw [hi] at x; cases x.2), hi]
  · intro g i d e
    rw [replaceRun_unit] at e
    split at e
    · cases e
    · exact owned g i d e
  · intro d x hx
    have hx' : x ∈ held d ∧ ¬ (x.head = h ∧ d = c) := by
      by_cases e : d = c
      · subst e; exact ⟨((hc x).1 hx).1, fun y => ((hc x).1 hx).2 y.1⟩
      · exact ⟨hd d e ▸ hx, fun y => e y.2⟩
    refine ⟨(kept d x hx'.1).1, fun i hi => ?_⟩
    have hi := (kept d x hx'.1).2 i hi
    rw [replaceRun_unit, if_neg, hi]
    rintro ⟨hh, hr⟩
    rw [hi, LaneUnit.reserved.injEq] at hr
    exact hx'.2 ⟨hh, hr⟩
  · intro g i d e
    rw [replaceRun_unit] at e
    split at e
    · cases e
    · next hne =>
      obtain ⟨x, hx, rfl, hcov⟩ := reserved g i d e
      refine ⟨x, ?_, rfl, hcov⟩
      by_cases ed : d = c
      · subst ed; exact (hc x).2 ⟨hx, fun y => hne ⟨y, e⟩⟩
      · rw [hd d ed]; exact hx

end Sys2Proof.Machine
end

section
/-!
SUPPORT. The requests and due steps that change carriers, bindings and placements keep lanes in agreement: DECLARE and
WITHDRAW, an accepted BIND, and the application of bindings.
-/

namespace Sys2Proof.Machine

open Sys2Proof

/-! ## Lists of operations, one at a time -/

@[simp] theorem forAll_nil {α : Type} (f : α → State → State) (s : State) : forAll [] f s = s := rfl

@[simp] theorem forAll_cons {α : Type} (a : α) (l : List α) (f : α → State → State) (s : State) :
    forAll (a :: l) f s = forAll l f (f a s) := rfl

theorem modCarrier_get (s : State) (c d : Carrier) (f : CarrierRecord → CarrierRecord) :
    (s.modCarrier c f).carriers[d] = if c = d then f s.carriers[d] else s.carriers[d] := by
  rw [State.modCarrier_carriers, get_set]
  split
  · next e => subst e; rfl
  · rfl

theorem modCarrier_get_same (s : State) (c : Carrier) (f : CarrierRecord → CarrierRecord) :
    (s.modCarrier c f).carriers[c] = f s.carriers[c] := by rw [modCarrier_get, if_pos rfl]

theorem modCarrier_get_other (s : State) {c d : Carrier} (f : CarrierRecord → CarrierRecord) (h : d ≠ c) :
    (s.modCarrier c f).carriers[d] = s.carriers[d] := by rw [modCarrier_get, if_neg (Ne.symm h)]

/-! ## Plans stay in agreement -/

/-- Plans stay in agreement where offers only end, bindings are only applied, and what falls due names no carrier twice. -/
theorem plansAgree_mono {s t : State} (hs : s.plansAgree)
    (offers : ∀ k : SlotIndex, t.plans.slots[k].affected? = none ∨ t.plans.slots[k].affected? = s.plans.slots[k].affected?)
    (pending : ∀ c : Carrier, t.carriers[c].pending.isSome = true → s.carriers[c].pending.isSome = true)
    (due : ∀ l, .bindingApply l ∈ t.due → .bindingApply l ∈ s.due ∨ l.Nodup) : t.plansAgree := by
  obtain ⟨single, apart, affected, nodup⟩ := hs
  have before : ∀ k : SlotIndex, t.plans.slots[k].offer?.isSome = true → s.plans.slots[k].offer?.isSome = true := fun k hk => by
    rw [offer_isSome_iff] at hk ⊢
    obtain e | e := offers k <;> rw [e] at hk
    · cases hk
    · exact hk
  refine ⟨fun j k hj hk => single j k (before j hj) (before k hk), fun hp => ?_, fun k o ho => ?_, fun l hl => ?_⟩
  · obtain ⟨k, hk⟩ := (planPending_iff t).1 hp
    have none := apart ((planPending_iff s).2 ⟨k, before k hk⟩)
    rw [← Bool.not_eq_true, bindingPending_iff] at none ⊢
    exact fun ⟨c, hc⟩ => none ⟨c, pending c hc⟩
  · have ha : t.plans.slots[k].affected? = some o.affected := by rw [PlanSlot.affected?, ho]; rfl
    obtain e | e := offers k
    · rw [e] at ha; cases ha
    · rw [e] at ha
      obtain ⟨o', ho', hl⟩ := Option.map_eq_some_iff.1 ha
      exact hl ▸ affected k o' ho'
  · exact (due l hl).elim (nodup l) id

/-- The agreement of lanes is one of the placements, the lane tables, the sector map and the carrier records. -/
theorem lanesAgree_congr {s t : State} (hp : t.placements = s.placements) (hl : t.lanes = s.lanes)
    (hm : t.sectorMap = s.sectorMap) (hc : t.carriers = s.carriers) (h : s.lanesAgree) : t.lanesAgree := by
  simpa only [State.lanesAgree, State.placement, State.headSet, State.gainingHeads, hp, hl, hm, hc] using h

/-! ## DECLARE and WITHDRAW -/

theorem bound_eq_false_iff (r : CarrierRecord) : r.bound = false ↔ r.active = [] ∧ r.pending = none := by
  simp [CarrierRecord.bound]

theorem headSet_of_inactive {s : State} {c : Carrier} (h : s.carriers[c].active = []) : s.headSet c = [] := by
  rw [State.headSet, h, headSetUnder, List.filter_eq_nil_iff]
  intro x _
  cases s.sectorMap[x] <;> simp

/-- A carrier's record changes in its width class only while it is unbound, and keeps its sectors. -/
theorem modCarrier_lanesAgree {s : State} (hs : s.lanesAgree) {c : Carrier} {f : CarrierRecord → CarrierRecord}
    (hactive : (f s.carriers[c]).active = s.carriers[c].active) (hpending : (f s.carriers[c]).pending = s.carriers[c].pending)
    (hwidth : (f s.carriers[c]).width = s.carriers[c].width ∨ s.carriers[c].bound = false)
    (hdeclared : (f s.carriers[c]).declared = false → s.carriers[c].bound = false) : (s.modCarrier c f).lanesAgree := by
  obtain ⟨⟨unique, placed, owned, kept, reserved⟩, sets, pending, declared⟩ := (lanesAgree_iff s).1 hs
  have active' : ∀ d : Carrier, (s.modCarrier c f).carriers[d].active = s.carriers[d].active := fun d => by
    by_cases e : d = c
    · subst e; rw [modCarrier_get_same, hactive]
    · rw [modCarrier_get_other s f e]
  have pending' : ∀ d : Carrier, (s.modCarrier c f).carriers[d].pending = s.carriers[d].pending := fun d => by
    by_cases e : d = c
    · subst e; rw [modCarrier_get_same, hpending]
    · rw [modCarrier_get_other s f e]
  have reservations' : (s.modCarrier c f).reservations = s.reservations := funext fun d => by
    rw [State.reservations, pending', State.reservations]
  have width' : ∀ d : Carrier, ((∃ h, s.stands h d) ∨ s.reservations d ≠ []) →
      (s.modCarrier c f).carriers[d].width = s.carriers[d].width := fun d hd => by
    by_cases e : d = c
    · subst e
      rw [modCarrier_get_same]
      obtain w | unbound := hwidth
      · exact w
      · obtain ⟨ha, hp⟩ := (bound_eq_false_iff _).1 unbound
        obtain ⟨h, hh⟩ | hr := hd
        · rw [sets, headSet_of_inactive ha] at hh; cases hh
        · exact absurd (reservations_of_none hp) hr
    · rw [modCarrier_get_other s f e]
  refine (lanesAgree_iff _).2 ⟨?_, ?_, ?_, ?_⟩
  · rw [reservations']
    refine ⟨unique, fun p hp => ?_, owned, fun d r hr => ?_, fun h i d e => ?_⟩
    · have w := width' p.carrier (.inl ⟨p.head, p, hp, rfl, rfl⟩)
      obtain ⟨hu, hf, hrun⟩ := placed p hp
      exact ⟨hu.trans (congrArg WidthClass.units w.symm), (congrArg WidthClass.starts w).symm ▸ hf, hrun⟩
    · rw [width' d (.inr (List.ne_nil_of_mem hr))]
      exact kept d r hr
    · obtain ⟨r, hr, hh⟩ := reserved h i d e
      rw [width' d (.inr (List.ne_nil_of_mem hr))]
      exact ⟨r, hr, hh⟩
  · intro h d
    rw [State.headSet, active']
    exact sets h d
  · intro d b e
    rw [pending'] at e
    simpa only [State.gainingHeads, State.headSet, active', State.modCarrier_sectorMap] using pending d b e
  · intro d hd
    rw [bound_eq_false_iff, active', pending', ← bound_eq_false_iff]
    by_cases e : d = c
    · subst e; rw [modCarrier_get_same] at hd; exact hdeclared hd
    · rw [modCarrier_get_other s f e] at hd; exact declared d hd

/-! ## Admission -/

theorem unitsFree_iff (lanes : Vector LaneUnit 8) (first n : Nat) :
    unitsFree lanes first n = true ↔ ∀ i, covers first n i → lanes[i] = .free := by
  simp only [unitsFree, covers, List.all_eq_true, List.mem_finRange, true_implies, Bool.or_eq_true, Bool.not_eq_true',
    Bool.and_eq_false_iff, decide_eq_false_iff_not, decide_eq_true_eq]
  exact forall_congr' fun i => ⟨fun h ⟨a, b⟩ => h.resolve_left fun x => x.elim (· a) (· b), fun h =>
    or_iff_not_imp_left.2 fun x => h (by rwa [not_or, not_not, not_not] at x)⟩

/-- An admitted newcomer is placed on a permitted FREE run, and the others behind it (R33). -/
theorem admitInOrder_cons {s : State} {h : Head} {newHeads : Carrier → List Head} {c : Carrier} {rest : List Carrier}
    {lanes : Vector LaneUnit 8} {starts : List (Carrier × LaneIndex)}
    (e : s.admitInOrder h newHeads (c :: rest) lanes = .admitted starts) :
    ∃ u more, starts = (c, u) :: more ∧ u ∈ s.carriers[c].width.starts ∧
      (∀ i, covers u.val s.carriers[c].width.units i → lanes[i] = .free) ∧
      s.admitInOrder h newHeads rest (fillLanes lanes u.val s.carriers[c].width.units (.owned c)) = .admitted more := by
  unfold State.admitInOrder at e
  dsimp only at e
  split at e
  · cases e
  · split at e
    · split at e <;> cases e
    · next u hu =>
      split at e
      · cases e
      · split at e
        · cases e
        · next more hm =>
          have free := List.find?_some hu
          cases e
          exact ⟨u, more, rfl, List.mem_of_find?_eq_some hu, (unitsFree_iff _ _ _).1 free, hm⟩

theorem newcomerOrder_singleton (s : State) (c : Carrier) : s.newcomerOrder [c] = [c] := by
  cases h : s.carriers[c].width <;> simp only [State.newcomerOrder, List.filter_cons, h, List.filter_nil] <;> rfl

/-- Admission of one carrier on a head that loses none. -/
theorem admission_single (s : State) (h : Head) (c : Carrier) (newHeads : Carrier → List Head) :
    s.admission h [] [c] newHeads = s.admitInOrder h newHeads [c] s.lanes[h] := by
  rw [State.admission, newcomerOrder_singleton]; rfl

theorem admission_single_shape (s : State) (h : Head) (c : Carrier) (newHeads : Carrier → List Head) :
    (∃ u, s.admission h [] [c] newHeads = .admitted [(c, u)]) ∨ ∃ r, s.admission h [] [c] newHeads = .failed r c := by
  rw [admission_single]
  unfold State.admitInOrder
  dsimp only
  split
  · exact .inr ⟨_, rfl⟩
  · split
    · split <;> exact .inr ⟨_, rfl⟩
    · split
      · exact .inr ⟨_, rfl⟩
      · exact .inl ⟨_, rfl⟩

/-- A carrier is admitted at a start unit exactly where admission of it alone says so (R15). -/
theorem admitBinding_inl_iff (s : State) (c : Carrier) (newHeads : List Head) (h : Head) (u : LaneIndex) :
    s.admitBinding c newHeads h = .inl u ↔ s.admission h [] [c] (fun _ => newHeads) = .admitted [(c, u)] := by
  unfold State.admitBinding
  obtain ⟨v, e⟩ | ⟨r, e⟩ := admission_single_shape s h c fun _ => newHeads <;> rw [e] <;> simp

theorem admitBinding_inr_iff (s : State) (c : Carrier) (newHeads : List Head) (h : Head) (r : FailureReason) :
    s.admitBinding c newHeads h = .inr r ↔ ∃ d, s.admission h [] [c] (fun _ => newHeads) = .failed r d := by
  unfold State.admitBinding
  obtain ⟨v, e⟩ | ⟨q, e⟩ := admission_single_shape s h c fun _ => newHeads <;> rw [e] <;> simp

theorem admitBinding_run {s : State} {c : Carrier} {newHeads : List Head} {h : Head} {u : LaneIndex}
    (e : s.admitBinding c newHeads h = .inl u) :
    u ∈ s.carriers[c].width.starts ∧ s.runFree h u s.carriers[c].width.units := by
  rw [admitBinding_inl_iff, admission_single] at e
  obtain ⟨v, more, hv, hs, hf, -⟩ := admitInOrder_cons e
  cases hv
  exact ⟨hs, hf⟩

theorem headSetUnder_nodup (map : SectorMap) (l : List Sector) : (headSetUnder map l).Nodup :=
  (List.nodup_finRange 16).filter _

/-- Where no gaining head fails, the reservations are the runs that admission chose, one on each gaining head (R15, R16). -/
theorem bindReservations_spec {s : State} {c : Carrier} {newHeads : List Head} (h : s.bindFailure c newHeads = none) :
    (s.bindReservations c newHeads).map (·.head) = s.gainingHeads c newHeads ∧
      ∀ r ∈ s.bindReservations c newHeads, s.admitBinding c newHeads r.head = .inl r.first := by
  have admitted : ∀ g ∈ s.gainingHeads c newHeads, ∃ u, s.admitBinding c newHeads g = .inl u := fun g hg => by
    have := List.findSome?_eq_none_iff.1 h g hg
    cases e : s.admitBinding c newHeads g with
    | inl u => exact ⟨u, rfl⟩
    | inr r => rw [e] at this; cases this
  constructor
  · unfold State.bindReservations
    generalize s.gainingHeads c newHeads = l at admitted
    induction l with
    | nil => rfl
    | cons g l ih =>
      obtain ⟨u, hu⟩ := admitted g List.mem_cons_self
      rw [List.filterMap_cons, hu]
      exact congrArg (g :: ·) (ih fun x hx => admitted x (List.mem_cons_of_mem g hx))
  · intro r hr
    obtain ⟨g, -, hg⟩ := List.mem_filterMap.1 hr
    cases e : s.admitBinding c newHeads g with
    | inl u => rw [e] at hg; cases hg; exact e
    | inr x => rw [e] at hg; cases hg

/-! ## An accepted BIND -/

/-- The runs of a list of reservations are marked RESERVED for a carrier. -/
def State.reserveAll (s : State) (c : Carrier) (l : List Reservation) : State :=
  forAll l (fun r t => t.modLanes r.head fun lanes => fillLanes lanes r.first.val s.carriers[c].width.units (.reserved c)) s

theorem acceptBinding_eq (s : State) (c : Carrier) (sectors : List Sector) (l : List Reservation) :
    s.acceptBinding c sectors l =
      (s.reserveAll c l).modCarrier c fun x => { x with pending := some { sectors := sectors, reserved := l } } := rfl

/-- Reserving one run, then the others. -/
theorem reserveAll_cons (s : State) (c : Carrier) (r : Reservation) (l : List Reservation) :
    s.reserveAll c (r :: l) =
      (s.modLanes r.head fun lanes => fillLanes lanes r.first.val s.carriers[c].width.units (.reserved c)).reserveAll c l := rfl

/-- Reserving runs changes the lane tables alone. -/
theorem reserveAll_eq (s : State) (c : Carrier) (l : List Reservation) :
    s.reserveAll c l = { s with lanes := (s.reserveAll c l).lanes } := by
  induction l generalizing s with
  | nil => rfl
  | cons r l ih =>
    exact ih (s.modLanes r.head fun lanes => fillLanes lanes r.first.val s.carriers[c].width.units (.reserved c))

theorem reserveAll_lanesHeld {c : Carrier} (l : List Reservation) : ∀ {s : State} {held held' : Carrier → List Reservation},
    s.lanesHeld held → (l.map (·.head)).Nodup →
    (∀ r ∈ l, r.first ∈ s.carriers[c].width.starts ∧ s.runFree r.head r.first s.carriers[c].width.units) →
    (∀ x, x ∈ held' c ↔ x ∈ l ∨ x ∈ held c) → (∀ d, d ≠ c → held' d = held d) → (s.reserveAll c l).lanesHeld held' := by
  induction l with
  | nil =>
    intro s held held' hs _ _ hc hd
    obtain ⟨unique, placed, owned, kept, reserved⟩ := hs
    have same : ∀ d x, x ∈ held' d ↔ x ∈ held d := fun d x => by
      by_cases e : d = c
      · subst e; simpa using hc x
      · rw [hd d e]
    exact ⟨unique, placed, owned, fun d r hr => kept d r ((same d r).1 hr), fun h i d e =>
      let ⟨r, hr, hh⟩ := reserved h i d e
      ⟨r, (same d r).2 hr, hh⟩⟩
  | cons r l ih =>
    intro s held held' hs hn hfree hc hd
    obtain ⟨hr, hn⟩ := List.nodup_cons.1 hn
    obtain ⟨hu, hf⟩ := hfree r List.mem_cons_self
    rw [reserveAll_cons]
    refine ih (held := fun d => if d = c then r :: held c else held d)
      (reserveRun_lanesHeld hs hu hf (fun x => by simp) (fun d e => if_neg e)) hn (fun x hx => ?_) (fun x => ?_)
      (fun d e => (hd d e).trans (if_neg e).symm)
    · obtain ⟨hxu, hxf⟩ := hfree x (List.mem_cons_of_mem r hx)
      refine ⟨hxu, fun i hi => ?_⟩
      have ne : x.head ≠ r.head := fun e => hr (List.mem_map.2 ⟨x, hx, e⟩)
      rw [(fillRun_unit s r.head r.first.val _ _ x.head i).2 fun y => ne y.1]
      exact hxf i hi
    · simp only [hc, if_true, List.mem_cons]
      exact or_assoc.trans or_left_comm

/-- An accepted BIND keeps lanes in agreement (R16). -/
theorem acceptBinding_lanesAgree {s : State} (hs : s.lanesAgree) {c : Carrier} {sectors : List Sector}
    (hd : s.carriers[c].declared = true) (hp : s.carriers[c].pending = none)
    (hf : s.bindFailure c (headSetUnder s.sectorMap sectors) = none) :
    (s.acceptBinding c sectors (s.bindReservations c (headSetUnder s.sectorMap sectors))).lanesAgree := by
  obtain ⟨held, sets, pending, declared⟩ := (lanesAgree_iff s).1 hs
  obtain ⟨heads, admitted⟩ := bindReservations_spec hf
  generalize s.bindReservations c (headSetUnder s.sectorMap sectors) = l at heads admitted
  generalize ht : s.acceptBinding c sectors l = t
  have carriers : t.carriers = s.carriers.set c
      { s.carriers[c] with pending := some { sectors := sectors, reserved := l } } := by
    rw [← ht, acceptBinding_eq, reserveAll_eq]; rfl
  have same : t.carriers[c] = { s.carriers[c] with pending := some { sectors := sectors, reserved := l } } := by
    simp only [carriers, get_set, if_true]
  have other : ∀ d : Carrier, d ≠ c → t.carriers[d] = s.carriers[d] := fun d e => by
    simp only [carriers, get_set, if_neg (Ne.symm e)]
  have active : ∀ d : Carrier, t.carriers[d].active = s.carriers[d].active := fun d => by
    by_cases e : d = c
    · subst e; rw [same]
    · rw [other d e]
  have headSets : ∀ d, t.headSet d = s.headSet d := fun d => by
    rw [State.headSet, active, ← ht, acceptBinding_eq, reserveAll_eq]; rfl
  have sectorMap : t.sectorMap = s.sectorMap := by rw [← ht, acceptBinding_eq, reserveAll_eq]; rfl
  have placements : t.placements = s.placements := by rw [← ht, acceptBinding_eq, reserveAll_eq]; rfl
  refine (lanesAgree_iff t).2 ⟨?_, fun h d => ?_, fun d b e => ?_, fun d e => ?_⟩
  · refine lanesHeld_congr (s := s.reserveAll c l) (by rw [placements, reserveAll_eq]) (by rw [← ht, acceptBinding_eq]; rfl)
      (fun d => ?_) (reserveAll_lanesHeld l held (heads ▸ (headSetUnder_nodup _ _).filter _)
        (fun r hr => admitBinding_run (admitted r hr)) (fun x => ?_) fun d e => ?_)
    · rw [reserveAll_eq]
      by_cases e : d = c
      · subst e; rw [same]
      · rw [other d e]
    · rw [reservations_of_some (by rw [same]), reservations_of_none hp]; simp
    · rw [State.reservations, other d e, State.reservations]
  · rw [headSets, ← sets, State.stands, placements]; rfl
  · rw [State.gainingHeads, headSets, sectorMap]
    by_cases e' : d = c
    · subst e'
      rw [same] at e
      cases e
      exact heads
    · rw [other d e'] at e
      exact pending d b e
  · by_cases e' : d = c
    · subst e'; rw [same] at e; exact absurd (hd.symm.trans e) (by simp)
    · rw [other d e'] at e ⊢; exact declared d e

/-! ## The application of a binding -/

/-- A carrier's placements on a list of heads are removed. -/
def State.leaveHeads (s : State) (c : Carrier) (heads : List Head) : State := forAll heads (fun h u => u.removePlacement h c) s

/-- A carrier takes up its reservations: the reserved units become owned and carry new placements. -/
def State.takeUpRuns (s : State) (c : Carrier) (l : List Reservation) : State :=
  forAll l
    (fun r u => (u.modLanes r.head fun lanes => replaceLanes lanes (.reserved c) .free).createPlacement r.head c r.first) s

theorem applyOne_eq (s : State) (c : Carrier) (b : PendingBinding) :
    s.applyOne c b =
      ((s.leaveHeads c (s.losingHeads c (headSetUnder s.sectorMap b.sectors))).takeUpRuns c b.reserved).modCarrier c
        fun x => { x with active := b.sectors, pending := none } := rfl

section leaveHeads
variable (s : State) (c : Carrier) (heads : List Head)

@[simp] theorem leaveHeads_carriers : (s.leaveHeads c heads).carriers = s.carriers :=
  forAll_keeps State.carriers _ (fun h t => removePlacement_carriers t h c) heads s

@[simp] theorem leaveHeads_sectorMap : (s.leaveHeads c heads).sectorMap = s.sectorMap :=
  forAll_keeps State.sectorMap _ (fun h t => removePlacement_sectorMap t h c) heads s

@[simp] theorem leaveHeads_plans : (s.leaveHeads c heads).plans = s.plans :=
  forAll_keeps State.plans _ (fun h t => removePlacement_plans t h c) heads s

@[simp] theorem leaveHeads_due : (s.leaveHeads c heads).due = s.due :=
  forAll_keeps State.due _ (fun h t => removePlacement_due t h c) heads s

theorem stands_leaveHeads {g : Head} {d : Carrier} :
    (s.leaveHeads c heads).stands g d ↔ s.stands g d ∧ ¬ (g ∈ heads ∧ d = c) := by
  induction heads generalizing s with
  | nil => simp [State.leaveHeads]
  | cons h heads ih =>
    refine (ih (s.removePlacement h c)).trans ?_
    rw [stands_removePlacement, List.mem_cons]
    tauto

end leaveHeads

theorem leaveHeads_lanesHeld {s : State} {held : Carrier → List Reservation} (hs : s.lanesHeld held) (c : Carrier)
    (heads : List Head) : (s.leaveHeads c heads).lanesHeld held :=
  forAll_preserves (fun t => t.lanesHeld held) _ (fun h _ ht => removePlacement_lanesHeld ht h c) heads s hs

section takeUpRuns
variable (s : State) (c : Carrier) (l : List Reservation)

/-- Taking up reservations changes the lane tables and the placements alone. -/
theorem takeUpRuns_eq :
    s.takeUpRuns c l = { s with lanes := (s.takeUpRuns c l).lanes, placements := (s.takeUpRuns c l).placements } := by
  induction l generalizing s with
  | nil => rfl
  | cons r l ih =>
    exact ih ((s.modLanes r.head fun lanes => replaceLanes lanes (.reserved c) .free).createPlacement r.head c r.first)

@[simp] theorem takeUpRuns_carriers : (s.takeUpRuns c l).carriers = s.carriers := by rw [takeUpRuns_eq]
@[simp] theorem takeUpRuns_sectorMap : (s.takeUpRuns c l).sectorMap = s.sectorMap := by rw [takeUpRuns_eq]
@[simp] theorem takeUpRuns_plans : (s.takeUpRuns c l).plans = s.plans := by rw [takeUpRuns_eq]
@[simp] theorem takeUpRuns_due : (s.takeUpRuns c l).due = s.due := by rw [takeUpRuns_eq]

theorem stands_takeUpRuns {g : Head} {d : Carrier} :
    (s.takeUpRuns c l).stands g d ↔ s.stands g d ∨ (g ∈ l.map (·.head) ∧ d = c) := by
  induction l generalizing s with
  | nil => simp [State.takeUpRuns]
  | cons r l ih =>
    refine (ih _).trans ?_
    rw [stands_createPlacement, List.map_cons, List.mem_cons]
    exact ⟨fun h => by rcases h with (h | h) | h; exacts [.inl h, .inr ⟨.inl h.1, h.2⟩, .inr ⟨.inr h.1, h.2⟩],
      fun h => by rcases h with h | ⟨h | h, e⟩; exacts [.inl (.inl h), .inl (.inr ⟨h, e⟩), .inr ⟨h, e⟩]⟩

end takeUpRuns

/-- A carrier that takes up all it holds reserved, on heads where it has no placement, holds nothing reserved any more. -/
theorem takeUpRuns_lanesHeld {c : Carrier} (l : List Reservation) : ∀ {s : State} {held held' : Carrier → List Reservation},
    s.lanesHeld held → (l.map (·.head)).Nodup → (∀ x, x ∈ held c ↔ x ∈ l) → (∀ r ∈ l, ¬ s.stands r.head c) →
    held' c = [] → (∀ d, d ≠ c → held' d = held d) → (s.takeUpRuns c l).lanesHeld held' := by
  induction l with
  | nil =>
    intro s held held' hs _ hl _ hc hd
    have : held' = held := funext fun d => by
      by_cases e : d = c
      · subst e; rw [hc, eq_comm, List.eq_nil_iff_forall_not_mem]; exact fun x hx => by simpa using (hl x).1 hx
      · exact hd d e
    exact this ▸ hs
  | cons r l ih =>
    intro s held held' hs hn hl hnone hc hd
    obtain ⟨hr, hn⟩ := List.nodup_cons.1 hn
    have ne : ∀ x ∈ l, x.head ≠ r.head := fun x hx e => hr (List.mem_map.2 ⟨x, hx, e⟩)
    have released : (s.modLanes r.head fun lanes => replaceLanes lanes (.reserved c) .free).lanesHeld
        (fun d => if d = c then l else held d) := by
      refine releaseRun_lanesHeld hs (fun x => ?_) fun d e => if_neg e
      rw [if_pos rfl, hl, List.mem_cons]
      exact ⟨fun hx => ⟨.inr hx, ne x hx⟩, fun ⟨hx, hne⟩ => hx.resolve_left fun e => hne (e ▸ rfl)⟩
    obtain ⟨hu, hrun⟩ := hs.kept c r ((hl r).2 List.mem_cons_self)
    have free : (s.modLanes r.head fun lanes => replaceLanes lanes (.reserved c) .free).runFree r.head r.first
        s.carriers[c].width.units := fun i hi => by
      rw [replaceRun_unit, if_pos ⟨rfl, hrun i hi⟩]
    have standing := hnone r List.mem_cons_self
    refine ih (createPlacement_lanesHeld released hu free standing) hn (fun x => by simp) (fun x hx => ?_) hc
      fun d e => (hd d e).trans (if_neg e).symm
    rw [stands_createPlacement]
    rintro (h | h)
    · exact hnone x (List.mem_cons_of_mem r hx) h
    · exact ne x hx h.1

theorem applyOne_carriers (s : State) (c : Carrier) (b : PendingBinding) :
    (s.applyOne c b).carriers = s.carriers.set c { s.carriers[c] with active := b.sectors, pending := none } := by
  simp [applyOne_eq]

@[simp] theorem applyOne_sectorMap (s : State) (c : Carrier) (b : PendingBinding) :
    (s.applyOne c b).sectorMap = s.sectorMap := by simp [applyOne_eq]
@[simp] theorem applyOne_plans (s : State) (c : Carrier) (b : PendingBinding) :
    (s.applyOne c b).plans = s.plans := by simp [applyOne_eq]
@[simp] theorem applyOne_due (s : State) (c : Carrier) (b : PendingBinding) :
    (s.applyOne c b).due = s.due := by simp [applyOne_eq]

theorem applyOne_carrier_same (s : State) (c : Carrier) (b : PendingBinding) :
    (s.applyOne c b).carriers[c] = { s.carriers[c] with active := b.sectors, pending := none } := by
  simp only [applyOne_carriers, get_set, if_true]

theorem applyOne_carrier_other (s : State) {c d : Carrier} (b : PendingBinding) (h : d ≠ c) :
    (s.applyOne c b).carriers[d] = s.carriers[d] := by
  simp only [applyOne_carriers, get_set, if_neg (Ne.symm h)]

theorem mem_gainingHeads {s : State} {c : Carrier} {l : List Head} {h : Head} :
    h ∈ s.gainingHeads c l ↔ h ∈ l ∧ h ∉ s.headSet c := by simp [State.gainingHeads]

theorem mem_losingHeads {s : State} {c : Carrier} {l : List Head} {h : Head} :
    h ∈ s.losingHeads c l ↔ h ∈ s.headSet c ∧ h ∉ l := by simp [State.losingHeads]

/-- The application of a pending binding keeps lanes in agreement (R18). -/
theorem applyOne_lanesAgree {s : State} (hs : s.lanesAgree) {c : Carrier} {b : PendingBinding}
    (hb : s.carriers[c].pending = some b) : (s.applyOne c b).lanesAgree := by
  obtain ⟨held, sets, pending, declared⟩ := (lanesAgree_iff s).1 hs
  have heads := pending c b hb
  have same := applyOne_carrier_same s c b
  have other := fun d (h : d ≠ c) => applyOne_carrier_other s b h
  have headSets : ∀ d, d ≠ c → (s.applyOne c b).headSet d = s.headSet d := fun d e => by
    rw [State.headSet, other d e, applyOne_sectorMap]; rfl
  have headSet_c : (s.applyOne c b).headSet c = headSetUnder s.sectorMap b.sectors := by
    rw [State.headSet, same, applyOne_sectorMap]
  have standing : ∀ h d, (s.applyOne c b).stands h d ↔
      (s.stands h d ∧ ¬ (h ∈ s.losingHeads c (headSetUnder s.sectorMap b.sectors) ∧ d = c)) ∨
        (h ∈ b.reserved.map (·.head) ∧ d = c) := fun h d =>
    (stands_takeUpRuns _ c b.reserved).trans (or_congr (stands_leaveHeads s c _) Iff.rfl)
  refine (lanesAgree_iff _).2 ⟨?_, fun h d => ?_, fun d x e => ?_, fun d e => ?_⟩
  · have left := leaveHeads_lanesHeld held c (s.losingHeads c (headSetUnder s.sectorMap b.sectors))
    refine lanesHeld_congr (s := (s.leaveHeads c _).takeUpRuns c b.reserved) rfl rfl (fun d => ?_)
      (takeUpRuns_lanesHeld b.reserved left (heads ▸ (headSetUnder_nodup _ _).filter _)
        (fun x => by rw [reservations_of_some hb]) (fun r hr => ?_) ?_ fun d e => ?_)
    · rw [takeUpRuns_carriers, leaveHeads_carriers]
      by_cases e : d = c
      · subst e; rw [same]
      · rw [other d e]
    · have gaining : r.head ∈ s.gainingHeads c (headSetUnder s.sectorMap b.sectors) := heads ▸ List.mem_map_of_mem hr
      rw [stands_leaveHeads, sets]
      exact fun h => (mem_gainingHeads.1 gaining).2 h.1
    · exact reservations_of_none (by rw [same])
    · rw [State.reservations, other d e, State.reservations]
  · rw [standing, heads]
    by_cases e : d = c
    · subst e
      rw [headSet_c, sets, mem_losingHeads, mem_gainingHeads]
      tauto
    · rw [headSets d e, ← sets]
      simp [e]
  · by_cases e' : d = c
    · subst e'; rw [same] at e; cases e
    · rw [other d e'] at e
      rw [State.gainingHeads, headSets d e', applyOne_sectorMap]
      exact pending d x e
  · by_cases e' : d = c
    · subst e'
      rw [same] at e
      have unbound := declared d e
      rw [bound_eq_false_iff, hb] at unbound
      cases unbound.2
    · rw [other d e'] at e ⊢; exact declared d e

theorem applyOne_plansAgree {s : State} (hs : s.plansAgree) (c : Carrier) (b : PendingBinding) :
    (s.applyOne c b).plansAgree := by
  refine plansAgree_mono hs (fun k => .inr (by rw [applyOne_plans])) (fun d hd => ?_)
    fun x hx => .inl (by rwa [applyOne_due] at hx)
  by_cases e : d = c
  · subst e; rw [applyOne_carrier_same] at hd; cases hd
  · rwa [applyOne_carrier_other s b e] at hd

@[simp] theorem handOnBinding_agreement (t u : State) (c : Carrier) (l g : List Head) :
    (t.handOnBinding u c l g).agreement = t.agreement := by
  unfold State.handOnBinding
  extract_lets v w x p
  have hv : v.agreement = t.agreement := forAll_agreement t (fun h y => evalCreated_agreement y h c) g
  have hw : w.agreement = t.agreement :=
    (forAll_agreement v (g := fun h y => y.requestOnce u h) (fun h y => requestOnce_agreement y u h) _).trans hv
  have hx : x.agreement = t.agreement := (evalOrphan_agreement w c).trans hw
  split
  · exact hx
  · exact agreement_ite ((deliver_agreement x _ _).trans hx) hx

/-- The application of several pending bindings, and its hand-ons, keep lanes and plans in agreement (R18, R19). -/
theorem applyBindings_agrees {s : State} (hs : s.agrees) {carriers : List Carrier} (hn : carriers.Nodup) :
    (s.applyBindings carriers).agrees := by
  unfold State.applyBindings
  extract_lets work t
  have handedOn := forAll_agreement t (g := fun (w : Carrier × PendingBinding × List Head × List Head) u =>
    u.handOnBinding s w.1 w.2.2.1 w.2.2.2) (fun w u => handOnBinding_agreement u s _ _ _) work
  refine agrees_of_agreement handedOn ?_
  have apply : ∀ (l : List Carrier) (t : State), t.agrees → l.Nodup →
      (∀ c ∈ l, t.carriers[c].pending = s.carriers[c].pending) →
      (forAll (l.filterMap fun c => s.carriers[c].pending.map fun b =>
        (c, b, s.losingHeads c (headSetUnder s.sectorMap b.sectors), b.reserved.map (·.head)))
        (fun w u => u.applyOne w.1 w.2.1) t).agrees := by
    intro l
    induction l with
    | nil => exact fun t ht _ _ => ht
    | cons c l ih =>
      intro t ht hn hp
      obtain ⟨hc, hn⟩ := List.nodup_cons.1 hn
      cases hb : s.carriers[c].pending with
      | none =>
        rw [List.filterMap_cons_none (by rw [hb]; rfl)]
        exact ih t ht hn fun d hd => hp d (List.mem_cons_of_mem c hd)
      | some b =>
        rw [List.filterMap_cons_some (by rw [hb]; rfl)]
        have hb' : t.carriers[c].pending = some b := (hp c List.mem_cons_self).trans hb
        refine ih (t.applyOne c b) ⟨applyOne_lanesAgree ht.1 hb', applyOne_plansAgree ht.2 c b⟩ hn fun d hd => ?_
        have ne : d ≠ c := fun e => hc (e ▸ hd)
        rw [applyOne_carrier_other t b ne]
        exact hp d (List.mem_cons_of_mem c hd)
  exact apply carriers s hs hn fun _ _ => rfl

end Sys2Proof.Machine
end

section
/-!
SUPPORT. The plan controller keeps lanes and plans in agreement: slots and outcomes, a proposal's offer, and a commit.
-/

namespace Sys2Proof.Machine

open Sys2Proof

/-! ## Slots, outcomes and offers -/

theorem setSlot_get (s : State) (k j : SlotIndex) (x : PlanSlot) :
    (s.setSlot k x).plans.slots[j] = if k = j then x else s.plans.slots[j] := get_set _ _ _ _

/-- A slot that takes no offer, or keeps the affected operators of the one it holds. -/
theorem setSlot_agrees {s : State} (hs : s.agrees) (k : SlotIndex) {x : PlanSlot}
    (hx : x.affected? = none ∨ x.affected? = s.plans.slots[k].affected?) : (s.setSlot k x).agrees := by
  refine ⟨lanesAgree_congr rfl rfl rfl rfl hs.1, plansAgree_mono hs.2 (fun j => ?_) (fun _ => id) fun _ => .inl⟩
  rw [setSlot_get]
  split
  · next e => exact e ▸ hx
  · exact .inr rfl

theorem setPlans_agrees {s : State} (hs : s.agrees) {x : PlanController} (hx : x.slots = s.plans.slots) :
    (s.setPlans x).agrees := by
  refine agrees_of_agreement ?_ hs
  simp only [State.agreement, State.setPlans_plans, hx]
  rfl

theorem recordOutcome_agrees {s : State} (hs : s.agrees) (o : Outcome) {x : PlanSlot} (hx : x.affected? = none) :
    (s.recordOutcome o x).agrees :=
  agrees_of_agreement (forAll_agreement _ (fun p t => sendUnsolicited_agreement t p _) _)
    (setSlot_agrees (setPlans_agrees hs rfl) o.slot (.inl hx))

theorem endPlan_agrees {s : State} (hs : s.agrees) (k : SlotIndex) (map : SectorMap) (o : Offer) (r : PlanResult)
    (l : Option Link) (f : Option Failure) : (s.endPlan k map o r l f).agrees :=
  recordOutcome_agrees hs _ rfl

/-- A slot is offered while no plan and no binding is pending. -/
theorem setSlot_offer_agrees {s : State} (hs : s.agrees) (hp : s.planPending = false) (hb : s.bindingPending = false)
    (k : SlotIndex) {x : PlanSlot} {o : Offer} (hx : x.offer? = some o) (ho : o.affected.Nodup) :
    (s.setSlot k x).agrees := by
  have none : ∀ j : SlotIndex, s.plans.slots[j].offer?.isSome = false := fun j => by
    rw [← Bool.not_eq_true] at hp ⊢
    exact fun h => hp ((planPending_iff s).2 ⟨j, h⟩)
  have only : ∀ j : SlotIndex, (s.setSlot k x).plans.slots[j].offer?.isSome = true → k = j := fun j hj => by
    rw [setSlot_get] at hj
    split at hj
    · assumption
    · rw [none j] at hj; cases hj
  refine ⟨lanesAgree_congr rfl rfl rfl rfl hs.1, fun i j hi hj => (only i hi).symm.trans (only j hj), fun _ => hb,
    fun j o' e => ?_, hs.2.2.2.2⟩
  obtain rfl := only j (by rw [e]; rfl)
  rw [setSlot_get, if_pos rfl, hx] at e
  exact Option.some.inj e ▸ ho

theorem affectedSet_nodup (s : State) (map : SectorMap) : (s.affectedSet map).Nodup := (List.nodup_finRange 4).filter _

theorem offerSlot_agrees {s : State} (hs : s.agrees) (hp : s.planPending = false) (hb : s.bindingPending = false)
    (k : SlotIndex) (map : SectorMap) (layout : List HeadLayout) (source : PlanSource) :
    (s.offerSlot k map layout source).agrees := by
  unfold State.offerSlot
  extract_lets number affected offer plans t
  have ht : t.agrees := setPlans_agrees hs rfl
  have offered : ∀ x : PlanSlot, x.offer? = some offer → (t.setSlot k x).agrees := fun x hx =>
    setSlot_offer_agrees ht hp hb k hx (affectedSet_nodup s map)
  split
  · exact offered _ rfl
  · exact agrees_of_agreement (forAll_agreement _ (fun l u => sendUnsolicited_agreement u (Port.ofLink l) _) _)
      (offered _ rfl)

/-- A proposal that is taken while no plan and no binding is pending (R146). -/
theorem propose_agrees {s : State} (hs : s.agrees) (hp : s.planPending = false) (hb : s.bindingPending = false)
    (k : SlotIndex) (source : PlanSource) : (s.propose k source).agrees := by
  unfold State.propose
  split
  · exact recordOutcome_agrees hs _ rfl
  · split
    · exact offerSlot_agrees hs hp hb k _ _ source
    · exact recordOutcome_agrees hs _ rfl

/-! ## A validated layout -/

/-- Where validation says VALID, the layout has each changed head with its departing carriers and an admitted placing of its
newcomers (R144). -/
theorem validateMap_valid {s : State} {map : SectorMap} {layout : List HeadLayout}
    (h : s.validateMap map = .valid layout) :
    layout.map (·.head) = s.changedHeads map ∧
      ∀ x ∈ layout, x.departing = s.departing map x.head ∧ s.admitMap map x.head = .admitted x.newcomers := by
  unfold State.validateMap at h
  split at h
  · cases h
  · next hf =>
    cases h
    have admitted : ∀ g ∈ s.changedHeads map, ∃ l, s.admitMap map g = .admitted l := fun g hg => by
      have := List.findSome?_eq_none_iff.1 hf g hg
      cases e : s.admitMap map g with
      | admitted l => exact ⟨l, rfl⟩
      | failed r c => rw [e] at this; cases this
    constructor
    · unfold State.mapLayout
      generalize s.changedHeads map = l at admitted
      induction l with
      | nil => rfl
      | cons g l ih =>
        obtain ⟨n, hn⟩ := admitted g List.mem_cons_self
        rw [List.filterMap_cons, hn]
        exact congrArg (g :: ·) (ih fun x hx => admitted x (List.mem_cons_of_mem g hx))
    · intro x hx
      obtain ⟨g, -, hg⟩ := List.mem_filterMap.1 hx
      cases e : s.admitMap map g with
      | admitted l => rw [e] at hg; cases hg; exact ⟨rfl, e⟩
      | failed r c => rw [e] at hg; cases hg

theorem mem_newcomerOrder {s : State} {l : List Carrier} {c : Carrier} : c ∈ s.newcomerOrder l ↔ c ∈ l := by
  have classes : ∀ w : WidthClass, w = .wide ∨ w = .medium ∨ w = .narrow := fun w => by cases w <;> simp
  have := classes s.carriers[c].width
  simp only [State.newcomerOrder, List.mem_append, List.mem_filter, decide_eq_true_eq]
  tauto

theorem newcomerOrder_nodup {s : State} {l : List Carrier} (h : l.Nodup) : (s.newcomerOrder l).Nodup := by
  unfold State.newcomerOrder
  refine List.Nodup.append (List.Nodup.append (h.filter _) (h.filter _) ?_) (h.filter _) ?_ <;>
    · intro c hc hc'
      simp only [List.mem_append, List.mem_filter, decide_eq_true_eq] at hc hc'
      simp_all

/-! ## A layout is applied -/

/-- Carriers leave a head. -/
def State.departAll (s : State) (h : Head) (l : List Carrier) : State := forAll l (fun c t => t.removePlacement h c) s

/-- Carriers come onto a head at start units. -/
def State.arriveAll (s : State) (h : Head) (l : List (Carrier × LaneIndex)) : State :=
  forAll l (fun n t => t.createPlacement h n.1 n.2) s

theorem applyLayout_eq (s : State) (x : HeadLayout) :
    s.applyLayout x = (s.departAll x.head x.departing).arriveAll x.head x.newcomers := rfl

section departAll
variable (s : State) (h : Head) (l : List Carrier)

@[simp] theorem departAll_carriers : (s.departAll h l).carriers = s.carriers :=
  forAll_keeps State.carriers _ (fun c t => removePlacement_carriers t h c) l s
@[simp] theorem departAll_sectorMap : (s.departAll h l).sectorMap = s.sectorMap :=
  forAll_keeps State.sectorMap _ (fun c t => removePlacement_sectorMap t h c) l s
@[simp] theorem departAll_plans : (s.departAll h l).plans = s.plans :=
  forAll_keeps State.plans _ (fun c t => removePlacement_plans t h c) l s
@[simp] theorem departAll_due : (s.departAll h l).due = s.due :=
  forAll_keeps State.due _ (fun c t => removePlacement_due t h c) l s

theorem departAll_lanesHeld {held : Carrier → List Reservation} (hs : s.lanesHeld held) : (s.departAll h l).lanesHeld held :=
  forAll_preserves (fun t => t.lanesHeld held) _ (fun c _ ht => removePlacement_lanesHeld ht h c) l s hs

theorem stands_departAll {g : Head} {d : Carrier} : (s.departAll h l).stands g d ↔ s.stands g d ∧ ¬ (g = h ∧ d ∈ l) := by
  induction l generalizing s with
  | nil => simp [State.departAll]
  | cons c l ih =>
    refine (ih (s.removePlacement h c)).trans ?_
    rw [stands_removePlacement, List.mem_cons]
    tauto

theorem removePlacement_table (c : Carrier) (g : Head) :
    (s.removePlacement h c).lanes[g] = if h = g then replaceLanes s.lanes[g] (.owned c) .free else s.lanes[g] :=
  (congrArg (fun v : Vector (Vector LaneUnit 8) 16 => v[g]) (removePlacement_lanes s h c)).trans (modLanes_get s h g _)

/-- The lane table of a head that carriers leave is the one that admission on it starts from (R32). -/
theorem departAll_table_same :
    (s.departAll h l).lanes[h] = l.foldl (fun lanes c => replaceLanes lanes (.owned c) .free) s.lanes[h] := by
  induction l generalizing s with
  | nil => rfl
  | cons c l ih =>
    refine (ih (s.removePlacement h c)).trans ?_
    rw [removePlacement_table, if_pos rfl]; rfl

theorem departAll_table_other {g : Head} (hg : g ≠ h) : (s.departAll h l).lanes[g] = s.lanes[g] := by
  induction l generalizing s with
  | nil => rfl
  | cons c l ih => exact (ih (s.removePlacement h c)).trans (by rw [removePlacement_table, if_neg (Ne.symm hg)])

end departAll

section arriveAll
variable (s : State) (h : Head) (l : List (Carrier × LaneIndex))

/-- Arrivals change the lane tables and the placements alone. -/
theorem arriveAll_eq :
    s.arriveAll h l = { s with lanes := (s.arriveAll h l).lanes, placements := (s.arriveAll h l).placements } := by
  induction l generalizing s with
  | nil => rfl
  | cons n l ih => exact ih (s.createPlacement h n.1 n.2)

@[simp] theorem arriveAll_carriers : (s.arriveAll h l).carriers = s.carriers := by rw [arriveAll_eq]
@[simp] theorem arriveAll_sectorMap : (s.arriveAll h l).sectorMap = s.sectorMap := by rw [arriveAll_eq]
@[simp] theorem arriveAll_plans : (s.arriveAll h l).plans = s.plans := by rw [arriveAll_eq]
@[simp] theorem arriveAll_due : (s.arriveAll h l).due = s.due := by rw [arriveAll_eq]

theorem stands_arriveAll {g : Head} {d : Carrier} :
    (s.arriveAll h l).stands g d ↔ s.stands g d ∨ (g = h ∧ d ∈ l.map Prod.fst) := by
  induction l generalizing s with
  | nil => simp [State.arriveAll]
  | cons n l ih =>
    refine (ih (s.createPlacement h n.1 n.2)).trans ?_
    rw [stands_createPlacement, List.map_cons, List.mem_cons]
    tauto

theorem arriveAll_table_other {g : Head} (hg : g ≠ h) : (s.arriveAll h l).lanes[g] = s.lanes[g] := by
  induction l generalizing s with
  | nil => rfl
  | cons n l ih =>
    exact (ih (s.createPlacement h n.1 n.2)).trans (by rw [createPlacement_lanes, if_neg (Ne.symm hg)])

end arriveAll

/-- Newcomers that admission has placed on a head come onto it (R33, R156): they are the ones that admission was asked
for, and lanes stay held. -/
theorem arriveAll_lanesHeld {s : State} {h : Head} {newHeads : Carrier → List Head} {held : Carrier → List Reservation}
    (cs : List Carrier) : ∀ {t : State} {starts : List (Carrier × LaneIndex)},
    s.admitInOrder h newHeads cs t.lanes[h] = .admitted starts → t.carriers = s.carriers → t.lanesHeld held → cs.Nodup →
    (∀ c ∈ cs, ¬ t.stands h c) → starts.map Prod.fst = cs ∧ (t.arriveAll h starts).lanesHeld held := by
  induction cs with
  | nil =>
    intro t starts e _ ht _ _
    cases e
    exact ⟨rfl, ht⟩
  | cons c cs ih =>
    intro t starts e hc ht hn hnone
    obtain ⟨hcs, hn⟩ := List.nodup_cons.1 hn
    obtain ⟨u, more, rfl, hu, hf, hm⟩ := admitInOrder_cons e
    have created : (t.createPlacement h c u).lanesHeld held :=
      createPlacement_lanesHeld ht (by rw [hc]; exact hu) (by rw [hc]; exact hf) (hnone c List.mem_cons_self)
    have table : (t.createPlacement h c u).lanes[h] = fillLanes t.lanes[h] u.val s.carriers[c].width.units (.owned c) := by
      rw [createPlacement_lanes, if_pos rfl, hc]
    obtain ⟨hfst, hheld⟩ := ih (t := t.createPlacement h c u) (starts := more) (by rw [table]; exact hm) hc created hn
      fun d hd hs => by
        rcases stands_createPlacement.1 hs with hs | hs
        · exact hnone d (List.mem_cons_of_mem c hd) hs
        · exact hcs (hs.2 ▸ hd)
    exact ⟨by rw [List.map_cons, hfst], hheld⟩

/-! ## A commit -/

/-- Where lanes agree, a carrier's new head set under the map in force would be its head set: an undeclared carrier has no
active sectors (R12, R143). -/
theorem newHeadSet_eq {s : State} (hs : s.lanesAgree) (map : SectorMap) (c : Carrier) :
    s.newHeadSet map c = headSetUnder map s.carriers[c].active := by
  obtain ⟨-, -, -, declared⟩ := (lanesAgree_iff s).1 hs
  unfold State.newHeadSet
  split
  · rfl
  · next h =>
    have ha := ((bound_eq_false_iff _).1 (declared c (Bool.eq_false_iff.2 h))).1
    rw [ha, headSetUnder, eq_comm, List.filter_eq_nil_iff]
    intro x _
    cases map[x] <;> simp

theorem mem_departing {s : State} {map : SectorMap} {h : Head} {c : Carrier} :
    c ∈ s.departing map h ↔ s.stands h c ∧ h ∉ s.newHeadSet map c := by
  simp [State.departing, allCarriers, ← placement_isSome_iff]

theorem mem_newcomers {s : State} {map : SectorMap} {h : Head} {c : Carrier} :
    c ∈ s.newcomers map h ↔ ¬ s.stands h c ∧ h ∈ s.newHeadSet map c := by
  simp [State.newcomers, allCarriers, ← placement_isSome_iff]

theorem stands_of_unchanged {s : State} {map : SectorMap} {h : Head} (hh : h ∉ s.changedHeads map) (c : Carrier) :
    s.stands h c ↔ h ∈ s.newHeadSet map c := by
  simp only [State.changedHeads, allHeads, List.mem_filter, List.mem_finRange, true_and, Bool.or_eq_true,
    Bool.not_eq_true', List.isEmpty_eq_false_iff, not_or, not_not] at hh
  have departs : c ∉ s.departing map h := by rw [hh.1]; exact List.not_mem_nil
  have comes : c ∉ s.newcomers map h := by rw [hh.2]; exact List.not_mem_nil
  rw [mem_departing] at departs
  rw [mem_newcomers] at comes
  tauto

/-- One head of a validated layout is applied: it then carries exactly the carriers whose new head set has it (R156). -/
theorem applyLayout_lanesHeld {s t : State} {map : SectorMap} {x : HeadLayout} {held : Carrier → List Reservation}
    (hd : x.departing = s.departing map x.head) (ha : s.admitMap map x.head = .admitted x.newcomers)
    (hc : t.carriers = s.carriers) (hl : t.lanes[x.head] = s.lanes[x.head])
    (hs : ∀ c, t.stands x.head c ↔ s.stands x.head c) (ht : t.lanesHeld held) :
    (t.applyLayout x).lanesHeld held ∧
      ∀ g c, (t.applyLayout x).stands g c ↔ if g = x.head then g ∈ s.newHeadSet map c else t.stands g c := by
  have table : (t.departAll x.head x.departing).lanes[x.head] =
      (s.departing map x.head).foldl (fun lanes c => replaceLanes lanes (.owned c) .free) s.lanes[x.head] := by
    rw [departAll_table_same, hd, hl]
  obtain ⟨hfst, hheld⟩ := arriveAll_lanesHeld (s := s) (s.newcomerOrder (s.newcomers map x.head))
    (t := t.departAll x.head x.departing) (by rw [table]; exact ha) (by rw [departAll_carriers, hc])
    (departAll_lanesHeld t _ _ ht) (newcomerOrder_nodup ((List.nodup_finRange 16).filter _)) fun c hcn hst => by
      rw [mem_newcomerOrder, mem_newcomers] at hcn
      exact hcn.1 ((hs c).1 (stands_departAll t _ _ |>.1 hst).1)
  refine ⟨hheld, fun g c => ?_⟩
  rw [applyLayout_eq, stands_arriveAll, stands_departAll, hfst, mem_newcomerOrder, hd]
  split
  · next e =>
    subst e
    rw [hs, mem_departing, mem_newcomers]
    tauto
  · next e => simp [e]

@[simp] theorem applyLayout_carriers (s : State) (x : HeadLayout) : (s.applyLayout x).carriers = s.carriers := by
  simp [applyLayout_eq]
@[simp] theorem applyLayout_sectorMap (s : State) (x : HeadLayout) : (s.applyLayout x).sectorMap = s.sectorMap := by
  simp [applyLayout_eq]
@[simp] theorem applyLayout_plans (s : State) (x : HeadLayout) : (s.applyLayout x).plans = s.plans := by
  simp [applyLayout_eq]
@[simp] theorem applyLayout_due (s : State) (x : HeadLayout) : (s.applyLayout x).due = s.due := by
  simp [applyLayout_eq]

theorem applyLayout_table_other (s : State) (x : HeadLayout) {g : Head} (hg : g ≠ x.head) :
    (s.applyLayout x).lanes[g] = s.lanes[g] :=
  (arriveAll_table_other _ _ _ hg).trans (departAll_table_other _ _ _ hg)

/-- A whole validated layout is applied. -/
theorem applyLayouts_lanesHeld {s : State} {map : SectorMap} {held : Carrier → List Reservation} (l : List HeadLayout) :
    ∀ {t : State}, (l.map (·.head)).Nodup →
      (∀ x ∈ l, x.departing = s.departing map x.head ∧ s.admitMap map x.head = .admitted x.newcomers) →
      t.carriers = s.carriers →
      (∀ x ∈ l, t.lanes[x.head] = s.lanes[x.head] ∧ ∀ c, t.stands x.head c ↔ s.stands x.head c) → t.lanesHeld held →
      (forAll l (fun x u => u.applyLayout x) t).lanesHeld held ∧
        ∀ g c, (forAll l (fun x u => u.applyLayout x) t).stands g c ↔
          if g ∈ l.map (·.head) then g ∈ s.newHeadSet map c else t.stands g c := by
  induction l with
  | nil => exact fun _ _ _ _ ht => ⟨ht, fun g c => by simp⟩
  | cons x l ih =>
    intro t hn hx hc hl ht
    obtain ⟨hnx, hn⟩ := List.nodup_cons.1 hn
    obtain ⟨hd, ha⟩ := hx x List.mem_cons_self
    obtain ⟨htable, hstands⟩ := hl x List.mem_cons_self
    obtain ⟨held', stands'⟩ := applyLayout_lanesHeld hd ha hc htable hstands ht
    have ne : ∀ y ∈ l, y.head ≠ x.head := fun y hy e => hnx (List.mem_map.2 ⟨y, hy, e⟩)
    obtain ⟨heldAll, standsAll⟩ := ih (t := t.applyLayout x) hn (fun y hy => hx y (List.mem_cons_of_mem x hy))
      ((applyLayout_carriers t x).trans hc) (fun y hy => by
        obtain ⟨hyt, hys⟩ := hl y (List.mem_cons_of_mem x hy)
        refine ⟨by rw [applyLayout_table_other t x (ne y hy), hyt], fun c => ?_⟩
        rw [stands', if_neg (ne y hy), hys]) held'
    refine ⟨heldAll, fun g c => (standsAll g c).trans ?_⟩
    rw [stands', List.map_cons]
    by_cases hg : g ∈ l.map (·.head)
    · rw [if_pos hg, if_pos (List.mem_cons_of_mem _ hg)]
    · rw [if_neg hg]
      by_cases e : g = x.head
      · rw [if_pos e, if_pos (e ▸ List.mem_cons_self)]
      · rw [if_neg e, if_neg (by simp [e, hg])]

/-- A validated plan commits while no binding is pending (R156, R157). -/
theorem commitPlan_agrees {s : State} (hs : s.agrees) (hb : s.bindingPending = false) (k : SlotIndex) {map : SectorMap}
    (o : Offer) {layout : List HeadLayout} (hv : s.validateMap map = .valid layout) :
    (s.commitPlan k map o layout).agrees := by
  obtain ⟨held, sets, pending, declared⟩ := (lanesAgree_iff s).1 hs.1
  obtain ⟨heads, admitted⟩ := validateMap_valid hv
  have unpending : ∀ c : Carrier, s.carriers[c].pending = none := fun c => by
    rw [← Bool.not_eq_true, bindingPending_iff] at hb
    exact Option.not_isSome_iff_eq_none.1 fun h => hb ⟨c, h⟩
  unfold State.commitPlan
  extract_lets changed t u v w
  obtain ⟨heldAll, standsAll⟩ := applyLayouts_lanesHeld layout (s := s) (t := s.setSectorMap map)
    (heads ▸ (List.nodup_finRange 16).filter _) admitted rfl (fun _ _ => ⟨rfl, fun _ => Iff.rfl⟩)
    (lanesHeld_congr (s := s) rfl rfl (fun _ => rfl) held)
  have carriers : t.carriers = s.carriers :=
    forAll_keeps State.carriers _ (fun x y => applyLayout_carriers y x) layout (s.setSectorMap map)
  have sectorMap : t.sectorMap = map :=
    forAll_keeps State.sectorMap _ (fun x y => applyLayout_sectorMap y x) layout (s.setSectorMap map)
  have plans : t.plans = s.plans := forAll_keeps State.plans _ (fun x y => applyLayout_plans y x) layout (s.setSectorMap map)
  have due : t.due = s.due := forAll_keeps State.due _ (fun x y => applyLayout_due y x) layout (s.setSectorMap map)
  have ht : t.agrees := by
    refine ⟨(lanesAgree_iff t).2 ⟨?_, fun g c => ?_, fun c b e => ?_, fun c => ?_⟩, plansAgree_mono hs.2
      (fun j => .inr (by rw [plans])) (fun c => by rw [carriers]; exact id) fun l hl => .inl (due ▸ hl)⟩
    · have : t.reservations = s.reservations := by unfold State.reservations; rw [carriers]
      exact this ▸ heldAll
    · rw [State.headSet, carriers, sectorMap, ← newHeadSet_eq hs.1]
      refine (standsAll g c).trans ?_
      split
      · rfl
      · next hg => exact stands_of_unchanged (heads ▸ hg) c
    · rw [carriers, unpending] at e; cases e
    · rw [carriers]; exact declared c
  have created := forAll_agreement t (g := fun (x : HeadLayout) v => forAll x.newcomers (fun n w => w.evalCreated x.head n.1) v)
    (fun x y => forAll_agreement y (fun (n : Carrier × LaneIndex) z => evalCreated_agreement z x.head n.1) _) layout
  have requested := forAll_agreement u (g := fun (x : HeadLayout) w => w.requestOnce s x.head)
    (fun x y => requestOnce_agreement y s x.head) layout
  have orphans := forAll_agreement v (fun c y => evalOrphan_agreement y c) changed
  exact endPlan_agrees (s := w.restartWindow w.frame)
    (agrees_of_agreement ((restartWindow_agreement w w.frame).trans (orphans.trans (requested.trans created))) ht) k map o .committed none none

/-- A revalidation commits or ends the plan (R155). -/
theorem revalidate_agrees {s : State} (hs : s.agrees) (k : SlotIndex) (n : Nat) : (s.revalidate k n).agrees := by
  unfold State.revalidate
  split
  · next map o e =>
    have pending : s.planPending = true := (planPending_iff s).2 ⟨k, by rw [e]; rfl⟩
    split
    · split
      · next hv => exact commitPlan_agrees hs (hs.2.2.1 pending) k o hv
      · exact endPlan_agrees hs k map o _ _ _
    · exact hs
  · exact hs

/-! ## Expiry -/

theorem expireSlot_agrees {s : State} (hs : s.agrees) (k : SlotIndex) : (s.expireSlot k).agrees := by
  unfold State.expireSlot
  split
  · next map o e =>
    split
    · exact endPlan_agrees hs k map o _ _ _
    · exact setSlot_agrees hs k (.inr (by rw [e]; rfl))
  · exact hs

theorem expire_agrees {s : State} (hs : s.agrees) : s.expire.agrees :=
  forAll_preserves State.agrees _ (fun k _ ht => expireSlot_agrees ht k) allSlots s hs

/-! ## Triggers -/

theorem setDue_cons_agreement (s : State) {d : Due} (hd : d.carriers? = none) :
    (s.setDue (d :: s.due)).agreement = s.agreement := by
  simp [State.agreement, hd]

theorem fireTrigger_agrees {s : State} (hs : s.agrees) (loads : Vector Load 12) (t : TriggerIndex) :
    (s.fireTrigger loads t).agrees := by
  unfold State.fireTrigger
  extract_lets waiting taken
  refine agrees_of_agreement (setDue_cons_agreement taken rfl) ?_
  have hw : waiting.agrees := agrees_of_agreement rfl hs
  show (if s.defersTrigger then _ else _ : State).agrees
  split
  · exact hw
  · next h =>
    simp only [State.defersTrigger, Bool.or_eq_true, not_or, Bool.not_eq_true] at h
    exact propose_agrees hw h.1 h.2 _ _

theorem evalTriggers_agrees {s : State} (hs : s.agrees) (loads : Vector Load 12) (l : List TriggerIndex) :
    (s.evalTriggers loads l).agrees := by
  induction l generalizing s with
  | nil => exact hs
  | cons t l ih =>
    unfold State.evalTriggers
    dsimp only
    split
    · exact ih hs
    · split
      · split
        · exact fireTrigger_agrees (agrees_of_agreement (modTrigger_agreement s t _) hs) loads t
        · exact ih (agrees_of_agreement rfl hs)
      · exact ih (agrees_of_agreement rfl hs)

theorem endWindow_agrees {s : State} (hs : s.agrees) : s.endWindow.agrees := by
  unfold State.endWindow
  split
  · exact evalTriggers_agrees (agrees_of_agreement (publish_agreement s) hs) _ _
  · exact hs

theorem answerTrigger_agrees {s : State} (hs : s.agrees) (t : TriggerIndex) (d : Bool) (loads : Vector Load 12) :
    (s.answerTrigger t d loads).agrees := by
  unfold State.answerTrigger
  dsimp only
  split
  · exact evalTriggers_agrees (agrees_of_agreement (modTrigger_agreement s t _) hs) _ _
  · exact evalTriggers_agrees hs _ _

end Sys2Proof.Machine
end

section
/-!
SUPPORT. Every request, every due step, every boundary and so every step keeps lanes and plans in agreement.
-/

namespace Sys2Proof.Machine

open Sys2Proof

/-- What each operation of a list preserves where the list has it, the whole list preserves. -/
theorem forAll_preserves_mem {α : Type} (P : State → Prop) (g : α → State → State) (l : List α)
    (h : ∀ a ∈ l, ∀ t, P t → P (g a t)) (s : State) (hs : P s) : P (forAll l g s) := by
  induction l generalizing s with
  | nil => exact hs
  | cons a l ih => exact ih (fun b hb => h b (List.mem_cons_of_mem a hb)) _ (h a List.mem_cons_self s hs)

theorem agrees_ite {P : Prop} [Decidable P] {t u : State} (ht : t.agrees) (hu : u.agrees) :
    (if P then t else u).agrees := by
  split <;> assumption

/-- What is due changes, and every due application of bindings still names no carrier twice. -/
theorem setDue_agrees {s : State} (hs : s.agrees) {l : List Due} (hl : ∀ x, .bindingApply x ∈ l → x.Nodup) :
    (s.setDue l).agrees :=
  ⟨lanesAgree_congr rfl rfl rfl rfl hs.1, plansAgree_mono hs.2 (fun _ => .inr rfl) (fun _ => id) fun x hx => .inr (hl x hx)⟩

theorem setDue_subset_agrees {s : State} (hs : s.agrees) {l : List Due} (hl : l ⊆ s.due) : (s.setDue l).agrees :=
  setDue_agrees hs fun x hx => hs.2.2.2.2 x (hl hx)

/-! ## Due steps -/

theorem answerNext_agrees {s : State} (hs : s.agrees) : s.answerNext.agrees := by
  unfold State.answerNext
  split
  · exact answerTrigger_agrees (setDue_subset_agrees hs List.erase_subset) _ _ _
  · exact hs

theorem revalidateDue_agrees {s : State} (hs : s.agrees) (k : SlotIndex) (n : Nat) : (s.revalidateDue k n).agrees :=
  revalidate_agrees (forAll_preserves State.agrees _ (fun _ _ ht => answerNext_agrees ht) allTriggers s hs) k n

/-- A due step keeps lanes and plans in agreement, an application of bindings where it names no carrier twice. -/
theorem perform_agrees {s : State} (hs : s.agrees) {d : Due} (hd : ∀ l, d = .bindingApply l → l.Nodup) :
    (s.perform d).agrees := by
  have keep : ∀ {t : State}, t.agreement = s.agreement → t.agrees := fun e => agrees_of_agreement e hs
  cases d with
  | bindingApply l => exact applyBindings_agrees hs (hd l rfl)
  | consentExpiry => exact expire_agrees hs
  | planRevalidate k n => exact revalidateDue_agrees hs k n
  | seekLock h m => exact keep (completeSeek_agreement s h m)
  | attemptBegin h => exact keep (beginAttempt_agreement s h)
  | remeasureBegin h => exact keep (beginRemeasure_agreement s h)
  | markerLost h => exact keep (loseMarker_agreement s h)
  | blipWindow h => exact keep (agreement_ite (endBlipWindow_agreement s h) rfl)
  | errorWindow h => exact keep (agreement_ite (endErrorWindow_agreement s h) rfl)
  | holdOff h => exact keep (agreement_ite (expireHoldOff_agreement s h) rfl)
  | slipGate h => exact keep (agreement_ite rfl rfl)
  | mute h m => exact keep (agreement_ite ((raise_agreement _ _ _ _).trans rfl) rfl)
  | unmute h => exact keep (agreement_ite ((clear_agreement _ _ _ _).trans rfl) rfl)
  | saturationWindow =>
    refine keep (agreement_ite ?_ rfl)
    have judged := forAll_agreement s (g := fun c t => t.judgeMonitor c)
      (fun c t => agreement_ite (raise_agreement t _ _ _) rfl) allCarriers
    have cleared := forAll_agreement (forAll allCarriers (fun c t => t.judgeMonitor c) s)
      (g := fun c t => t.modMonitor c fun m => { m with last := m.count, count := 0 }) (fun _ _ => rfl) allCarriers
    exact (setSatFrames_agreement _ 0).trans (cleared.trans judged)
  | loadWindow => exact endWindow_agrees hs
  | triggerAnswer t b loads => exact answerTrigger_agrees hs t b loads

theorem perform_mem_agrees {s t : State} (hs : s.agrees) (ht : t.agrees) {d : Due} (hd : d ∈ s.due) : (t.perform d).agrees :=
  perform_agrees ht fun l e => hs.2.2.2.2 l (e ▸ hd)

theorem takeDue_agrees {s : State} (hs : s.agrees) (wanted : Due → Bool) : (s.takeDue wanted).agrees := by
  obtain ⟨-, e⟩ | ⟨d, hd, e⟩ := takeDue_cases s wanted <;> rw [e]
  · exact hs
  · exact perform_mem_agrees hs (setDue_subset_agrees hs List.erase_subset) (List.mem_of_find?_eq_some hd)

theorem performAll_agrees (n : Nat) : ∀ {s : State}, s.agrees → (s.performAll n).agrees := by
  induction n with
  | zero => exact id
  | succ n ih =>
    exact fun {s} hs => ih (forAll_preserves_mem State.agrees _ s.due (fun d hd t ht => perform_mem_agrees hs ht hd) _
      (setDue_agrees hs fun x hx => by cases hx))

theorem flushDue_agrees {s : State} (hs : s.agrees) : s.flushDue.agrees := performAll_agrees 9 hs

/-! ## Changes of mode and RESTART -/

@[simp] theorem changeMode_agreement (s : State) (m : Mode) : (s.changeMode m).agreement = s.agreement := by
  unfold State.changeMode
  rw [breakRun_agreement, forAll_agreement _ (fun h t => requestOnce_agreement t s h), settle_agreement, setMode_agreement]

/-- A part without carriers, placements, owned units, plans and due bindings. -/
theorem agrees_of_empty {s : State} (hp : s.placements = []) (hl : s.lanes = Vector.replicate 16 (Vector.replicate 8 .free))
    (hc : s.carriers = Vector.replicate 16 CarrierRecord.reset) (hk : ∀ k : SlotIndex, s.plans.slots[k] = .empty)
    (hd : ∀ l, .bindingApply l ∈ s.due → l.Nodup) : s.agrees := by
  have carrier : ∀ c : Carrier, s.carriers[c] = CarrierRecord.reset := fun c => by simp [hc]
  have free : ∀ (h : Head) (i : LaneIndex), s.lanes[h][i] = .free := fun h i => by simp [hl]
  have none : ∀ c, s.reservations c = [] := fun c => reservations_of_none (by rw [carrier]; rfl)
  constructor
  · refine (lanesAgree_iff s).2 ⟨⟨?_, ?_, fun h i c e => ?_, fun c r hr => ?_, fun h i c e => ?_⟩, fun h c => ?_,
      fun c b e => ?_, fun c _ => ?_⟩
    · rw [hp]; exact List.nodup_nil
    · rw [hp]; exact fun _ h => by cases h
    · rw [free] at e; cases e
    · rw [none] at hr; cases hr
    · rw [free] at e; cases e
    · rw [headSet_of_inactive (by rw [carrier]; rfl), State.stands, hp]; simp
    · rw [carrier] at e; cases e
    · rw [carrier]; rfl
  · have idle : ¬ s.planPending = true := by rw [planPending_iff]; simp only [hk]; rintro ⟨_, h⟩; cases h
    refine ⟨fun j _ hj _ => ?_, fun h => absurd h idle, fun k o e => ?_, hd⟩
    · rw [hk] at hj; cases hj
    · rw [hk] at e; cases e

theorem reset_agrees : State.reset.agrees :=
  agrees_of_empty rfl rfl rfl (fun _ => by simp [State.reset, PlanController.reset]) fun _ h => by cases h

/-- The placements that are left when those of a list leave one by one. -/
theorem removals_placements (l : List Placement) (s : State) :
    (forAll l (fun p u => u.removePlacement p.head p.carrier) s).placements =
      s.placements.filter fun q => l.all fun p => !(decide (q.head = p.head) && decide (q.carrier = p.carrier)) := by
  induction l generalizing s with
  | nil => simp
  | cons p l ih => simp [ih, removePlacement_placements, List.filter_filter, Bool.and_comm]

/-- What the removal of a placement leaves unchanged, the removal of a list of them does. -/
theorem removals_keep {β : Type} (f : State → β) (h : ∀ (p : Placement) (u : State), f (u.removePlacement p.head p.carrier) = f u)
    (l : List Placement) (s : State) : f (forAll l (fun p u => u.removePlacement p.head p.carrier) s) = f s :=
  forAll_keeps f _ h l s

/-- What the reset of a carrier record leaves unchanged, the reset of a list of them does. -/
theorem resets_keep {β : Type} (f : State → β) (h : ∀ (c : Carrier) (v : State),
      f ((v.modCarrier c fun _ => CarrierRecord.reset).clear .carrierOrphaned (.carrier c)) = f v)
    (l : List Carrier) (s : State) :
    f (forAll l (fun c v => (v.modCarrier c fun _ => CarrierRecord.reset).clear .carrierOrphaned (.carrier c)) s) = f s :=
  forAll_keeps f _ h l s

/-- The carrier records after those of a list have been reset. -/
theorem resets_carriers (l : List Carrier) (s : State) (d : Carrier) :
    (forAll l (fun c v => (v.modCarrier c fun _ => CarrierRecord.reset).clear .carrierOrphaned (.carrier c)) s).carriers[d] =
      if d ∈ l then CarrierRecord.reset else s.carriers[d] := by
  induction l generalizing s with
  | nil => rfl
  | cons c l ih =>
    rw [forAll_cons, ih]
    simp only [clear_carriers, modCarrier_get, List.mem_cons, eq_comm (a := c)]
    by_cases hl : d ∈ l <;> by_cases e : d = c <;> simp [hl, e]

/-- Step 4 of RESTART, where the plans are gone and no binding is due (R197). -/
theorem restartConfiguration_agrees {s : State} (hk : ∀ k : SlotIndex, s.plans.slots[k] = .empty)
    (hd : ∀ l, .bindingApply l ∉ s.due) : s.restartConfiguration.agrees := by
  unfold State.restartConfiguration
  extract_lets t u
  have plans : u.plans = s.plans :=
    Eq.trans (b := t.plans) (resets_keep State.plans (fun _ _ => clear_plans _ _ _ _) allCarriers t)
      (removals_keep State.plans (fun _ _ => removePlacement_plans _ _ _) s.placements s)
  have due : u.due = s.due :=
    Eq.trans (b := t.due) (resets_keep State.due (fun _ _ => clear_due _ _ _ _) allCarriers t)
      (removals_keep State.due (fun _ _ => removePlacement_due _ _ _) s.placements s)
  have placements : u.placements = [] := by
    have kept : u.placements = t.placements :=
      resets_keep State.placements (fun _ _ => clear_placements _ _ _ _) allCarriers t
    rw [kept, removals_placements, List.filter_eq_nil_iff]
    intro q hq h
    simpa using List.all_eq_true.1 h q hq
  have carriers : u.carriers = Vector.replicate 16 CarrierRecord.reset := by
    apply Vector.ext
    intro i hi
    have := resets_carriers allCarriers t ⟨i, hi⟩
    rw [if_pos (show (⟨i, hi⟩ : Carrier) ∈ allCarriers from List.mem_finRange _)] at this
    rw [Vector.getElem_replicate]
    exact this
  clear_value u
  exact agrees_of_empty placements rfl carriers (by rw [← plans] at hk; exact hk) fun l hl => absurd (due ▸ hl) (hd l)

@[simp] theorem restartPower_agreement (s : State) : s.restartPower.agreement = s.agreement :=
  forAll_agreement s (fun h u => (requestRecompute_agreement (u.modPower h _) h).trans rfl) allHeads

@[simp] theorem restartSwitch_agreement (s : State) : s.restartSwitch.agreement = s.agreement := by
  unfold State.restartSwitch
  dsimp only
  rw [setSatFrames_agreement, forAll_agreement _ (fun c u => modMonitor_agreement u c _),
    forAll_agreement _ (fun h u => resetGuard_agreement u h)]

@[simp] theorem restartPorts_agreement (s : State) (p : Port) : (s.restartPorts p).agreement = s.agreement := rfl

theorem beforeRestart_bindings (s : State) : s.beforeRestart.agreement.bindings = [] := rfl

/-- RESTART leaves a part without carriers, placements, plans and due bindings (R197). -/
theorem restartAll_agrees (s : State) (p : Port) : (s.restartAll p).agrees := by
  unfold State.restartAll
  extract_lets b t
  have bindings : t.agreement.bindings = [] :=
    (congrArg Agreement.bindings (agreement_ite (changeMode_agreement b .hold) rfl)).trans (beforeRestart_bindings s)
  clear_value t
  have due : ∀ l, .bindingApply l ∉ t.restartPlans.restartLoad.due := fun l hl => by
    have : l ∈ t.agreement.bindings := List.mem_filterMap.2 ⟨_, hl, rfl⟩
    rw [bindings] at this
    cases this
  have configured : t.restartPlans.restartLoad.restartConfiguration.agrees :=
    restartConfiguration_agrees (fun k => by simp [State.restartLoad, State.restartWindow, State.restartPlans]) due
  exact agrees_of_agreement (by rw [restartPorts_agreement, restartSwitch_agreement, restartPower_agreement]) configured

/-! ## Requests -/

theorem serveDeclare_agrees {s : State} (hs : s.agrees) (p : Port) (c w : Byte) (pw : Half) (k : Byte) :
    (serveDeclare p c w pw k s).1.agrees := by
  unfold serveDeclare
  split
  · next c w _ _ =>
    dsimp only
    split
    · exact hs
    · split
      · exact hs
      · next bound =>
        split
        · exact hs
        · have declared := ((lanesAgree_iff s).1 hs.1).2.2.2 c
          have stored : (s.modCarrier c fun x =>
              { x with declared := true, width := w, power := clamp 1 8000 pw.toNat, shift := min 4 k.toNat }).agrees := by
            refine ⟨modCarrier_lanesAgree hs.1 rfl rfl ?_ (fun h => by cases h),
              plansAgree_mono hs.2 (fun _ => .inr rfl) (fun d hd => ?_) fun _ => .inl⟩
            · cases hr : s.carriers[c].declared with
              | false => exact .inr (declared hr)
              | true =>
                simp only [hr, Bool.true_and, Bool.and_eq_true, decide_eq_true_eq, not_and, Bool.not_eq_true] at bound
                exact or_iff_not_imp_left.2 bound
            · by_cases e : d = c
              · subst e; rwa [modCarrier_get_same] at hd
              · rwa [modCarrier_get_other s _ e] at hd
          refine agrees_ite ?_ stored
          exact agrees_of_agreement (forAll_agreement _ (fun (q : Placement) v => requestRecompute_agreement v q.head) _) stored
  · exact hs

theorem serveWithdraw_agrees {s : State} (hs : s.agrees) (p : Port) (c : Byte) : (serveWithdraw p c s).1.agrees := by
  unfold serveWithdraw
  split
  · exact hs
  · next c _ =>
    dsimp only
    split
    · exact hs
    · split
      · exact hs
      · split
        · exact hs
        · next bound =>
          split
          · exact hs
          · rw [Bool.not_eq_true] at bound
            obtain ⟨ha, hp⟩ := (bound_eq_false_iff _).1 bound
            refine ⟨modCarrier_lanesAgree hs.1 ha.symm hp.symm (.inr bound) (fun _ => bound),
              plansAgree_mono hs.2 (fun _ => .inr rfl) (fun d hd => ?_) fun _ => .inl⟩
            by_cases e : d = c
            · subst e; rw [modCarrier_get_same] at hd; cases hd
            · rwa [modCarrier_get_other s _ e] at hd

theorem serveBind_agrees {s : State} (hs : s.agrees) (p : Port) (c : Byte) (l : List Byte) :
    (serveBind p c l s).1.agrees := by
  unfold serveBind
  split
  · next c sectors _ _ =>
    dsimp only
    split
    · exact hs
    · split
      · exact hs
      · next hd =>
        split
        · exact hs
        · next hp =>
          split
          · exact hs
          · next hb =>
            split
            · exact hs
            · split
              · exact hs
              · next hf =>
                simp only [Bool.not_eq_true', Bool.not_eq_false] at hd hp hb
                refine ⟨acceptBinding_lanesAgree hs.1 hd (by simpa using hb) hf, ?_⟩
                rw [acceptBinding_eq, reserveAll_eq]
                refine ⟨hs.2.1, fun h => absurd h hp, hs.2.2.2.1, hs.2.2.2.2⟩
  · exact hs

theorem serveConsent_agrees {s : State} (hs : s.agrees) (p : Port) (n a : Byte) : (serveConsent p n a s).1.agrees := by
  unfold serveConsent
  split
  · exact hs
  · split
    · exact hs
    · split
      · exact hs
      · next k _ _ =>
        split
        · next map o remaining e =>
          have keeps : ∀ x : PlanSlot, x.affected? = some o.affected → (s.setSlot k x).agrees := fun x hx =>
            setSlot_agrees hs k (.inr (by rw [hx, e]; rfl))
          split
          · exact hs
          · split
            · exact hs
            · split
              · exact hs
              · dsimp only
                split
                · exact endPlan_agrees hs k map _ _ _ _
                · split
                  · exact keeps _ rfl
                  · exact keeps _ rfl
        · exact hs

theorem servePlanCancel_agrees {s : State} (hs : s.agrees) (p : Port) (n : Byte) : (servePlanCancel p n s).1.agrees := by
  unfold servePlanCancel
  split
  · exact hs
  · split
    · exact hs
    · split
      · exact hs
      · split
        · exact hs
        · split
          · exact hs
          · exact endPlan_agrees hs _ _ _ _ _ _

theorem servePlanEdit_agrees {s : State} (hs : s.agrees) (p : Port) (k b : Byte) (l : List (Byte × Byte)) :
    (servePlanEdit p k b l s).1.agrees := by
  unfold servePlanEdit
  split
  · split
    · exact hs
    · split
      · exact hs
      · exact setSlot_agrees hs _ (.inl rfl)
  · exact hs

theorem servePlanValidate_agrees {s : State} (hs : s.agrees) (p : Port) (k : Byte) : (servePlanValidate p k s).1.agrees := by
  unfold servePlanValidate
  split
  · exact hs
  · split
    · exact hs
    · split
      · exact hs
      · split
        · exact hs
        · split
          · exact hs
          · dsimp only
            split <;> exact setSlot_agrees hs _ (.inl rfl)

theorem servePlanPropose_agrees {s : State} (hs : s.agrees) (p : Port) (k : Byte) : (servePlanPropose p k s).1.agrees := by
  unfold servePlanPropose
  split
  · exact hs
  · split
    · exact hs
    · split
      · exact hs
      · split
        · exact hs
        · next hp hb => exact propose_agrees hs (Bool.eq_false_iff.2 hp) (Bool.eq_false_iff.2 hb) _ _

theorem serveSetLoadWindow_agrees {s : State} (hs : s.agrees) (p : Port) (n : Half) :
    (serveSetLoadWindow p n s).1.agrees := by
  unfold serveSetLoadWindow
  split
  · exact hs
  · refine agrees_ite hs (agrees_of_agreement (s := s.takeWindowEnd) rfl ?_)
    exact agrees_ite (endWindow_agrees (setDue_subset_agrees hs List.erase_subset)) hs

end Sys2Proof.Machine
end

section
/-!
SUPPORT. The requests of every port, the boundary and the links keep lanes and plans in agreement (O6).
-/

namespace Sys2Proof.Machine

open Sys2Proof

/-! ## Operations that leave the configuration as it is -/

section
variable (s : State)

@[simp] theorem slipCheck_agreement (h : Head) : (s.slipCheck h).agreement = s.agreement := by
  unfold State.slipCheck
  dsimp only
  split <;> simp

@[simp] theorem appendGroup_agreement (h : Head) (g : Group) : (s.appendGroup h g).agreement = s.agreement := by
  unfold State.appendGroup
  split <;> simp

@[simp] theorem readGroup_agreement (h : Head) : (s.readGroup h).agreement = s.agreement := by
  unfold State.readGroup
  split <;> simp

@[simp] theorem samplePeriod_agreement (streams : Streams) : (s.samplePeriod streams).agreement = s.agreement := by
  unfold State.samplePeriod
  extract_lets transmission wires t u v
  have ht : t.agreement = s.agreement := setPlacements_map_agreement (s.setWires wires) fun p => rfl
  have hu : u.agreement = s.agreement :=
    agreement_ite ((forAll_agreement t (fun c v => modMonitor_agreement v c _) allCarriers).trans ht) ht
  have hv : v.agreement = s.agreement :=
    (forAll_agreement u (fun h w => agreement_ite (modTest_agreement w h _) rfl) allHeads).trans hu
  exact (forAll_agreement v (fun h w => readGroup_agreement w h) allHeads).trans hv

@[simp] theorem enterTest_agreement (h : Head) : (s.enterTest h).agreement = s.agreement := leaveFor_agreement _ h .test

@[simp] theorem linkDown_agreement (l : Link) (cause : LinkCause) : (s.linkDown l cause).agreement = s.agreement := by
  simp [State.linkDown]

@[simp] theorem reoffer_agreement (l : Link) : (s.reoffer l).agreement = s.agreement := by
  unfold State.reoffer
  split
  · rfl
  · split
    · split <;> simp
    · rfl

@[simp] theorem remail_agreement (l : Link) : (s.remail l).agreement = s.agreement := by
  unfold State.remail
  split <;> simp

@[simp] theorem reattend_agreement (l : Link) : (s.reattend l).agreement = s.agreement := by
  unfold State.reattend
  split <;> simp

@[simp] theorem linkCameUp_agreement (l : Link) : (s.linkCameUp l).agreement = s.agreement := by
  simp [State.linkCameUp]

@[simp] theorem followLink_agreement (l : Link) (a : Option Int) : (s.followLink l a).agreement = s.agreement := by
  obtain ⟨-, e⟩ | ⟨-, -, e⟩ | ⟨-, -, e⟩ := followLink_cases s l a <;> simp [e]

@[simp] theorem jumpLinks_agreement (period gap : Nat) : (s.jumpLinks period gap).agreement = s.agreement :=
  forAll_agreement s (fun l t => followLink_agreement t l _) _

/-! ## The boundary's parts -/

@[simp] theorem realign_agreement : s.realign.agreement = s.agreement := setPlacements_map_agreement s fun _ => rfl

@[simp] theorem closeMeters_agreement : s.closeMeters.agreement = s.agreement := setPlacements_map_agreement s fun _ => rfl

@[simp] theorem guardBoundary_agreement (h : Head) : (s.guardBoundary h).agreement = s.agreement := by
  unfold State.guardBoundary
  have mute : ∀ (t : State) n, (t.addDue (.mute h n)).agreement = t.agreement := fun t n => addDue_agreement t rfl
  have unmute : ∀ t : State, (t.addDue (.unmute h)).agreement = t.agreement := fun t => addDue_agreement t rfl
  dsimp only
  split
  · simp
  · split
    · rfl
    · split
      · split
        · split <;> simp [mute]
        · simp
      · split
        · simp
        · split <;> simp [unmute]

@[simp] theorem gateBoundary_agreement (h : Head) : (s.gateBoundary h).agreement = s.agreement :=
  agreement_ite (addDue_agreement s rfl) rfl

@[simp] theorem satBoundary_agreement : s.satBoundary.agreement = s.agreement := agreement_ite (addDue_agreement s rfl) rfl

@[simp] theorem markerBoundary_agreement (h : Head) : (s.markerBoundary h).agreement = s.agreement := by
  unfold State.markerBoundary
  split
  · exact agreement_ite (addDue_agreement s rfl) rfl
  · exact agreement_ite (addDue_agreement s rfl) rfl

@[simp] theorem remeasureBoundary_agreement (h : Head) : (s.remeasureBoundary h).agreement = s.agreement :=
  agreement_ite (agreement_ite (addDue_agreement _ rfl) rfl) rfl

@[simp] theorem lockBoundary_agreement (h : Head) : (s.lockBoundary h).agreement = s.agreement :=
  agreement_ite (seekFallsDue_agreement _ h _) rfl

@[simp] theorem blipBoundary_agreement (h : Head) : (s.blipBoundary h).agreement = s.agreement :=
  agreement_ite rfl (agreement_ite (addDue_agreement s rfl) rfl)

@[simp] theorem errorBoundary_agreement (h : Head) : (s.errorBoundary h).agreement = s.agreement :=
  agreement_ite rfl (agreement_ite (addDue_agreement s rfl) rfl)

@[simp] theorem holdOffBoundary_agreement (h : Head) : (s.holdOffBoundary h).agreement = s.agreement :=
  agreement_ite (agreement_ite (addDue_agreement _ rfl) rfl) rfl

@[simp] theorem headBoundary_agreement (h : Head) : (s.headBoundary h).agreement = s.agreement := by
  simp [State.headBoundary]

end

/-! ## The boundary -/

theorem addDue_agrees {s : State} (hs : s.agrees) {d : Due} (hd : ∀ l, d = .bindingApply l → l.Nodup) : (s.addDue d).agrees :=
  agrees_ite hs <| setDue_agrees hs fun l hl => (List.mem_append.1 hl).elim (hs.2.2.2.2 l) fun e => hd l (List.mem_singleton.1 e).symm

/-- The consent time of a slot and what it makes due keep lanes and plans in agreement (R152, R155). -/
theorem slotBoundary_agrees {s : State} (hs : s.agrees) (k : SlotIndex) : (s.slotBoundary k).agrees := by
  unfold State.slotBoundary
  split
  · next map o remaining e =>
    have counted : (s.setSlot k (.consent map o (remaining - 1))).agrees := setSlot_agrees hs k (.inr (by rw [e]; rfl))
    exact agrees_ite (addDue_agrees counted nofun) counted
  · exact addDue_agrees hs nofun
  · exact hs

theorem planBoundary_agrees {s : State} (hs : s.agrees) : s.planBoundary.agrees := by
  have nodup : s.pendingCarriers.Nodup := (List.nodup_finRange 16).filter _
  have due : (s.addDue (.bindingApply s.pendingCarriers)).agrees :=
    addDue_agrees hs fun l e => by injection e with e; exact e ▸ nodup
  exact forAll_preserves State.agrees _ (fun k t ht => slotBoundary_agrees ht k) allSlots _ (agrees_ite hs due)

theorem handBoundary_agrees {s : State} (hs : s.agrees) : s.handBoundary.agrees := by
  have planned : s.realign.closeMeters.planBoundary.agrees := planBoundary_agrees (agrees_of_agreement (by simp) hs)
  refine agrees_of_agreement ?_ planned
  unfold State.handBoundary
  dsimp only
  rw [forAll_agreement _ (fun h v => headBoundary_agreement v h), satBoundary_agreement,
    forAll_agreement _ (g := fun h v => (v.guardBoundary h).gateBoundary h) (fun h v => by simp), loadBoundary_agreement]

theorem boundary_agrees {s : State} (hs : s.agrees) (moment : Nat) : (s.boundary moment).agrees :=
  handBoundary_agrees (agrees_of_agreement (by simp) (flushDue_agrees hs))

/-! ## The timing input -/

theorem timeOut_agrees {s : State} (hs : s.agrees) : s.timeOut.agrees :=
  agrees_of_agreement (setTiming_agreement _ _) (boundary_agrees hs _)

theorem lockMark_agrees {s : State} (hs : s.agrees) (moment interval : Nat) : (s.lockMark moment interval).agrees :=
  agrees_of_agreement (setTiming_agreement _ _) (agrees_ite hs (boundary_agrees hs moment))

theorem heldMark_agrees {s : State} (hs : s.agrees) (moment : Nat) : (s.heldMark moment).agrees := by
  unfold State.heldMark
  split
  · exact agrees_of_agreement (setTiming_agreement _ _) hs
  · exact agrees_ite (agrees_of_agreement (jumpLinks_agreement _ _ _) (lockMark_agrees hs _ _))
      (agrees_of_agreement (setTiming_agreement _ _) hs)

theorem lockedMark_agrees {s : State} (hs : s.agrees) (moment : Nat) : (s.lockedMark moment).agrees :=
  agrees_ite (lockMark_agrees hs _ _) (agrees_ite hs (heldMark_agrees (timeOut_agrees hs) _))

theorem mark_agrees {s : State} (hs : s.agrees) (moment : Nat) : (s.mark moment).agrees := by
  unfold State.mark
  split
  · exact lockedMark_agrees hs moment
  · exact heldMark_agrees hs moment

/-! ## Requests that leave the configuration as it is -/

section
variable (s : State) (p : Port)

@[simp] theorem serveSetBudget_agreement (h : Byte) (b : Half) : (serveSetBudget p h b s).1.agreement = s.agreement := by
  unfold serveSetBudget
  split
  · rfl
  · split
    · rfl
    · exact agreement_ite rfl ((requestRecompute_agreement _ _).trans rfl)

@[simp] theorem serveSetWeight_agreement (l w : Byte) : (serveSetWeight p l w s).1.agreement = s.agreement := by
  unfold serveSetWeight
  split
  · rfl
  · split
    · rfl
    · exact agreement_ite rfl (forAll_agreement (s.setWeight _ _) (fun h u => requestRecompute_agreement u h) _)

@[simp] theorem serveSetUplink_agreement (f : UplinkFields) : (serveSetUplink p f s).1.agreement = s.agreement := by
  unfold serveSetUplink
  split
  · rfl
  · split
    · rfl
    · simp

@[simp] theorem serveSetSaturation_agreement (c : Byte) (n : Half) : (serveSetSaturation p c n s).1.agreement = s.agreement := by
  unfold serveSetSaturation
  split
  · rfl
  · split <;> rfl

@[simp] theorem serveSetHeadLink_agreement (f : HeadLinkFields) : (serveSetHeadLink p f s).1.agreement = s.agreement := by
  unfold serveSetHeadLink
  split
  · rfl
  · split
    · rfl
    · simp [State.storeSettings]

@[simp] theorem serveHeadEnable_agreement (h : Byte) : (serveHeadEnable p h s).1.agreement = s.agreement := by
  unfold serveHeadEnable
  split
  · rfl
  · split
    · rfl
    · split <;> rfl

@[simp] theorem serveHeadDisable_agreement (h : Byte) : (serveHeadDisable p h s).1.agreement = s.agreement := by
  unfold serveHeadDisable
  split
  · rfl
  · split
    · rfl
    · split
      · rfl
      · simp

@[simp] theorem serveTestStart_agreement (h m : Byte) : (serveTestStart p h m s).1.agreement = s.agreement := by
  unfold serveTestStart
  split
  · split
    · rfl
    · split
      · rfl
      · exact agreement_ite rfl (enterTest_agreement _ _)
  · rfl

@[simp] theorem serveTestSnapshot_agreement (h c : Byte) : (serveTestSnapshot p h c s).1.agreement = s.agreement := by
  unfold serveTestSnapshot
  split
  · split
    · rfl
    · split <;> rfl
  · rfl

@[simp] theorem serveTestStop_agreement (h : Byte) : (serveTestStop p h s).1.agreement = s.agreement := by
  unfold serveTestStop
  split
  · rfl
  · split
    · rfl
    · split <;> rfl

@[simp] theorem serveSetActivity_agreement (h : Byte) (n : Word) : (serveSetActivity p h n s).1.agreement = s.agreement := by
  unfold serveSetActivity
  split
  · rfl
  · split <;> rfl

@[simp] theorem serveTriggerSet_agreement (f : TriggerFields) : (serveTriggerSet p f s).1.agreement = s.agreement := by
  unfold serveTriggerSet
  split
  · rfl
  · split <;> rfl

@[simp] theorem serveAlarmRead_agreement (k : Byte) : (serveAlarmRead p k s).1.agreement = s.agreement := by
  unfold serveAlarmRead
  split
  · rfl
  · split
    · rfl
    · split
      · simp
      · rfl

@[simp] theorem servePost_agreement (d : Byte) (l : List Byte) : (servePost p d l s).1.agreement = s.agreement := by
  unfold servePost
  split
  · rfl
  · split
    · rfl
    · split
      · rfl
      · exact agreement_ite rfl ((sendUnsolicited_agreement _ _ _).trans rfl)

@[simp] theorem serveTake_agreement : (serveTake p s).1.agreement = s.agreement := by
  unfold serveTake
  split <;> rfl

@[simp] theorem serveStart_agreement : (serveStart p s).1.agreement = s.agreement := by
  unfold serveStart
  split
  · rfl
  · split
    · simp
    · rfl

@[simp] theorem serveHold_agreement : (serveHold p s).1.agreement = s.agreement := by
  unfold serveHold
  split
  · rfl
  · split
    · simp
    · rfl

/-! ## Requests that read -/

@[simp] theorem serveStatus_fst (t : Byte) (n : Option Byte) : (serveStatus p t n s).1 = s := by
  unfold serveStatus
  repeat' split
  all_goals rfl

@[simp] theorem serveTestRead_fst (h : Byte) : (serveTestRead p h s).1 = s := by
  unfold serveTestRead
  split
  · rfl
  · split <;> rfl

@[simp] theorem serveTriggerRead_fst (t : Byte) : (serveTriggerRead p t s).1 = s := by
  unfold serveTriggerRead
  split
  · rfl
  · split <;> rfl

@[simp] theorem serveLoadReport_fst : (serveLoadReport p s).1 = s := by
  unfold serveLoadReport
  split <;> rfl

@[simp] theorem servePlanQuery_fst : (servePlanQuery p s).1 = s := by
  unfold servePlanQuery
  repeat' split
  all_goals rfl

@[simp] theorem servePlanRead_fst (k : Byte) : (servePlanRead p k s).1 = s := by
  unfold servePlanRead
  repeat' split
  all_goals rfl

end

theorem serveSetConsent_agrees {s : State} (hs : s.agrees) (p : Port) (t : Half) (m : Vector Byte 4) :
    (serveSetConsent p t m s).1.agrees := by
  unfold serveSetConsent
  split
  · split
    · exact hs
    · exact setPlans_agrees hs rfl
  · exact hs

theorem serveRestart_agrees {s : State} (hs : s.agrees) (p : Port) : (serveRestart p s).1.agrees := by
  unfold serveRestart
  split
  · exact hs
  · exact restartAll_agrees s p

/-! ## Carrying out a request -/

/-- Every request keeps lanes and plans in agreement. -/
theorem carryOut_agrees {s : State} (hs : s.agrees) (p : Port) (r : Request) : (carryOut p r s).1.agrees := by
  have keep : ∀ {t : State}, t.agreement = s.agreement → t.agrees := fun e => agrees_of_agreement e hs
  have read : ∀ {t : State}, t = s → t.agrees := fun e => e ▸ hs
  cases r with
  | declare c w pw k => exact serveDeclare_agrees hs p c w pw k
  | withdraw c => exact serveWithdraw_agrees hs p c
  | bind c l => exact serveBind_agrees hs p c l
  | status t n => exact read (serveStatus_fst s p t n)
  | setBudget h b => exact keep (serveSetBudget_agreement s p h b)
  | setWeight l w => exact keep (serveSetWeight_agreement s p l w)
  | setUplink f => exact keep (serveSetUplink_agreement s p f)
  | setSaturation c n => exact keep (serveSetSaturation_agreement s p c n)
  | setHeadLink f => exact keep (serveSetHeadLink_agreement s p f)
  | headEnable h => exact keep (serveHeadEnable_agreement s p h)
  | headDisable h => exact keep (serveHeadDisable_agreement s p h)
  | testStart h m => exact keep (serveTestStart_agreement s p h m)
  | testSnapshot h c => exact keep (serveTestSnapshot_agreement s p h c)
  | testRead h => exact read (serveTestRead_fst s p h)
  | testStop h => exact keep (serveTestStop_agreement s p h)
  | setLoadWindow n => exact serveSetLoadWindow_agrees hs p n
  | setActivity h n => exact keep (serveSetActivity_agreement s p h n)
  | triggerSet f => exact keep (serveTriggerSet_agreement s p f)
  | triggerRead t => exact read (serveTriggerRead_fst s p t)
  | loadReport => exact read (serveLoadReport_fst s p)
  | planEdit k b l => exact servePlanEdit_agrees hs p k b l
  | planValidate k => exact servePlanValidate_agrees hs p k
  | planPropose k => exact servePlanPropose_agrees hs p k
  | planCancel n => exact servePlanCancel_agrees hs p n
  | consent n a => exact serveConsent_agrees hs p n a
  | planQuery => exact read (servePlanQuery_fst s p)
  | planRead k => exact read (servePlanRead_fst s p k)
  | setConsent t m => exact serveSetConsent_agrees hs p t m
  | alarmSummary => exact keep (setLog_agreement s _)
  | alarmRead k => exact keep (serveAlarmRead_agreement s p k)
  | alarmMask e => exact keep (withLog_agreement s _ _)
  | post d l => exact keep (servePost_agreement s p d l)
  | take => exact keep (serveTake_agreement s p)
  | start => exact keep (serveStart_agreement s p)
  | hold => exact keep (serveHold_agreement s p)
  | restart => exact serveRestart_agrees hs p
  | misfit n => exact hs

theorem serve_agrees {s : State} (hs : s.agrees) (p : Port) (r : Request) : (s.serve p r).agrees :=
  agrees_of_agreement (deliver_agreement _ p _) (carryOut_agrees hs p r)

theorem dispatch_agrees {s : State} (hs : s.agrees) (p : Port) (m : Message) : (s.dispatch p m).agrees :=
  agrees_ite (agrees_of_agreement (deliver_agreement s p _) hs) (agrees_ite hs (serve_agrees hs p _))

theorem enterRequest_agrees {s : State} (hs : s.agrees) (p : Port) : (s.enterRequest p).agrees := by
  unfold State.enterRequest
  split
  · next m rest _ _ => exact dispatch_agrees (agrees_of_agreement (t := s.takeUp p m rest) (s := s) rfl hs) p m
  · exact hs

theorem grant_agrees {s : State} (hs : s.agrees) (p : Port) : (s.grant p).agrees := by
  unfold State.grant
  split
  · exact hs
  · have carried := carryOut_agrees (s := s.setArbiter { s.arbiter with granted := some p }) (agrees_of_agreement (s := s) rfl hs) p
    exact agrees_of_agreement ((deliver_agreement _ p _).trans (setArbiter_agreement _ _)) (carried _)

theorem arbiterGrant_agrees {s : State} (hs : s.agrees) : s.arbiterGrant.agrees := by
  unfold State.arbiterGrant
  split
  · exact grant_agrees hs _
  · exact hs

theorem request_agrees {s : State} (hs : s.agrees) (p : Port) (r : Request) : (s.request p r).agrees := by
  unfold State.request
  dsimp only
  have arrived : (s.arrive p r.toMessage).agrees := agrees_of_agreement (arrive_agreement s p _) hs
  have entered := enterRequest_agrees arrived p
  exact agrees_ite hs (agrees_ite arrived (agrees_ite (arbiterGrant_agrees entered) entered))

/-! ## Every command -/

theorem agrees_of_next {u t : State} (hu : u.agrees) (e : (Host.Outcome.next u : Host.Outcome State Fault Refusal) = .next t) :
    t.agrees := by
  injection e with e
  exact e ▸ hu

/-- An event that is not taken while the reset is asserted. -/
theorem agrees_of_event {s t v : State} (hs : s.agrees)
    (e : (Host.Outcome.next (if s.mode = .reset then s else v) : Host.Outcome State Fault Refusal) = .next t) (hv : v.agrees) :
    t.agrees :=
  agrees_of_next (agrees_ite hs hv) e

end Sys2Proof.Machine
end

section
/-!
PROOF of O6: every command, and so every step, keeps placements, lane tables, bindings, sector map and plans in agreement.
-/

namespace Sys2Proof.Machine

open Sys2Proof

theorem replyEnqueue_agreement (s : State) (p : Port) {t : State} (e : execReplyEnqueue p s = .next t) :
    t.agreement = s.agreement := by
  unfold execReplyEnqueue at e
  injection e with e
  subst e
  split
  · rfl
  · rfl
  · split
    · exact agreement_ite rfl rfl
    · rfl
    · rfl

theorem outgoingMessageSent_agreement (s : State) (l : Link) {t : State} (e : execOutgoingMessageSent l s = .next t) :
    t.agreement = s.agreement := by
  unfold execOutgoingMessageSent at e
  injection e with e
  subst e
  refine agreement_ite ?_ rfl
  split <;> rfl

theorem uplinkGroupComplete_agreement (s : State) (h : Head) (words : Vector LaneWord 8) {t : State}
    (e : execUplinkGroupComplete h words s = .next t) : t.agreement = s.agreement := by
  unfold execUplinkGroupComplete headEvent at e
  injection e with e
  subst e
  exact agreement_ite rfl ((appendGroup_agreement _ _ _).trans (agreement_ite rfl rfl))

theorem headReport_agreement (s : State) (h : Head) (moment : Nat) (r : HeadReport) (intact : Bool) {t : State}
    (e : execHeadReport h moment r intact s = .next t) : t.agreement = s.agreement := by
  unfold execHeadReport headEvent at e
  injection e with e
  subst e
  exact agreement_ite rfl (agreement_ite (by simp) rfl)

theorem testWordReturned_agreement (s : State) (h : Head) (w : Word) (parity : BitVec 4) {t : State}
    (e : execTestWordReturned h w parity s = .next t) : t.agreement = s.agreement := by
  unfold execTestWordReturned headEvent at e
  injection e with e
  subst e
  exact agreement_ite rfl (agreement_ite rfl rfl)

/-- Every command keeps lanes and plans in agreement. -/
theorem exec_agrees {s t : State} (hs : s.agrees) (i : Instr) (e : exec i s = .next t) : t.agrees := by
  have keep : ∀ {u : State}, u.agreement = s.agreement → u.agrees := fun e => agrees_of_agreement e hs
  have requested : ∀ {p : Port} {r : Request}, Host.Outcome.next (s.request p r) = Host.Outcome.next t → t.agrees :=
    fun e => agrees_of_next (request_agrees hs _ _) e
  have taken : ∀ {wanted : Due → Bool}, headEvent s (fun s => s.takeDue wanted) = .next t → t.agrees :=
    fun e => agrees_of_event hs e (takeDue_agrees hs _)
  cases i with
  | declare | withdraw | bind | status | setBudget | setWeight | setUplink | setSaturation | setHeadLink | headEnable
  | headDisable | testStart | testSnapshot | testRead | testStop | setLoadWindow | setActivity | triggerSet | triggerRead
  | loadReport | planEdit | planValidate | planPropose | planCancel | consent | planQuery | planRead | setConsent
  | alarmSummary | alarmRead | alarmMask | post | take | start | hold | restart => exact requested e
  | bindingApply | consentExpiry | planRevalidate | noiseGuardMute | noiseGuardUnmute | slipGateOpen | saturationWindowEnd
  | loadWindowEnd | blipWindowEnd | seekLockComplete | measureAttemptBegin | remeasureCountdownEnd | markerLost
  | errorWindowEnd | holdOffExpiry => exact taken e
  | requestArrival p m intact => exact agrees_of_next (keep (agreement_ite (arrive_agreement s p m) rfl)) e
  | spiMessageWrite bytes => exact agrees_of_next (keep (spiTransaction_agreement s bytes)) e
  | spiMessageRead bytes => exact agrees_of_next (keep (spiTransaction_agreement s bytes)) e
  | requestEnterService p => exact agrees_of_event hs e (enterRequest_agrees hs p)
  | arbiterGrant => exact agrees_of_event hs e (arbiterGrant_agrees hs)
  | replyEnqueue p => exact keep (replyEnqueue_agreement s p e)
  | outgoingMessageSent l => exact keep (outgoingMessageSent_agreement s l e)
  | operatorLinkDown l loss =>
    cases loss with
    | framing => exact agrees_of_event hs e (keep (followLink_agreement s l none))
    | alignment offset => exact agrees_of_event hs e (keep (followLink_agreement s l (s.links[l].alignment.map fun _ => offset)))
  | operatorLinkUp x => exact agrees_of_event hs e (keep (followLink_agreement s x.link (some x.offset)))
  | resetAssert =>
    refine agrees_of_next ?_ e
    exact keep rfl
  | resetRelease =>
    have released : ({ State.reset with pending := s.pending } : State).agrees :=
      agrees_of_agreement (s := State.reset) rfl reset_agrees
    exact agrees_of_next (agrees_ite released hs) e
  | timingMark m => exact agrees_of_event hs e (mark_agrees (keep (atMoment_agreement s m)) _)
  | markTimeout => exact agrees_of_event hs e (agrees_ite (timeOut_agrees hs) hs)
  | heldBoundary => exact agrees_of_event hs e (agrees_ite (boundary_agrees hs _) hs)
  | samplePeriod streams =>
    exact agrees_of_event hs e (agrees_of_agreement (samplePeriod_agreement _ streams) (flushDue_agrees hs))
  | uplinkGroupComplete h words => exact keep (uplinkGroupComplete_agreement s h words e)
  | lightLost h m =>
    exact agrees_of_event hs e (keep (agreement_ite rfl rfl))
  | lightRestored h m => exact agrees_of_event hs e (keep ((modHead_agreement _ h _).trans (atMoment_agreement s m)))
  | blipLimitReached h m => exact agrees_of_event hs e (keep ((watchLight_agreement _ h).trans (atMoment_agreement s m)))
  | lockFound h => exact agrees_of_event hs e (keep (agreement_ite rfl (modHead_agreement s h _)))
  | lockLost h => exact agrees_of_event hs e (keep (agreement_ite rfl (loseLock_agreement s h)))
  | headReport h m r intact => exact keep (headReport_agreement s h m r intact e)
  | reportLate h m => exact agrees_of_event hs e (keep ((watchMaximum_agreement _ h).trans (atMoment_agreement s m)))
  | reportLostLimit h m => exact agrees_of_event hs e (keep ((watchLost_agreement _ h).trans (atMoment_agreement s m)))
  | markerReturn h f n => exact agrees_of_event hs e (keep (returnMarker_agreement s h f n))
  | testWordReturned h w parity => exact keep (testWordReturned_agreement s h w parity e)
  | recomputeComplete h => exact agrees_of_next (keep (agreement_ite rfl (completeRecompute_agreement s h))) e

/-- Settles O6: each operation either leaves carriers' bindings, placements, lanes, map, plans and due bindings as they are or
keeps the agreement, by induction over what is due and by cases over the commands. -/
theorem everyStepKeepsLanesAndPlansInAgreement : Obligations.EveryStepKeepsLanesAndPlansInAgreement := by
  unfold Obligations.EveryStepKeepsLanesAndPlansInAgreement
  intro s t lanes plans e
  have hs : s.agrees := ⟨lanes, plans⟩
  unfold step at e
  split at e
  · exact agrees_of_next hs e
  · next i rest _ => exact exec_agrees (s := { s with pending := rest }) (agrees_of_agreement (s := s) rfl hs) i e

end Sys2Proof.Machine
end

section
/-!
SUPPORT. Requests as messages, the length of their replies, and what a request on a ready port does that is answered from
the state as it stands.
-/

namespace Sys2Proof.Machine

open Sys2Proof

/-! ## Requests as messages -/

/-- A request that its message carries whole and that waits for no grant. -/
structure Request.direct (r : Request) : Prop where
  sound : Message.malformed r.toMessage = false
  ungranted : Message.usesArbiter r.toMessage = false
  carried : Message.request r.toMessage = r

/-- A request that its message carries whole and that waits for a grant. -/
structure Request.granted (r : Request) : Prop where
  sound : Message.malformed r.toMessage = false
  waits : Message.usesArbiter r.toMessage = true
  carried : Message.request r.toMessage = r

theorem indexOf_byteOf {n : Nat} (hn : n ≤ 256) (i : Fin n) : indexOf n (byteOf i) = some i := by
  have e : (byteOf i).toNat = i.val := by
    rw [byteOf, BitVec.toNat_ofNat]
    exact Nat.mod_eq_of_lt (by omega)
  simp [indexOf, e]

theorem half_halfBytes (x : Half) : half (x.extractLsb' 8 8) (x.extractLsb' 0 8) = x := by
  unfold half
  ext i hi
  simp only [BitVec.getElem_append, BitVec.getElem_extractLsb']
  split
  · simpa using BitVec.getLsbD_eq_getElem hi
  · next h => rw [← BitVec.getLsbD_eq_getElem]; congr 1; omega

/-! ## Replies -/

theorem chunks_length_le (n fuel : Nat) (l : List Byte) : (chunks n fuel l).length ≤ fuel := by
  induction fuel generalizing l with
  | zero => exact Nat.le_refl 0
  | succ fuel ih =>
    unfold chunks
    split
    · exact Nat.succ_le_succ (Nat.zero_le fuel)
    · exact Nat.succ_le_succ (ih _)

/-- No answer has more than sixteen messages. -/
theorem replyMessages_length_le (m : Message) (a : Answer) : (replyMessages m a).length ≤ 16 := by
  cases a with
  | reply x contents => simpa [replyMessages] using chunks_length_le 60 16 contents
  | segmented contents => simpa [replyMessages] using chunks_length_le 59 16 contents
  | waits c => exact Nat.zero_le 16

theorem type_toMessage {r : Request} (h : r.type < 128) : Message.type r.toMessage = r.type := by
  simp only [Message.type, Request.toMessage, BitVec.toNat_ofNat]
  omega

/-- An answer that fits one message is one message (R183). -/
theorem replyMessages_reply {r : Request} (ht : r.type < 128) (x : Status) {contents : List Byte} (hc : contents.length ≤ 61) :
    replyMessages r.toMessage (.reply x contents) = [replyTo r.type x contents] := by
  simp [replyMessages, chunks, hc, replyTo, replyType, type_toMessage ht]

theorem ready_mono {s : State} {p : Port} {m n : Nat} (h : m ≤ n) (hr : s.ready p n = true) : s.ready p m = true := by
  obtain ⟨ho, hi, hq, hroom⟩ := (ready_iff s p n).1 hr
  exact (ready_iff s p m).2 ⟨ho, hi, hq, by omega⟩

/-! ## Answers from the state as it stands -/

/-- A request that changes nothing, on a ready port: its reply joins the outgoing queue. -/
theorem request_unchanged {s : State} {p : Port} {r : Request} {a : Answer}
    (h : s.ready p (replyMessages r.toMessage a).length = true) (hr : r.direct)
    (hs : carryOut p r (s.taken p r) = (s.taken p r, a)) (ha : ∀ c, a ≠ .waits c) :
    s.request p r = s.withReply p (replyMessages r.toMessage a) := by
  rw [request_direct s (s.taken p r) p r a h hr.sound hr.ungranted hr.carried hs rfl ha]
  simp [State.taken, State.modPort, State.withReply, State.replied]

/-- The same for an answer of several segments, where the queue has room for all that an answer may have. -/
theorem request_unchanged_segmented {s : State} {p : Port} {r : Request} {contents : List Byte} (h : s.ready p 16 = true)
    (hr : r.direct) (hs : carryOut p r (s.taken p r) = (s.taken p r, .segmented contents)) :
    s.request p r = s.withReply p (replyMessages r.toMessage (.segmented contents)) :=
  request_unchanged (ready_mono (replyMessages_length_le _ _) h) hr hs nofun

/-- The same for an answer of one message. -/
theorem request_unchanged_reply {s : State} {p : Port} {r : Request} {x : Status} {contents : List Byte} {n : Nat}
    (h : s.ready p (n + 1) = true) (hr : r.direct) (ht : r.type < 128) (hc : contents.length ≤ 61)
    (hs : carryOut p r (s.taken p r) = (s.taken p r, .reply x contents)) :
    s.request p r = s.answered p r.type x contents := by
  have one := replyMessages_reply ht x hc
  rw [request_unchanged (a := .reply x contents) (ready_mono (by rw [one]; exact Nat.succ_le_succ n.zero_le) h) hr hs nofun, one]
  rfl

/-! ## Lengths of replies -/

@[simp] theorem byte1_length (n : Nat) : (byte1 n).length = 1 := rfl
@[simp] theorem byte2_length (n : Nat) : (byte2 n).length = 2 := rfl
@[simp] theorem byte4_length (n : Nat) : (byte4 n).length = 4 := rfl
@[simp] theorem byteFlag_length (b : Bool) : (byteFlag b).length = 1 := rfl

/-- Pieces of one byte each make as many bytes as there are pieces. -/
theorem flatten_map_length_one {α : Type} (f : α → List Byte) (hf : ∀ a, (f a).length = 1) (l : List α) :
    (l.map f).flatten.length = l.length := by
  induction l with
  | nil => rfl
  | cons a l ih => simp [hf, ih]; omega

theorem loadReportBytes_length (s : State) : s.loadReportBytes.length = 49 := by
  have loads : ∀ l : List Load, (l.map Load.byte).flatten.length = l.length := flatten_map_length_one _ fun _ => rfl
  have triggers : ∀ l : List Trigger, (l.map Trigger.summaryByte).flatten.length = l.length :=
    flatten_map_length_one _ fun _ => rfl
  unfold State.loadReportBytes
  cases s.load.published <;> simp only [List.length_append, loads, triggers] <;> simp

end Sys2Proof.Machine
end

section
/-! PROOF of O20: a request that reads is answered from the state as it stands. -/

namespace Sys2Proof.Machine

open Sys2Proof

theorem link?_ofLink (l : Link) : Port.link? (Port.ofLink l) = some l := by revert l; decide

/-! ## STATUS, PLAN_QUERY and PLAN_READ: replies of several segments -/

theorem carryOut_status_device (p : Port) (s : State) :
    carryOut p (.status 2 none) s = (s, .segmented s.deviceStatus) := rfl

theorem carryOut_status_carrier (p : Port) (s : State) (c : Carrier) :
    carryOut p (.status 0 (some (byteOf c))) s =
      if sees p c then (s, .segmented (s.carrierStatus c)) else (s, refusal .notPermitted) := by
  change serveStatus p 0 (some (byteOf c)) s = _
  simp [serveStatus, indexOf_byteOf (by decide : 16 ≤ 256)]

theorem carryOut_status_head (p : Port) (s : State) (h : Head) :
    carryOut p (.status 1 (some (byteOf h))) s = (s, .segmented (s.headStatus p h)) := by
  change serveStatus p 1 (some (byteOf h)) s = _
  simp [serveStatus, indexOf_byteOf (by decide : 16 ≤ 256)]

theorem carryOut_planRead (s : State) (k : SlotIndex) :
    carryOut Port.mp (.planRead (byteOf k)) s = (s, .segmented s.plans.slots[k].bytes) := by
  change servePlanRead Port.mp (byteOf k) s = _
  simp [servePlanRead, indexOf_byteOf (by decide : 4 ≤ 256)]

/-- What PLAN_QUERY answers (R150). -/
def State.planQueryBytes (s : State) (p : Port) : List Byte :=
  match servePlanQuery p s with
  | (_, .segmented contents) => contents
  | _ => []

theorem carryOut_planQuery (p : Port) (s : State) : carryOut p .planQuery s = (s, .segmented (s.planQueryBytes p)) := by
  change servePlanQuery p s = _
  unfold State.planQueryBytes servePlanQuery
  cases Port.link? p <;> rfl

theorem planQueryBytes_taken (s : State) (p q : Port) (r : Request) : (s.taken p r).planQueryBytes q = s.planQueryBytes q := by
  unfold State.planQueryBytes servePlanQuery
  cases Port.link? q <;> rfl

/-- An operator that no pending plan and no last outcome concerns is told of neither (R150). -/
theorem planQueryBytes_unconcerned {s : State} {l : Link}
    (hp : s.pendingPlan = none ∨ ∃ k o, s.pendingPlan = some (k, o) ∧ l ∉ o.affected) (hl : s.plans.last = none) :
    s.planQueryBytes (Port.ofLink l) = [0, 0] := by
  simp only [State.planQueryBytes, servePlanQuery, link?_ofLink, hl, State.operatorPlanBytes]
  obtain e | ⟨k, o, e, hn⟩ := hp
  · rw [e]; rfl
  · have out : o.affected.contains l = false := by simpa using hn
    simp only [e, out]
    rfl

/-! ## TEST_READ, TRIGGER_READ and LOAD_REPORT: replies of one message -/

theorem testReadBytes_length (x : Option TestRecord) (n : Nat) :
    ((match x with
      | none => byteFlag false
      | some x => byteFlag true ++ x.bytes) ++ byte1 n).length ≤ 61 := by
  cases x <;> simp [TestRecord.bytes]

theorem carryOut_testRead (s : State) (h : Head) :
    carryOut Port.mp (.testRead (byteOf h)) s =
      (s, .reply .ok ((match s.heads[h].test.snapshot with
        | none => byteFlag false
        | some x => byteFlag true ++ x.bytes) ++ byte1 s.heads[h].liveChecker)) := by
  change serveTestRead Port.mp (byteOf h) s = _
  simp [serveTestRead, indexOf_byteOf (by decide : 16 ≤ 256)] <;> rfl

theorem carryOut_triggerRead (s : State) (t : TriggerIndex) :
    carryOut Port.mp (.triggerRead (byteOf t)) s = (s, .reply .ok s.load.triggers[t].bytes) := by
  change serveTriggerRead Port.mp (byteOf t) s = _
  simp [serveTriggerRead, indexOf_byteOf (by decide : 8 ≤ 256)]

theorem carryOut_loadReport (s : State) : carryOut Port.mp .loadReport s = (s, .reply .ok s.loadReportBytes) := rfl

theorem replyTo_payload_length (n : Nat) (x : Status) (contents : List Byte) :
    (replyTo n x contents).payload.length = contents.length + 1 := by
  simp [replyTo, mkMessage, Nat.add_comm]

/-- Settles O20: each of these requests is carried out from the state with the request taken up, which reads as the state
itself, and its reply finds room. -/
theorem readingChangesNothing : Obligations.ReadingChangesNothing := by
  unfold Obligations.ReadingChangesNothing
  intro s p
  constructor
  · intro h
    have one : s.ready p (0 + 1) = true := ready_mono (by decide) h
    refine ⟨?_, fun c hc => ?_, fun c hc => ?_, fun x => ?_, ⟨s.planQueryBytes p, ?_, ?_⟩, ?_⟩
    · exact congrArg _ (request_unchanged_segmented h ⟨rfl, rfl, rfl⟩ (carryOut_status_device p _))
    · refine congrArg _ (request_unchanged_segmented h ⟨rfl, rfl, rfl⟩ ?_)
      rw [carryOut_status_carrier, if_pos hc]
      rfl
    · refine congrArg _ (request_unchanged_reply one (r := .status 0 (some (byteOf c))) ⟨rfl, rfl, rfl⟩ (by simp [Request.type]) (by decide) ?_)
      rw [carryOut_status_carrier, if_neg (by simp [hc])]
      rfl
    · exact congrArg _ (request_unchanged_segmented h ⟨rfl, rfl, rfl⟩ (carryOut_status_head p _ x))
    · rw [← planQueryBytes_taken s p p .planQuery]
      exact congrArg _ (request_unchanged_segmented h ⟨rfl, rfl, rfl⟩ (carryOut_planQuery p _))
    · rintro l rfl hp hl
      exact planQueryBytes_unconcerned hp hl
    · rintro rfl k
      exact congrArg _ (request_unchanged_segmented h ⟨rfl, rfl, rfl⟩ (carryOut_planRead _ k))
  · intro h
    refine ⟨fun x => ?_, fun t => ?_, ?_, ?_⟩
    · exact congrArg _ (request_unchanged_reply h (r := .testRead (byteOf x)) ⟨rfl, rfl, rfl⟩ (by simp [Request.type])
        (testReadBytes_length _ _) (carryOut_testRead _ x))
    · exact congrArg _ (request_unchanged_reply h (r := .triggerRead (byteOf t)) ⟨rfl, rfl, rfl⟩ (by simp [Request.type])
        (by simp [Trigger.bytes]) (carryOut_triggerRead _ t))
    · exact congrArg _ (request_unchanged_reply h (r := .loadReport) ⟨rfl, rfl, rfl⟩ (by simp [Request.type])
        ((loadReportBytes_length s).trans_le (by decide)) (carryOut_loadReport _))
    · rw [replyTo_payload_length, loadReportBytes_length]

end Sys2Proof.Machine
end

section
/-!
SUPPORT. What a recompute request makes of a head's recompute state (R50, R51), and a request of the arbiter on a ready port.
-/

namespace Sys2Proof.Machine

open Sys2Proof

/-! ## Snapshots -/

/-- What a snapshot of a head looks at. -/
structure State.sameEntries (s t : State) (h : Head) : Prop where
  placements : t.placements = s.placements
  mode : t.mode = s.mode
  heads : t.heads = s.heads
  links : t.links = s.links
  powers : ∀ c : Carrier, t.carriers[c].power = s.carriers[c].power
  weights : t.weights = s.weights
  nominal : t.power[h].nominal = s.power[h].nominal

theorem downlinkState_congr {s t : State} (mode : t.mode = s.mode) (heads : t.heads = s.heads) (links : t.links = s.links) :
    t.downlinkState = s.downlinkState := by
  funext p
  unfold State.downlinkState State.inService State.paOff State.linkUp
  rw [mode, heads, links]

theorem eligible_congr {s t : State} (mode : t.mode = s.mode) (heads : t.heads = s.heads) (links : t.links = s.links) :
    t.eligible = s.eligible := by
  funext p
  simp only [State.eligible, downlinkState_congr mode heads links]

theorem snapshot_congr {s t : State} {h : Head} (e : s.sameEntries t h) : t.snapshot h = s.snapshot h := by
  simp only [State.snapshot, State.placementsOn, State.paOff, State.inService, e.placements, e.heads, e.weights, e.powers, e.nominal,
    eligible_congr e.mode e.heads e.links]

theorem eligible_iff (s : State) (p : Placement) :
    s.eligible p = decide (s.downlinkState p ∈ [DownlinkState.new, DownlinkState.starved, DownlinkState.radiating]) := by
  unfold State.eligible
  cases s.downlinkState p <;> rfl

/-- A snapshot holds what R50 lists. -/
theorem snapshot_takenOf (s : State) (h : Head) : (s.snapshot h).takenOf s h := by
  have entering : (s.placementsOn h).filter s.eligible = s.placements.filter fun p =>
      decide (p.head = h ∧ s.downlinkState p ∈ [DownlinkState.new, DownlinkState.starved, DownlinkState.radiating]) := by
    rw [State.placementsOn, List.filter_filter]
    congr 1
    funext p
    rw [eligible_iff, Bool.decide_and, Bool.and_comm]
  refine ⟨?_, ?_, rfl, rfl, rfl, ?_⟩
  · simp only [State.snapshot, entering]
  · simp only [State.snapshot, entering, List.map_map]
    rfl
  · simp only [State.snapshot, State.paOff]
    cases s.heads[h].report <;> exact ⟨rfl, rfl⟩

theorem takenOf_congr {s t : State} {h : Head} (e : s.sameEntries t h) {x : Snapshot} (hx : x.takenOf s h) : x.takenOf t h := by
  simpa only [Snapshot.takenOf, State.inService, downlinkState_congr e.mode e.heads e.links, e.placements, e.heads, e.weights,
    e.powers, e.nominal] using hx

/-! ## Requests for a recompute -/

/-- The recompute state of a head after a request, where the request would take this snapshot (R50, R51). -/
def PowerHead.requested (q : PowerHead) (x : Snapshot) : PowerHead :=
  if q.running.isSome then { q with again := true }
  else { q with running := some x, aged := false, snapDerate := x.derate, snapPaOff := x.paOff }

theorem requested_of_idle {q : PowerHead} (h : q.running = none) (x : Snapshot) :
    q.requested x = { q with running := some x, aged := false, snapDerate := x.derate, snapPaOff := x.paOff } := by
  rw [PowerHead.requested, h]
  rfl

theorem requested_of_running {q : PowerHead} (h : q.running.isSome = true) (x : Snapshot) :
    q.requested x = { q with again := true } :=
  if_pos h

theorem requestRecompute_eq (s : State) (h : Head) :
    s.requestRecompute h = s.modPower h fun q => q.requested (s.snapshot h) := by
  unfold State.requestRecompute State.startRecompute State.modPower PowerHead.requested
  split
  · next running => simp only [running, if_true]
  · next idle => simp only [idle, if_false, Bool.false_eq_true]

@[simp] theorem requested_nominal (q : PowerHead) (x : Snapshot) : (q.requested x).nominal = q.nominal := by
  unfold PowerHead.requested
  split <;> rfl

theorem requested_running_isSome (q : PowerHead) (x : Snapshot) : (q.requested x).running.isSome = true := by
  unfold PowerHead.requested
  split
  · assumption
  · rfl

theorem requested_again {q : PowerHead} {x : Snapshot} (h : q.running.isSome = true) : (q.requested x).again = true := by
  simp [PowerHead.requested, h]

theorem modPower_power (s : State) (g h : Head) (f : PowerHead → PowerHead) :
    (s.modPower g f).power[h] = if h = g then f s.power[g] else s.power[h] := by
  simp only [State.modPower]
  rw [get_set]
  simp only [eq_comm]

@[simp] theorem requestRecompute_snapshot (s : State) (g h : Head) : (s.requestRecompute g).snapshot h = s.snapshot h := by
  rw [requestRecompute_eq]
  refine snapshot_congr ⟨rfl, rfl, rfl, rfl, fun _ => rfl, rfl, ?_⟩
  rw [modPower_power]
  split
  · next e => rw [e, requested_nominal]
  · rfl

theorem requestRecompute_power (s : State) (g h : Head) :
    (s.requestRecompute g).power[h] = if h = g then s.power[g].requested (s.snapshot g) else s.power[h] := by
  rw [requestRecompute_eq, modPower_power]

/-- Requests for the heads of a list without repeats: each takes its snapshot of the state as it was before them. -/
theorem requestAll_power {l : List Head} (hl : l.Nodup) (s : State) (h : Head) :
    (forAll l (fun g t => t.requestRecompute g) s).power[h] =
      if h ∈ l then s.power[h].requested (s.snapshot h) else s.power[h] := by
  induction l generalizing s with
  | nil => rfl
  | cons g l ih =>
    obtain ⟨hg, hl⟩ := List.nodup_cons.1 hl
    rw [forAll_cons, ih hl, requestRecompute_snapshot, requestRecompute_power]
    by_cases e : h = g
    · subst e; simp [hg]
    · simp [e]

/-- Requests change the power sharing unit alone. -/
theorem requestAll_eq (l : List Head) (s : State) :
    forAll l (fun g t => t.requestRecompute g) s = { s with power := (forAll l (fun g t => t.requestRecompute g) s).power } := by
  induction l generalizing s with
  | nil => rfl
  | cons g l ih =>
    rw [forAll_cons]
    conv_lhs => rw [ih]
    rw [requestRecompute_eq]
    rfl

/-- A head whose recompute state is that of a request has been asked for a recompute. -/
theorem askedFor_of_requested {s t : State} {h : Head} {x : Snapshot} (e : t.power[h] = s.power[h].requested x)
    (hx : x.takenOf t h) : s.askedFor t h := by
  unfold State.askedFor PowerHead.asked
  rw [e]
  generalize s.power[h] = q
  cases hq : q.running with
  | none =>
    rw [requested_of_idle hq]
    exact ⟨rfl, fun _ => ⟨x, rfl, hx, rfl, rfl, rfl⟩⟩
  | some y =>
    rw [requested_of_running (by rw [hq]; rfl)]
    exact ⟨⟨hq, rfl⟩, nofun⟩

/-! ## Requests that wait for a grant -/

/-- The state in which the owner of a configuration or plan request evaluates it (R187). -/
def State.evaluated (s : State) (p : Port) (r : Request) : State :=
  (s.taken p r).setArbiter { s.arbiter with granted := some p }

/-- A request that has held the arbiter, on a ready port, answered in one message: the owner's new state with the reply. -/
theorem request_granted_reply {s t : State} {p : Port} {r : Request} {x : Status} {contents : List Byte} (h : s.ready p 1 = true)
    (hf : s.arbiterFree = true) (hr : r.granted) (ht : r.type < 128) (hc : contents.length ≤ 61)
    (hs : carryOut p r (s.evaluated p r) = (t, .reply x contents)) (hp : t.ports = (s.taken p r).ports) :
    s.request p r =
      { t with arbiter := { granted := none, last := p }, ports := s.replied p [replyTo r.type x contents] } := by
  have one := replyMessages_reply ht x hc
  rw [request_granted s t p r (.reply x contents) (by rwa [one]) hf hr.sound hr.waits hr.carried hs (by rw [hp]) nofun, one, hp]
  simp [State.taken, State.modPort, State.replied]

/-- The same where the owner's state stays as it is. -/
theorem request_granted_unchanged {s : State} {p : Port} {r : Request} {x : Status} {contents : List Byte}
    (h : s.ready p 1 = true) (hf : s.arbiterFree = true) (hr : r.granted) (ht : r.type < 128) (hc : contents.length ≤ 61)
    (hs : carryOut p r (s.evaluated p r) = (s.evaluated p r, .reply x contents)) :
    s.request p r = s.grantedAnswer p r.type x contents :=
  request_granted_reply (t := s.evaluated p r) h hf hr ht hc hs rfl

end Sys2Proof.Machine
end

section
/-! PROOF of O28: DECLARE and WITHDRAW. -/

namespace Sys2Proof.Machine

open Sys2Proof

theorem widthOf_code (w : WidthClass) : widthOf (BitVec.ofNat 8 w.code) = some w := by cases w <;> rfl

theorem bound_iff (r : CarrierRecord) : r.bound = true ↔ r.active ≠ [] ∨ r.pending.isSome = true := by
  simp [CarrierRecord.bound]

theorem bound_eq_false_of {r : CarrierRecord} (h : ¬ (r.active ≠ [] ∨ r.pending.isSome = true)) : r.bound = false :=
  Bool.eq_false_iff.2 (mt (bound_iff r).1 h)

/-! ## DECLARE -/

/-- The record that a DECLARE of a width class, a power request and a shift stores (R8, R10). -/
def CarrierRecord.declaredAs (r : CarrierRecord) (w : WidthClass) (n : Half) (k : Byte) : CarrierRecord :=
  { r with declared := true, width := w, power := clamp 1 8000 n.toNat, shift := min 4 k.toNat }

/-- The contents of the reply to a DECLARE that is stored. -/
def CarrierRecord.declareReply (r : CarrierRecord) (c : Carrier) : List Byte :=
  byte1 c.val ++ byte1 r.width.code ++ byte2 r.power ++ byte1 r.shift

theorem declare_granted (c : Carrier) (w : WidthClass) (n : Half) (k : Byte) :
    (Request.declare (byteOf c) (BitVec.ofNat 8 w.code) n k).granted :=
  ⟨rfl, rfl, congrArg (fun m => Request.declare _ _ m _) (half_halfBytes n)⟩

section
variable {u : State} {p : Port} {c : Carrier} (w : WidthClass) (n : Half) (k : Byte)

theorem declare_notPermitted (ho : ownedBy p c = false) :
    carryOut p (.declare (byteOf c) (BitVec.ofNat 8 w.code) n k) u = (u, refusal .notPermitted) := by
  change serveDeclare p (byteOf c) (BitVec.ofNat 8 w.code) n k u = _
  simp [serveDeclare, indexOf_byteOf (by decide : 16 ≤ 256), widthOf_code, ho]

variable (ho : ownedBy p c = true)
include ho

theorem declare_carrierBound (hd : u.carriers[c].declared = true) (hw : w ≠ u.carriers[c].width)
    (hb : u.carriers[c].bound = true) :
    carryOut p (.declare (byteOf c) (BitVec.ofNat 8 w.code) n k) u = (u, refusal .carrierBound) := by
  change serveDeclare p (byteOf c) (BitVec.ofNat 8 w.code) n k u = _
  simp only [serveDeclare, indexOf_byteOf (by decide : 16 ≤ 256), widthOf_code, ho, hd, hb, decide_eq_true hw]
  rfl

theorem declare_planPending (hd : u.carriers[c].declared = true) (hw : w ≠ u.carriers[c].width)
    (hb : u.carriers[c].bound = false) (hp : u.planPending = true) :
    carryOut p (.declare (byteOf c) (BitVec.ofNat 8 w.code) n k) u = (u, refusal .planPending) := by
  change serveDeclare p (byteOf c) (BitVec.ofNat 8 w.code) n k u = _
  simp only [serveDeclare, indexOf_byteOf (by decide : 16 ≤ 256), widthOf_code, ho, hd, hb, hp, decide_eq_true hw]
  rfl

/-- A DECLARE that is not refused stores its fields, and asks for a recompute on every head of the carrier where it changes the
power request (R8 to R11). -/
theorem declare_stored (hs : u.carriers[c].declared = false ∨ w = u.carriers[c].width ∨
      (u.carriers[c].bound = false ∧ u.planPending = false)) :
    carryOut p (.declare (byteOf c) (BitVec.ofNat 8 w.code) n k) u =
      (let x := u.carriers[c].declaredAs w n k
       let t := u.modCarrier c fun r => r.declaredAs w n k
       (if u.carriers[c].declared = true ∧ x.power ≠ u.carriers[c].power then
          forAll (t.placementsOf c) (fun q v => v.requestRecompute q.head) t
        else t, .reply .ok (x.declareReply c))) := by
  have bound : (u.carriers[c].declared && decide (w ≠ u.carriers[c].width) && u.carriers[c].bound) = false := by
    obtain h | h | ⟨h, -⟩ := hs
    · rw [h]; rfl
    · simp [h]
    · rw [h, Bool.and_false]
  have pending : (u.carriers[c].declared && decide (w ≠ u.carriers[c].width) && u.planPending) = false := by
    obtain h | h | ⟨-, h⟩ := hs
    · rw [h]; rfl
    · simp [h]
    · rw [h, Bool.and_false]
  change serveDeclare p (byteOf c) (BitVec.ofNat 8 w.code) n k u = _
  simp only [serveDeclare, indexOf_byteOf (by decide : 16 ≤ 256), widthOf_code, ho, bound, pending, Bool.and_eq_true,
    decide_eq_true_eq]
  rfl

end

/-- The heads on which a carrier has a placement stand once each where no pair of head and carrier has two. -/
theorem placementsOf_heads_nodup {s : State} (h : (s.placements.map fun q => (q.head, q.carrier)).Nodup) (c : Carrier) :
    ((s.placementsOf c).map (·.head)).Nodup := by
  refine (List.nodup_map_iff_inj_on ?_).2 ?_
  · exact (List.Nodup.of_map _ h).filter _
  · intro q hq r hr e
    obtain ⟨hq, eq⟩ := List.mem_filter.1 hq
    obtain ⟨hr, er⟩ := List.mem_filter.1 hr
    simp only [decide_eq_true_eq] at eq er
    exact List.inj_on_of_nodup_map h hq hr (by rw [e, eq, er])

theorem mem_placementsOf_heads (s : State) (h : Head) (c : Carrier) :
    h ∈ (s.placementsOf c).map (·.head) ↔ (s.placement h c).isSome = true := by
  simp only [State.placementsOf, State.placement, List.mem_map, List.mem_filter, List.find?_isSome, decide_eq_true_eq]
  exact ⟨fun ⟨q, ⟨hq, e⟩, f⟩ => ⟨q, hq, f, e⟩, fun ⟨q, hq, f, e⟩ => ⟨q, ⟨hq, e⟩, f⟩⟩

theorem forAll_map {α β : Type} (f : α → β) (g : β → State → State) (l : List α) (s : State) :
    forAll (l.map f) g s = forAll l (fun a t => g (f a) t) s :=
  List.foldl_map

/-! ## WITHDRAW -/

section
variable {u : State} {p : Port} {c : Carrier}

theorem withdraw_notPermitted (ho : ownedBy p c = false) :
    carryOut p (.withdraw (byteOf c)) u = (u, refusal .notPermitted) := by
  change serveWithdraw p (byteOf c) u = _
  simp [serveWithdraw, indexOf_byteOf (by decide : 16 ≤ 256), ho]

variable (ho : ownedBy p c = true)
include ho

theorem withdraw_badCarrier (hd : u.carriers[c].declared = false) :
    carryOut p (.withdraw (byteOf c)) u = (u, refusal .badCarrier) := by
  change serveWithdraw p (byteOf c) u = _
  simp only [serveWithdraw, indexOf_byteOf (by decide : 16 ≤ 256), ho, hd]
  rfl

theorem withdraw_carrierBound (hd : u.carriers[c].declared = true) (hb : u.carriers[c].bound = true) :
    carryOut p (.withdraw (byteOf c)) u = (u, refusal .carrierBound) := by
  change serveWithdraw p (byteOf c) u = _
  simp only [serveWithdraw, indexOf_byteOf (by decide : 16 ≤ 256), ho, hd, hb]
  rfl

theorem withdraw_planPending (hd : u.carriers[c].declared = true) (hb : u.carriers[c].bound = false)
    (hp : u.planPending = true) : carryOut p (.withdraw (byteOf c)) u = (u, refusal .planPending) := by
  change serveWithdraw p (byteOf c) u = _
  simp only [serveWithdraw, indexOf_byteOf (by decide : 16 ≤ 256), ho, hd, hb, hp]
  rfl

theorem withdraw_reset (hd : u.carriers[c].declared = true) (hb : u.carriers[c].bound = false) (hp : u.planPending = false) :
    carryOut p (.withdraw (byteOf c)) u = (u.modCarrier c fun _ => CarrierRecord.reset, .reply .ok (byte1 c.val)) := by
  change serveWithdraw p (byteOf c) u = _
  simp only [serveWithdraw, indexOf_byteOf (by decide : 16 ≤ 256), ho, hd, hb, hp]
  rfl

end

/-! ## The statement, part by part -/

section
variable {s : State} {p : Port} {c : Carrier} (h : s.ready p 1 = true) (hf : s.arbiterFree = true)
include h hf

theorem declare_refused (w : WidthClass) (n : Half) (k : Byte) {x : Status}
    (hs : ∀ u : State, u.carriers = s.carriers → u.planPending = s.planPending →
      carryOut p (.declare (byteOf c) (BitVec.ofNat 8 w.code) n k) u = (u, refusal x)) :
    exec (.declare p (byteOf c) (BitVec.ofNat 8 w.code) n k) s = .next (s.grantedAnswer p 1 x []) :=
  congrArg Host.Outcome.next (request_granted_unchanged h hf (declare_granted c w n k) (by simp [Request.type]) (by simp)
    (hs _ rfl rfl))

theorem withdraw_refused {x : Status}
    (hs : ∀ u : State, u.carriers = s.carriers → u.planPending = s.planPending →
      carryOut p (.withdraw (byteOf c)) u = (u, refusal x)) :
    exec (.withdraw p (byteOf c)) s = .next (s.grantedAnswer p 2 x []) :=
  congrArg Host.Outcome.next (request_granted_unchanged h hf ⟨rfl, rfl, rfl⟩ (by simp [Request.type]) (by simp) (hs _ rfl rfl))

/-- A stored DECLARE: the record, and the requests where the power request changes. -/
theorem declare_accepted (ho : ownedBy p c = true) (w : WidthClass) (n : Half) (k : Byte)
    (hs : s.carriers[c].declared = false ∨ w = s.carriers[c].width ∨
      (s.carriers[c].bound = false ∧ s.planPending = false)) :
    let x := s.carriers[c].declaredAs w n k
    let stored := { s with carriers := s.carriers.set c x, arbiter := { granted := none, last := p }
                           ports := s.replied p [replyTo 1 .ok (x.declareReply c)] }
    (s.carriers[c].declared = false ∨ x.power = s.carriers[c].power →
      exec (.declare p (byteOf c) (BitVec.ofNat 8 w.code) n k) s = .next stored) ∧
    (s.carriers[c].declared = true → x.power ≠ s.carriers[c].power → (s.placements.map fun q => (q.head, q.carrier)).Nodup →
      ∃ t, exec (.declare p (byteOf c) (BitVec.ofNat 8 w.code) n k) s = .next t ∧ t = { stored with power := t.power } ∧
        ∀ g : Head, ((s.placement g c).isSome = true → s.askedFor t g) ∧
          ((s.placement g c).isSome = false → t.power[g] = s.power[g])) := by
  intro x stored
  let u := s.evaluated p (.declare (byteOf c) (BitVec.ofNat 8 w.code) n k)
  have carried := declare_stored (u := u) w n k ho hs
  constructor
  · intro unchanged
    have same : ¬ (s.carriers[c].declared = true ∧ x.power ≠ s.carriers[c].power) := by
      rintro ⟨hd, hp⟩
      exact unchanged.elim (fun e => absurd hd (by rw [e]; decide)) hp
    exact congrArg Host.Outcome.next (request_granted_reply h hf (declare_granted c w n k) (by simp [Request.type])
      (by simp [CarrierRecord.declareReply]) (carried.trans (congrArg (·, _) (if_neg same))) rfl)
  · intro hd hp nodup
    have changed : s.carriers[c].declared = true ∧ x.power ≠ s.carriers[c].power := ⟨hd, hp⟩
    let v := u.modCarrier c fun r => r.declaredAs w n k
    let heads := (s.placementsOf c).map (·.head)
    let asked := forAll heads (fun g t => t.requestRecompute g) v
    have asks : forAll (v.placementsOf c) (fun q t => t.requestRecompute q.head) v = asked :=
      (forAll_map (fun q : Placement => q.head) (fun g t => State.requestRecompute t g) _ _).symm
    have power : asked = { v with power := asked.power } := requestAll_eq heads v
    have each : ∀ g : Head, asked.power[g] = if g ∈ heads then s.power[g].requested (v.snapshot g) else s.power[g] :=
      requestAll_power (placementsOf_heads_nodup nodup c) v
    refine ⟨{ stored with power := asked.power }, ?_, rfl, fun g => ?_⟩
    · refine congrArg Host.Outcome.next ((request_granted_reply (t := asked) h hf (declare_granted c w n k) (by simp [Request.type])
        (by simp [CarrierRecord.declareReply]) (carried.trans (congrArg (·, _) ((if_pos changed).trans asks))) ?_).trans ?_)
      · rw [power]; rfl
      · rw [power]; rfl
    · constructor
      · intro hg
        have requested : asked.power[g] = s.power[g].requested (v.snapshot g) :=
          (each g).trans (if_pos ((mem_placementsOf_heads s g c).2 hg))
        have nominal : asked.power[g].nominal = s.power[g].nominal :=
          (congrArg PowerHead.nominal requested).trans (requested_nominal _ _)
        exact askedFor_of_requested requested (takenOf_congr (s := v) (t := { stored with power := asked.power })
          ⟨rfl, rfl, rfl, rfl, fun _ => rfl, rfl, nominal⟩ (snapshot_takenOf v g))
      · intro hg
        exact (each g).trans (if_neg fun hm => Bool.eq_false_iff.1 hg ((mem_placementsOf_heads s g c).1 hm))

end

/-- Settles O28: each clause is the branch of the owner's evaluation that its hypotheses choose, taken on a ready port with the
arbiter free. -/
theorem carriersAreDeclaredAndWithdrawn : Obligations.CarriersAreDeclaredAndWithdrawn := by
  unfold Obligations.CarriersAreDeclaredAndWithdrawn
  intro s p c h hf r bound
  refine ⟨fun ho => ⟨fun w n k => ?_, ?_⟩, fun ho w n k => ?_, fun ho => ⟨fun hd => ?_, fun hd hb => ?_, fun hd hb hp => ?_,
    fun hd hb hp => ?_⟩⟩
  · exact declare_refused h hf w n k fun u _ _ => declare_notPermitted w n k ho
  · exact withdraw_refused h hf fun u _ _ => withdraw_notPermitted ho
  · refine ⟨fun hd hw hb => ?_, fun hd hw hb hp => ?_, fun hs => ?_⟩
    · exact declare_refused h hf w n k fun u e _ =>
        declare_carrierBound w n k ho (by rwa [e]) (by rwa [e]) (by rw [e]; exact (bound_iff r).2 hb)
    · exact declare_refused h hf w n k fun u e ep =>
        declare_planPending w n k ho (by rwa [e]) (by rwa [e]) (by rw [e]; exact bound_eq_false_of hb) (by rwa [ep])
    · exact declare_accepted h hf ho w n k (hs.imp_right (Or.imp_right (And.imp_left bound_eq_false_of)))
  · exact withdraw_refused h hf fun u e _ => withdraw_badCarrier ho (by rwa [e])
  · exact withdraw_refused h hf fun u e _ => withdraw_carrierBound ho (by rwa [e]) (by rw [e]; exact (bound_iff r).2 hb)
  · exact withdraw_refused h hf fun u e ep =>
      withdraw_planPending ho (by rwa [e]) (by rw [e]; exact bound_eq_false_of hb) (by rwa [ep])
  · exact congrArg Host.Outcome.next (request_granted_reply h hf ⟨rfl, rfl, rfl⟩ (by simp [Request.type]) (by simp)
      (withdraw_reset ho hd (bound_eq_false_of hb) hp) rfl)

end Sys2Proof.Machine
end

section
/-! PROOF of O29: BIND. -/

namespace Sys2Proof.Machine

open Sys2Proof

/-! ## The sector set of a BIND -/

theorem allSectors_ascending : allSectors.Pairwise (· < ·) := by decide
theorem allHeads_ascending : allHeads.Pairwise (· < ·) := by decide

theorem sectorSet_ascending {list : List Byte} {sectors : List Sector} (h : sectorSet list = some sectors) :
    sectors.Pairwise (· < ·) := by
  unfold sectorSet at h
  split at h
  · cases h; exact allSectors_ascending.filter _
  · cases h

theorem mem_sectorSet {list : List Byte} {sectors : List Sector} (h : sectorSet list = some sectors) (x : Sector) :
    x ∈ sectors ↔ byteOf x ∈ list := by
  have small : (byteOf x).toNat = x.val := by
    rw [byteOf, BitVec.toNat_ofNat]
    omega
  unfold sectorSet at h
  split at h
  · cases h
    have listed : x ∈ allSectors := List.mem_finRange x
    simp only [List.mem_filter, listed, true_and, List.any_eq_true, decide_eq_true_eq]
    constructor
    · rintro ⟨b, hb, e⟩
      have : b = byteOf x := BitVec.eq_of_toNat_eq (e.trans small.symm)
      exact this ▸ hb
    · exact fun hx => ⟨byteOf x, hx, small⟩
  · cases h

/-! ## The first failing head -/

/-- The first hit in an ascending list is that of the lowest member that has one. -/
theorem findSome?_of_lowest {α β : Type} [LT α] {f : α → Option β} {l : List α} {a : α} {b : β} (hl : l.Pairwise (· < ·)) (ha : a ∈ l) (hb : f a = some b) (hn : ∀ x ∈ l, x < a → f x = none) :
    l.findSome? f = some b := by
  induction l with
  | nil => cases ha
  | cons x l ih =>
    obtain ⟨hx, hl⟩ := List.pairwise_cons.1 hl
    rw [List.findSome?_cons]
    obtain rfl | ha := List.mem_cons.1 ha
    · rw [hb]
    · rw [hn x List.mem_cons_self (hx a ha)]
      exact ih hl ha fun y hy => hn y (List.mem_cons_of_mem x hy)

theorem gainingHeads_ascending (s : State) (c : Carrier) (map : SectorMap) (sectors : List Sector) :
    (s.gainingHeads c (headSetUnder map sectors)).Pairwise (· < ·) :=
  (allHeads_ascending.filter _).filter _

theorem bindFailure_of_admitted {s : State} {c : Carrier} {newHeads : List Head}
    (h : ∀ g ∈ s.gainingHeads c newHeads, ∃ u, s.admission g [] [c] (fun _ => newHeads) = .admitted [(c, u)]) :
    s.bindFailure c newHeads = none :=
  List.findSome?_eq_none_iff.2 fun g hg => by
    obtain ⟨u, e⟩ := h g hg
    rw [(admitBinding_inl_iff s c newHeads g u).2 e]

/-- The lowest failing head is answered, with its reason (R15). -/
theorem bindFailure_of_failed {s : State} {c : Carrier} {newHeads : List Head} {h : Head} {reason : FailureReason} {d : Carrier}
    (ascending : (s.gainingHeads c newHeads).Pairwise (· < ·)) (hh : h ∈ s.gainingHeads c newHeads)
    (failed : s.admission h [] [c] (fun _ => newHeads) = .failed reason d)
    (below : ∀ g ∈ s.gainingHeads c newHeads, g < h → ∃ u, s.admission g [] [c] (fun _ => newHeads) = .admitted [(c, u)]) :
    s.bindFailure c newHeads = some (h, reason) := by
  refine findSome?_of_lowest ascending hh ?_ fun g hg hlt => ?_
  · rw [(admitBinding_inr_iff s c newHeads h reason).2 ⟨d, failed⟩]
  · obtain ⟨u, e⟩ := below g hg hlt
    rw [(admitBinding_inl_iff s c newHeads g u).2 e]

/-! ## The reserved units -/

theorem reserveAll_lanes_other {c : Carrier} {l : List Reservation} {g : Head} (hg : g ∉ l.map (·.head)) :
    ∀ s : State, (s.reserveAll c l).lanes[g] = s.lanes[g] := by
  induction l with
  | nil => exact fun _ => rfl
  | cons r l ih =>
    intro s
    rw [List.map_cons, List.mem_cons, not_or] at hg
    rw [reserveAll_cons, ih hg.2, modLanes_get, if_neg (Ne.symm hg.1)]

theorem reserveAll_lanes_same {c : Carrier} {l : List Reservation} (hl : (l.map (·.head)).Nodup) {r : Reservation} (hr : r ∈ l) :
    ∀ s : State, (s.reserveAll c l).lanes[r.head] =
      fillLanes s.lanes[r.head] r.first.val s.carriers[c].width.units (.reserved c) := by
  induction l with
  | nil => cases hr
  | cons q l ih =>
    intro s
    obtain ⟨hq, hl⟩ := List.nodup_cons.1 hl
    rw [reserveAll_cons]
    obtain rfl | hr := List.mem_cons.1 hr
    · rw [reserveAll_lanes_other hq, modLanes_get, if_pos rfl]
    · have other : q.head ≠ r.head := fun e => hq (List.mem_map.2 ⟨r, hr, e.symm⟩)
      rw [ih hl hr, modLanes_get, if_neg other]
      rfl

/-! ## Admission does not look at ports and arbiter -/

theorem admitInOrder_evaluated (s : State) (p : Port) (r : Request) (h : Head) (newHeads : Carrier → List Head)
    (l : List Carrier) (lanes : Vector LaneUnit 8) :
    (s.evaluated p r).admitInOrder h newHeads l lanes = s.admitInOrder h newHeads l lanes := by
  induction l generalizing lanes with
  | nil => rfl
  | cons c l ih =>
    unfold State.admitInOrder
    simp only [ih]
    rfl

theorem admission_evaluated (s : State) (p : Port) (r : Request) : (s.evaluated p r).admission = s.admission := by
  funext h departing newcomers newHeads
  exact admitInOrder_evaluated s p r h newHeads _ _

theorem admitBinding_evaluated (s : State) (p : Port) (r : Request) : (s.evaluated p r).admitBinding = s.admitBinding := by
  funext c newHeads h
  simp only [State.admitBinding, admission_evaluated]

theorem bindFailure_evaluated (s : State) (p : Port) (r : Request) : (s.evaluated p r).bindFailure = s.bindFailure := by
  funext c newHeads
  simp only [State.bindFailure, admitBinding_evaluated]
  rfl

theorem bindReservations_evaluated (s : State) (p : Port) (r : Request) :
    (s.evaluated p r).bindReservations = s.bindReservations := by
  funext c newHeads
  simp only [State.bindReservations, admitBinding_evaluated]
  rfl

/-! ## BIND on a ready port -/

theorem bind_granted (c : Carrier) {list : List Byte} (hl : list.length ≤ 12) : (Request.bind (byteOf c) list).granted := by
  have short : (BitVec.ofNat 8 (list.length + 1)).toNat ≤ 62 := by
    rw [BitVec.toNat_ofNat]
    exact (Nat.mod_le _ _).trans (by omega)
  have sound : Message.malformed (Request.bind (byteOf c) list).toMessage = false := by
    have fits : decide ((BitVec.ofNat 8 (list.length + 1)).toNat > Config.payloadMax) = false := decide_eq_false (Nat.not_lt.2 short)
    exact fits
  refine ⟨sound, ?_, rfl⟩
  unfold Message.usesArbiter
  rw [sound]
  rfl

/-- A request that has held the arbiter and waits for a boundary, on a ready port (R16). -/
theorem request_waits {s t : State} {p : Port} {r : Request} {c : Carrier} {n : Nat} (h : s.ready p n = true)
    (hf : s.arbiterFree = true) (hr : r.granted) (hs : carryOut p r (s.evaluated p r) = (t, .waits c))
    (hp : t.ports = (s.taken p r).ports) :
    s.request p r =
      { t with arbiter := { granted := none, last := p }
               ports := s.ports.set p { s.ports[p] with
                 inService := some { message := r.toMessage, phase := .awaitingBoundary c, discarded := false } } } := by
  obtain ⟨-, -, hq, -⟩ := (ready_iff s p n).1 h
  have dispatched : (s.taken p r).dispatch p r.toMessage = s.taken p r := by simp [State.dispatch, hr.sound, hr.waits]
  have free : (s.taken p r).arbiter.granted = none := by
    simp only [State.arbiterFree, Bool.and_eq_true, Option.isNone_iff_eq_none] at hf
    exact hf.1
  have chosen := arbiterChoice_taken s p r hf hr.waits
  have inService : (s.taken p r).ports[p].inService =
      some { message := r.toMessage, phase := .awaitingGrant, discarded := false } := by rw [taken_port]
  have carried : carryOut p r ((s.taken p r).setArbiter { (s.taken p r).arbiter with granted := some p }) = (t, .waits c) := hs
  rw [request_ready s p r n h, dispatched, if_pos chosen]
  simp only [State.arbiterGrant, free, chosen, State.grant, inService, hr.carried, carried]
  simp only [Fin.getElem_fin] at hq inService
  simp [State.deliver, hp, inService, State.setPhase, State.modPort, State.setArbiter]
  simp [State.taken, State.modPort, hq]

section
variable {u : State} {p : Port} {c : Carrier} {list : List Byte} {sectors : List Sector} (hl : list.length ≤ 12)
  (hx : sectorSet list = some sectors)
include hl hx

theorem bind_notPermitted (ho : ownedBy p c = false) :
    carryOut p (.bind (byteOf c) list) u = (u, refusal .notPermitted) := by
  change serveBind p (byteOf c) list u = _
  simp [serveBind, indexOf_byteOf (by decide : 16 ≤ 256), hl, hx, ho]

variable (ho : ownedBy p c = true)
include ho

theorem bind_badCarrier (hd : u.carriers[c].declared = false) :
    carryOut p (.bind (byteOf c) list) u = (u, refusal .badCarrier) := by
  change serveBind p (byteOf c) list u = _
  simp only [serveBind, indexOf_byteOf (by decide : 16 ≤ 256), hl, if_true, hx, ho, hd]
  rfl

variable (hd : u.carriers[c].declared = true)
include hd

theorem bind_planPending (hp : u.planPending = true) :
    carryOut p (.bind (byteOf c) list) u = (u, refusal .planPending) := by
  change serveBind p (byteOf c) list u = _
  simp only [serveBind, indexOf_byteOf (by decide : 16 ≤ 256), hl, if_true, hx, ho, hd, hp]
  rfl

variable (hp : u.planPending = false)
include hp

theorem bind_bindPending (hb : u.carriers[c].pending.isSome = true) :
    carryOut p (.bind (byteOf c) list) u = (u, refusal .bindPending) := by
  change serveBind p (byteOf c) list u = _
  simp only [serveBind, indexOf_byteOf (by decide : 16 ≤ 256), hl, if_true, hx, ho, hd, hp, hb]
  rfl

variable (hb : u.carriers[c].pending = none)
include hb

theorem bind_active (ha : sectors = u.carriers[c].active) :
    carryOut p (.bind (byteOf c) list) u = (u, .reply .ok (byte4 u.frame.toNat)) := by
  change serveBind p (byteOf c) list u = _
  simp only [serveBind, indexOf_byteOf (by decide : 16 ≤ 256), hl, if_true, hx, ho, hd, hp, hb, ← ha]
  rfl

variable (ha : sectors ≠ u.carriers[c].active)
include ha

theorem bind_failed {h : Head} {reason : FailureReason}
    (hf : u.bindFailure c (headSetUnder u.sectorMap sectors) = some (h, reason)) :
    carryOut p (.bind (byteOf c) list) u = (u, .reply reason.status (byte1 h.val)) := by
  change serveBind p (byteOf c) list u = _
  simp only [serveBind, indexOf_byteOf (by decide : 16 ≤ 256), hl, if_true, hx, ho, hd, hp, hb, if_neg ha, hf]
  rfl

theorem bind_accepted (hf : u.bindFailure c (headSetUnder u.sectorMap sectors) = none) :
    carryOut p (.bind (byteOf c) list) u =
      (u.acceptBinding c sectors (u.bindReservations c (headSetUnder u.sectorMap sectors)), .waits c) := by
  change serveBind p (byteOf c) list u = _
  simp only [serveBind, indexOf_byteOf (by decide : 16 ≤ 256), hl, if_true, hx, ho, hd, hp, hb, if_neg ha, hf]
  rfl

end

section
variable {s : State} {p : Port} {c : Carrier} {list : List Byte} {sectors : List Sector} (h : s.ready p 1 = true)
  (hf : s.arbiterFree = true) (hl : list.length ≤ 12)
include h hf hl

theorem bind_answered {x : Status} {contents : List Byte} (hc : contents.length ≤ 61)
    (hs : carryOut p (.bind (byteOf c) list) (s.evaluated p (.bind (byteOf c) list)) =
      (s.evaluated p (.bind (byteOf c) list), .reply x contents)) :
    exec (.bind p (byteOf c) list) s = .next (s.grantedAnswer p 3 x contents) :=
  congrArg Host.Outcome.next (request_granted_unchanged h hf (bind_granted c hl) (by simp [Request.type]) hc hs)

variable (hx : sectorSet list = some sectors) (ho : ownedBy p c = true) (hd : s.carriers[c].declared = true)
  (hp : s.planPending = false) (hb : s.carriers[c].pending = none) (ha : sectors ≠ s.carriers[c].active)
include hx ho hd hp hb ha

/-- An accepted BIND reserves the runs that admission chose on the gaining heads and stays in service (R15, R16). -/
theorem bind_reserves
    (hv : ∀ g ∈ s.gainingHeads c (headSetUnder s.sectorMap sectors),
      ∃ u, s.admission g [] [c] (fun _ => headSetUnder s.sectorMap sectors) = .admitted [(c, u)]) :
    let newHeads := headSetUnder s.sectorMap sectors
    let waiting : InService :=
      { message := (Request.bind (byteOf c) list).toMessage, phase := .awaitingBoundary c, discarded := false }
    ∃ t reserved, exec (.bind p (byteOf c) list) s = .next t ∧
      t = { s with carriers := s.carriers.set c { s.carriers[c] with
                     pending := some { sectors := sectors, reserved := reserved } }
                   lanes := t.lanes, arbiter := { granted := none, last := p }
                   ports := s.ports.set p { s.ports[p] with inService := some waiting } } ∧
      reserved.map (·.head) = s.gainingHeads c newHeads ∧
      (∀ x ∈ reserved, s.admission x.head [] [c] (fun _ => newHeads) = .admitted [(c, x.first)]) ∧
      ∀ g : Head, (g ∉ s.gainingHeads c newHeads → t.lanes[g] = s.lanes[g]) ∧
        (∀ x ∈ reserved, x.head = g → ∀ i : LaneIndex,
          (covers x.first.val s.carriers[c].width.units i → t.lanes[g][i] = .reserved c) ∧
          (¬ covers x.first.val s.carriers[c].width.units i → t.lanes[g][i] = s.lanes[g][i])) := by
  intro newHeads waiting
  have none : s.bindFailure c newHeads = none := bindFailure_of_admitted hv
  obtain ⟨heads, starts⟩ := bindReservations_spec none
  have nodup : ((s.bindReservations c newHeads).map (·.head)).Nodup := by
    rw [heads]
    exact (headSetUnder_nodup s.sectorMap sectors).filter _
  let u := s.evaluated p (.bind (byteOf c) list)
  let l := s.bindReservations c newHeads
  have accepted : u.acceptBinding c sectors l =
      { u with lanes := (u.reserveAll c l).lanes
               carriers := s.carriers.set c { s.carriers[c] with pending := some { sectors := sectors, reserved := l } } } := by
    rw [acceptBinding_eq, reserveAll_eq]
    rfl
  have carried := bind_accepted (u := u) hl hx ho hd hp hb ha ((congrFun₂ (bindFailure_evaluated s p _) c newHeads).trans none)
  rw [bindReservations_evaluated] at carried
  rw [show u.acceptBinding c sectors (s.bindReservations c (headSetUnder u.sectorMap sectors)) = _ from accepted] at carried
  refine ⟨_, l, congrArg Host.Outcome.next (request_waits h hf (bind_granted c hl) carried rfl), rfl, heads,
    fun x hx => (admitBinding_inl_iff s c newHeads x.head x.first).1 (starts x hx), fun g => ⟨fun hg => ?_, ?_⟩⟩
  · exact reserveAll_lanes_other (heads ▸ hg) u
  · rintro x hx rfl i
    have same := reserveAll_lanes_same (c := c) nodup hx u
    obtain ⟨inside, outside⟩ := fillLanes_get u.lanes[x.head] x.first.val u.carriers[c].width.units (.reserved c) i
    rw [← same] at inside outside
    exact ⟨inside, outside⟩

end

/-- Settles O29: each clause is the branch of the owner's evaluation that its hypotheses choose, taken on a ready port with the
arbiter free. -/
theorem bindingsAreAdmittedAndReserved : Obligations.BindingsAreAdmittedAndReserved := by
  unfold Obligations.BindingsAreAdmittedAndReserved
  intro s p c list sectors h hf hl hx r no newHeads gaining verdict waiting
  refine ⟨mem_sectorSet hx, sectorSet_ascending hx, fun ho => ?_, fun ho => ⟨fun hd => ?_, fun hd hp => ?_, fun hd hp hb => ?_,
    fun hd hp hb => ⟨fun ha => ?_, fun ha hv => ?_, fun ha g reason d hg failed below => ?_⟩⟩⟩
  · exact bind_answered h hf hl (by simp) (bind_notPermitted hl hx ho)
  · exact bind_answered h hf hl (by simp) (bind_badCarrier hl hx ho hd)
  · exact bind_answered h hf hl (by simp) (bind_planPending hl hx ho hd hp)
  · exact bind_answered h hf hl (by simp) (bind_bindPending hl hx ho hd hp hb)
  · exact bind_answered h hf hl (by simp) (bind_active hl hx ho hd hp hb ha)
  · exact bind_reserves h hf hl hx ho hd hp hb ha hv
  · exact bind_answered h hf hl (by simp) (bind_failed (u := s.evaluated p _) hl hx ho hd hp hb ha
      ((congrFun₂ (bindFailure_evaluated s p _) c newHeads).trans
        (bindFailure_of_failed (gainingHeads_ascending s c _ _) hg failed below)))

end Sys2Proof.Machine
end

section
/-! SUPPORT. What a frame boundary leaves as it is: a state without what a boundary counts and computes anew. -/

namespace Sys2Proof.Machine

open Sys2Proof

/-- What each operation of a list does to its own part and the others leave alone, the whole list does once. -/
theorem forAll_once {α : Type} {P Q : State → Prop} {g : α → State → State} {l : List α} {a : α} (hl : l.Nodup) (ha : a ∈ l)
    (before : ∀ b t, b ≠ a → P t → P (g b t)) (own : ∀ t, P t → Q (g a t)) (after : ∀ b t, b ≠ a → Q t → Q (g b t))
    {s : State} (hs : P s) : Q (forAll l g s) := by
  induction l generalizing s with
  | nil => cases ha
  | cons b l ih =>
    obtain ⟨hb, hl⟩ := List.nodup_cons.1 hl
    rw [forAll_cons]
    obtain rfl | ha := List.mem_cons.1 ha
    · exact forAll_preserves_mem Q g l (fun c hc t ht => after c t (fun e => hb (e ▸ hc)) ht) _ (own s hs)
    · exact ih hl ha (before b s (fun e => hb (e ▸ ha)) hs)

/-- A placement without what recomputes, meters and alignment write. -/
def Placement.lasting (p : Placement) : Placement :=
  { newPlacement p.head p.carrier p.first p.units with exclusion := p.exclusion }

/-- A head link without what a boundary counts. -/
def HeadLink.lasting (x : HeadLink) : HeadLink :=
  { x with markers := none, remeasureCount := 0, lockWhole := false, lockedCount := 0, blipFrames := 0, errorFrames := 0
           holdOffCount := 0 }

/-- The state without what a boundary counts and computes anew. -/
def State.lasting (s : State) : State :=
  { s.sansLog with
    placements := s.placements.map Placement.lasting
    heads := s.heads.map HeadLink.lasting, load := LoadMonitor.reset, uplinks := Vector.replicate 16 UplinkHead.reset
    due := [], satFrames := 0 }

/-! ## Operations that keep what lasts -/

section
variable (s : State)

theorem lasting_of_sansLog {s t : State} (h : t.sansLog = s.sansLog) : t.lasting = s.lasting :=
  show t.sansLog.lasting = s.sansLog.lasting from congrArg State.lasting h

theorem plans_of_lasting {s t : State} (h : t.lasting = s.lasting) : t.plans = s.plans := (congrArg State.plans h :)

theorem power_of_lasting {s t : State} (h : t.lasting = s.lasting) : t.power = s.power := (congrArg State.power h :)

theorem timing_of_lasting {s t : State} (h : t.lasting = s.lasting) : t.timing = s.timing := (congrArg State.timing h :)

theorem lasting_ite {P : Prop} [Decidable P] {t u : State} {a : State} (ht : t.lasting = a) (hu : u.lasting = a) :
    (if P then t else u).lasting = a := by
  split <;> assumption

theorem setPlacements_map_lasting {f : Placement → Placement} (hf : ∀ p, (f p).lasting = p.lasting) :
    (s.setPlacements (s.placements.map f)).lasting = s.lasting := by
  have : (s.placements.map f).map Placement.lasting = s.placements.map Placement.lasting := by
    rw [List.map_map]
    exact List.map_congr_left fun p _ => hf p
  simp only [State.lasting, State.setPlacements_placements, this]
  rfl

theorem modPlacement_lasting (h : Head) (c : Carrier) {f : Placement → Placement} (hf : ∀ p, (f p).lasting = p.lasting) :
    (s.modPlacement h c f).lasting = s.lasting :=
  setPlacements_map_lasting s fun p => by split <;> simp [hf]

theorem modHead_lasting (h : Head) {f : HeadLink → HeadLink} (hf : ∀ x, (f x).lasting = x.lasting) :
    (s.modHead h f).lasting = s.lasting := by
  have : (s.modHead h f).heads.map HeadLink.lasting = s.heads.map HeadLink.lasting := by
    apply Vector.ext
    intro i hi
    simp only [State.modHead, Vector.getElem_map, Vector.getElem_set]
    split
    · next e => subst e; exact hf _
    · rfl
  simp only [State.lasting, this]
  rfl

@[simp] theorem setDue_lasting (l : List Due) : (s.setDue l).lasting = s.lasting := rfl
@[simp] theorem setLoad_lasting (x : LoadMonitor) : (s.setLoad x).lasting = s.lasting := rfl
@[simp] theorem modUplink_lasting (h : Head) (f : UplinkHead → UplinkHead) : (s.modUplink h f).lasting = s.lasting := rfl

@[simp] theorem addDue_lasting (d : Due) : (s.addDue d).lasting = s.lasting := lasting_ite rfl rfl

@[simp] theorem raise_lasting (k : AlarmKind) (x : Subject) (d : Nat) : (s.raise k x d).lasting = s.lasting :=
  lasting_of_sansLog (raise_sansLog s k x d)

@[simp] theorem clear_lasting (k : AlarmKind) (x : Subject) : (s.clear k x).lasting = s.lasting :=
  lasting_of_sansLog (clear_sansLog s k x none)

theorem forAll_lasting {α : Type} {g : α → State → State} (h : ∀ a t, (g a t).lasting = t.lasting) (l : List α) :
    (forAll l g s).lasting = s.lasting :=
  forAll_keeps State.lasting g h l s

@[simp] theorem realign_lasting : s.realign.lasting = s.lasting := setPlacements_map_lasting s fun _ => rfl
@[simp] theorem closeMeters_lasting : s.closeMeters.lasting = s.lasting := setPlacements_map_lasting s fun _ => rfl

@[simp] theorem loadBoundary_lasting : s.loadBoundary.lasting = s.lasting := by
  have count : ∀ (p : Placement) (t : State), (t.countPlacement p).lasting = t.lasting := fun p t => lasting_ite rfl rfl
  have counted := forAll_lasting s count s.placements
  exact (setLoad_lasting _ _).trans (lasting_ite rfl (lasting_ite ((addDue_lasting _ _).trans counted) counted))

@[simp] theorem resetGuard_lasting (h : Head) : (s.resetGuard h).lasting = s.lasting := (clear_lasting _ _ _).trans rfl

@[simp] theorem guardBoundary_lasting (h : Head) : (s.guardBoundary h).lasting = s.lasting := by
  have loud : ∀ n m, (if s.uplinks[h].onset ≤ n then
      (s.modUplink h fun y => { y with loud := n }).addDue (.mute h m) else
      s.modUplink h fun y => { y with loud := n }).lasting = s.lasting := fun n m => lasting_ite (addDue_lasting _ _) rfl
  have quiet : ∀ n, (if s.uplinks[h].release ≤ n then
      (s.modUplink h fun y => { y with quiet := n }).addDue (.unmute h) else
      s.modUplink h fun y => { y with quiet := n }).lasting = s.lasting := fun n => lasting_ite (addDue_lasting _ _) rfl
  exact lasting_ite (resetGuard_lasting s h) (lasting_ite rfl (lasting_ite (lasting_ite (loud _ _) rfl) (lasting_ite rfl (quiet _))))

@[simp] theorem gateBoundary_lasting (h : Head) : (s.gateBoundary h).lasting = s.lasting := lasting_ite (addDue_lasting _ _) rfl

@[simp] theorem satBoundary_lasting : s.satBoundary.lasting = s.lasting := lasting_ite (addDue_lasting _ _) rfl

@[simp] theorem markerBoundary_lasting (h : Head) : (s.markerBoundary h).lasting = s.lasting := by
  unfold State.markerBoundary
  split
  · exact lasting_ite (addDue_lasting _ _) rfl
  · exact lasting_ite (addDue_lasting _ _) (modHead_lasting s h fun _ => rfl)

@[simp] theorem remeasureBoundary_lasting (h : Head) : (s.remeasureBoundary h).lasting = s.lasting := by
  have counted := modHead_lasting s h (f := fun y => { y with remeasureCount := y.remeasureCount - 1 }) fun _ => rfl
  exact lasting_ite (lasting_ite ((addDue_lasting _ _).trans counted) counted) rfl

theorem seekFallsDue_lasting (h : Head) (m : Nat) : (s.seekFallsDue h m).lasting = s.lasting := by
  unfold State.seekFallsDue
  dsimp only
  split <;> rfl

@[simp] theorem lockBoundary_lasting (h : Head) : (s.lockBoundary h).lasting = s.lasting := by
  unfold State.lockBoundary
  extract_lets x t
  have counted : t.lasting = s.lasting := modHead_lasting s h fun _ => rfl
  exact lasting_ite ((seekFallsDue_lasting _ _ _).trans counted) counted

@[simp] theorem blipBoundary_lasting (h : Head) : (s.blipBoundary h).lasting = s.lasting :=
  lasting_ite rfl (lasting_ite (addDue_lasting _ _) (modHead_lasting s h fun _ => rfl))

@[simp] theorem errorBoundary_lasting (h : Head) : (s.errorBoundary h).lasting = s.lasting :=
  lasting_ite rfl (lasting_ite (addDue_lasting _ _) (modHead_lasting s h fun _ => rfl))

@[simp] theorem holdOffBoundary_lasting (h : Head) : (s.holdOffBoundary h).lasting = s.lasting := by
  unfold State.holdOffBoundary
  extract_lets t
  have counted : t.lasting = s.lasting := modHead_lasting s h fun _ => rfl
  exact lasting_ite (lasting_ite ((addDue_lasting _ _).trans counted) counted) rfl

@[simp] theorem headBoundary_lasting (h : Head) : (s.headBoundary h).lasting = s.lasting := by
  simp [State.headBoundary]

/-- The boundary after the plan timers keeps what lasts. -/
theorem handBoundary_lasting : s.handBoundary.lasting = s.realign.closeMeters.planBoundary.lasting := by
  unfold State.handBoundary
  dsimp only
  rw [forAll_lasting _ (fun h v => headBoundary_lasting v h), satBoundary_lasting,
    forAll_lasting _ (g := fun h v => (v.guardBoundary h).gateBoundary h) (fun h v => by simp), loadBoundary_lasting]

end

/-! ## What is due stays due -/

/-- What is due in one state is due in another. -/
def State.staysDue (s t : State) : Prop := ∀ d ∈ s.due, d ∈ t.due

theorem staysDue_of_eq {s t : State} (e : t.due = s.due) : s.staysDue t := fun _ hd => e ▸ hd

theorem staysDue_trans {s t u : State} (h : s.staysDue t) (k : t.staysDue u) : s.staysDue u := fun d hd => k d (h d hd)

theorem staysDue_ite {P : Prop} [Decidable P] {s t u : State} (ht : s.staysDue t) (hu : s.staysDue u) :
    s.staysDue (if P then t else u) := by
  split <;> assumption

theorem mem_addDue (s : State) (d : Due) : d ∈ (s.addDue d).due := by
  unfold State.addDue
  split
  · next h => exact List.contains_iff_mem.1 h
  · exact List.mem_append_right _ List.mem_cons_self

theorem staysDue_addDue {s t : State} (e : t.due = s.due) (d : Due) : s.staysDue (t.addDue d) := by
  unfold State.addDue
  split
  · exact staysDue_of_eq e
  · exact fun x hx => List.mem_append_left _ (e ▸ hx)

theorem staysDue_forAll {α : Type} {g : α → State → State} (h : ∀ (a : α) (t : State), t.staysDue (g a t)) (l : List α) (s : State) :
    s.staysDue (forAll l g s) :=
  forAll_preserves (fun t : State => s.staysDue t) g (fun a t ht => staysDue_trans ht (h a t)) l s fun _ => id

section
variable (s : State)

theorem staysDue_loadBoundary : s.staysDue s.loadBoundary := by
  have count : ∀ (p : Placement) (t : State), (t.countPlacement p).due = t.due := fun p t => by
    unfold State.countPlacement
    split <;> rfl
  have counted : (forAll s.placements (fun p v => v.countPlacement p) s).due = s.due := forAll_keeps State.due _ count _ s
  have ended : ∀ u : State, u.due = s.due → s.staysDue (if u.load.windowFrames = u.load.window then u.addDue .loadWindow else u) :=
    fun u e => staysDue_ite (staysDue_addDue e _) (staysDue_of_eq e)
  unfold State.loadBoundary
  extract_lets closed u load w t
  have judged : s.staysDue t := staysDue_ite (fun _ => id) (ended w counted)
  exact judged

theorem staysDue_guardBoundary (h : Head) : s.staysDue (s.guardBoundary h) := by
  have same : s.staysDue s := fun _ => id
  have reset : s.staysDue (s.resetGuard h) := staysDue_of_eq (clear_due _ _ _ _)
  have loud : ∀ n m, s.staysDue (if s.uplinks[h].onset ≤ n then
      (s.modUplink h fun y => { y with loud := n }).addDue (.mute h m) else
      s.modUplink h fun y => { y with loud := n }) := fun n m => staysDue_ite (staysDue_addDue (by rfl) _) same
  have quiet : ∀ n, s.staysDue (if s.uplinks[h].release ≤ n then
      (s.modUplink h fun y => { y with quiet := n }).addDue (.unmute h) else
      s.modUplink h fun y => { y with quiet := n }) := fun n => staysDue_ite (staysDue_addDue (by rfl) _) same
  exact staysDue_ite reset (staysDue_ite same (staysDue_ite (staysDue_ite (loud _ _) same) (staysDue_ite same (quiet _))))

theorem staysDue_gateBoundary (h : Head) : s.staysDue (s.gateBoundary h) := staysDue_ite (staysDue_addDue (by rfl) _) fun _ => id

theorem staysDue_satBoundary : s.staysDue s.satBoundary := staysDue_ite (staysDue_addDue (by rfl) _) fun _ => id

theorem staysDue_markerBoundary (h : Head) : s.staysDue (s.markerBoundary h) := by
  unfold State.markerBoundary
  split
  · exact staysDue_ite (staysDue_addDue (by rfl) _) fun _ => id
  · exact staysDue_ite (staysDue_addDue (by rfl) _) fun _ => id

theorem staysDue_remeasureBoundary (h : Head) : s.staysDue (s.remeasureBoundary h) :=
  staysDue_ite (staysDue_ite (staysDue_addDue (by rfl) _) fun _ => id) fun _ => id

theorem staysDue_seekFallsDue (h : Head) (m : Nat) : s.staysDue (s.seekFallsDue h m) := by
  unfold State.seekFallsDue
  dsimp only
  split
  · exact fun _ => id
  · exact fun _ => List.mem_append_left _

theorem staysDue_lockBoundary (h : Head) : s.staysDue (s.lockBoundary h) := by
  unfold State.lockBoundary
  extract_lets x t
  have counted : s.staysDue t := fun _ => id
  exact staysDue_ite (staysDue_trans counted (staysDue_seekFallsDue _ h _)) counted

theorem staysDue_blipBoundary (h : Head) : s.staysDue (s.blipBoundary h) :=
  staysDue_ite (fun _ => id) (staysDue_ite (staysDue_addDue (by rfl) _) fun _ => id)

theorem staysDue_errorBoundary (h : Head) : s.staysDue (s.errorBoundary h) :=
  staysDue_ite (fun _ => id) (staysDue_ite (staysDue_addDue (by rfl) _) fun _ => id)

theorem staysDue_holdOffBoundary (h : Head) : s.staysDue (s.holdOffBoundary h) :=
  staysDue_ite (staysDue_ite (staysDue_addDue (by rfl) _) fun _ => id) fun _ => id

theorem staysDue_headBoundary (h : Head) : s.staysDue (s.headBoundary h) :=
  staysDue_trans (staysDue_markerBoundary s h) <| staysDue_trans (staysDue_remeasureBoundary _ h) <|
    staysDue_trans (staysDue_lockBoundary _ h) <| staysDue_trans (staysDue_blipBoundary _ h) <|
    staysDue_trans (staysDue_errorBoundary _ h) (staysDue_holdOffBoundary _ h)

/-- What the plan timers have made due is due at the end of the boundary. -/
theorem staysDue_handBoundary : s.realign.closeMeters.planBoundary.staysDue s.handBoundary := by
  unfold State.handBoundary
  extract_lets t u
  have guarded : t.staysDue u :=
    staysDue_forAll (fun h v => staysDue_trans (staysDue_guardBoundary v h) (staysDue_gateBoundary _ h)) allHeads t
  exact staysDue_trans (staysDue_loadBoundary _) <| staysDue_trans guarded <| staysDue_trans (staysDue_satBoundary u) <|
    staysDue_forAll (fun h v => staysDue_headBoundary v h) allHeads _

end

end Sys2Proof.Machine
end

section
/-! PROOF of O45: a frame boundary with nothing left due. -/

namespace Sys2Proof.Machine

open Sys2Proof

/-- The state without what a boundary counts, computes anew or calls for, and without the plan slots. -/
def State.framed (s : State) : State :=
  { s.lasting with timing := State.reset.timing, power := Vector.replicate 16 PowerHead.reset, plans := { s.plans with slots := Vector.replicate 4 .empty } }

theorem framed_of_lasting {s t : State} (h : t.lasting = s.lasting) : t.framed = s.framed :=
  congrArg (fun x : State => { x with timing := State.reset.timing, power := Vector.replicate 16 PowerHead.reset
                                      plans := { x.plans with slots := Vector.replicate 4 .empty } }) h

/-- The frame that the view gives, as an equation on the whole state. -/
theorem eq_of_framed {s t : State} (h : t.framed = s.framed) :
    t = { s with timing := t.timing, power := t.power, placements := t.placements, log := t.log, ports := t.ports
                 plans := t.plans, load := t.load, uplinks := t.uplinks, heads := t.heads, due := t.due
                 satFrames := t.satFrames } :=
  congrArg (fun x : State => { x with timing := t.timing, power := t.power, placements := t.placements, log := t.log
                                      ports := t.ports, plans := t.plans, load := t.load, uplinks := t.uplinks
                                      heads := t.heads, due := t.due, satFrames := t.satFrames }) h

theorem carriers_of_framed {s t : State} (h : t.framed = s.framed) : t.carriers = s.carriers := (congrArg State.carriers h :)

theorem plans_of_framed {s t : State} (h : t.framed = s.framed) : t.plans = { s.plans with slots := t.plans.slots } :=
  congrArg (fun x : State => { x.plans with slots := t.plans.slots }) h

theorem placements_of_framed {s t : State} (h : t.framed = s.framed) :
    t.placements.map (fun p => (p.head, p.carrier, p.first, p.units, p.exclusion)) =
      s.placements.map (fun p => (p.head, p.carrier, p.first, p.units, p.exclusion)) := by
  have same : t.placements.map Placement.lasting = s.placements.map Placement.lasting := congrArg State.placements h
  have pairs := congrArg (List.map fun p : Placement => (p.head, p.carrier, p.first, p.units, p.exclusion)) same
  rw [List.map_map, List.map_map] at pairs
  exact pairs

theorem head_of_framed {s t : State} (h : t.framed = s.framed) (g : Head) : t.heads[g].lasting = s.heads[g].lasting := by
  have same : (t.heads.map HeadLink.lasting)[g] = (s.heads.map HeadLink.lasting)[g] := congrArg (fun x : State => x.heads[g]) h
  simpa only [Fin.getElem_fin, Vector.getElem_map] using same

/-! ## The recomputes of a boundary (R52) -/

theorem installEntry_lasting (s : State) (h : Head) (x : Snapshot) (e : Carrier × Nat) :
    (s.installEntry h x e).lasting = s.lasting := by
  unfold State.installEntry
  split
  · rfl
  · refine lasting_ite ?_ rfl
    extract_lets grant step outcome t
    have installed : t.lasting = s.lasting := modPlacement_lasting s h e.1 fun _ => rfl
    exact lasting_ite ((raise_lasting _ _ _ _).trans installed) (lasting_ite ((clear_lasting _ _ _).trans installed) installed)

theorem installEntry_power (s : State) (h : Head) (x : Snapshot) (e : Carrier × Nat) : (s.installEntry h x e).power = s.power :=
  power_of_lasting (installEntry_lasting s h x e)

theorem completeRecompute_framed (s : State) (h : Head) : (s.completeRecompute h).framed = s.framed := by
  unfold State.completeRecompute
  split
  · rfl
  · next x _ =>
    extract_lets t
    have installed : t.framed = s.framed :=
      (framed_of_lasting (forAll_lasting _ (fun e u => installEntry_lasting u h x e) x.entries)).trans rfl
    clear_value t
    split
    · exact installed
    · exact installed

theorem completeRecompute_power_other (s : State) {g h : Head} (hg : g ≠ h) : (s.completeRecompute h).power[g] = s.power[g] := by
  unfold State.completeRecompute
  split
  · rfl
  · next x _ =>
    extract_lets t
    have installed : t.power = (s.modPower h fun q => { q with effective := x.budget, running := none }).power :=
      forAll_keeps State.power _ (fun e u => installEntry_power u h x e) x.entries _
    have kept : t.power[g] = s.power[g] := by rw [installed, modPower_power, if_neg hg]
    clear_value t
    split
    · rw [State.startRecompute, modPower_power, if_neg hg, modPower_power, if_neg hg, kept]
    · exact kept

/-- A recompute with no again mark leaves its head in IDLE (R52). -/
theorem completeRecompute_running (s : State) {h : Head} (ha : s.power[h].again = false) :
    (s.completeRecompute h).power[h].running = none := by
  unfold State.completeRecompute
  split
  · assumption
  · next x _ =>
    extract_lets t
    have installed : t.power = (s.modPower h fun q => { q with effective := x.budget, running := none }).power :=
      forAll_keeps State.power _ (fun e u => installEntry_power u h x e) x.entries _
    have own : t.power[h] = { s.power[h] with effective := x.budget, running := none } := by
      rw [installed, modPower_power, if_pos rfl]
    clear_value t
    rw [if_neg (by rw [own, ha]; decide), own]

/-- The part of a boundary in the recompute of one head. -/
def State.ageRecompute (s : State) (h : Head) : State :=
  if s.power[h].aged then s.completeRecompute h
  else if s.power[h].running.isSome then s.modPower h fun q => { q with aged := true }
  else s

theorem completeAged_eq (s : State) : s.completeAged = forAll allHeads (fun h t => t.ageRecompute h) s := rfl

theorem ageRecompute_framed (s : State) (h : Head) : (s.ageRecompute h).framed = s.framed := by
  unfold State.ageRecompute
  split
  · exact completeRecompute_framed s h
  · split <;> rfl

theorem ageRecompute_power_other (s : State) {g h : Head} (hg : g ≠ h) : (s.ageRecompute h).power[g] = s.power[g] := by
  unfold State.ageRecompute
  split
  · exact completeRecompute_power_other s hg
  · split
    · rw [modPower_power, if_neg hg]
    · rfl

/-- What a boundary makes of the recompute state of a head: a recompute that was running at the last boundary completes, one
that has started since is marked (R52). -/
def PowerHead.agedTo (q r : PowerHead) : Prop :=
  (q.aged = false → r = { q with aged := q.running.isSome }) ∧ (q.aged = true → q.again = false → r.running = none)

theorem ageRecompute_power (s : State) (h : Head) : s.power[h].agedTo (s.ageRecompute h).power[h] := by
  constructor
  · intro ha
    unfold State.ageRecompute
    rw [if_neg (by rw [ha]; decide)]
    split
    · next hr => rw [modPower_power, if_pos rfl, hr]
    · next hr => exact (congrArg (fun b => { s.power[h] with aged := b }) (ha.trans (Bool.eq_false_iff.2 hr).symm) :)
  · intro ha hn
    unfold State.ageRecompute
    rw [if_pos ha]
    exact completeRecompute_running s hn

theorem completeAged_power (s : State) (h : Head) : s.power[h].agedTo s.completeAged.power[h] := by
  rw [completeAged_eq]
  refine forAll_once (P := fun t => t.power[h] = s.power[h]) (Q := fun t => s.power[h].agedTo t.power[h])
    (List.nodup_finRange 16) (List.mem_finRange h) (fun g t hg ht => ?_) (fun t ht => ?_) (fun g t hg ht => ?_) rfl
  · exact (ageRecompute_power_other t hg.symm).trans ht
  · exact ht ▸ ageRecompute_power t h
  · rwa [ageRecompute_power_other t hg.symm]

theorem completeAged_framed (s : State) : s.completeAged.framed = s.framed :=
  forAll_keeps State.framed _ (fun h t => ageRecompute_framed t h) allHeads s

theorem completeAged_timing (s : State) : s.completeAged.timing = s.timing := by
  have install : ∀ (h : Head) x e (t : State), (t.installEntry h x e).timing = t.timing :=
    fun h x e t => timing_of_lasting (installEntry_lasting t h x e)
  refine forAll_keeps State.timing _ (fun h t => ?_) allHeads s
  split
  · unfold State.completeRecompute
    split
    · rfl
    · next x _ =>
      extract_lets u
      have installed : u.timing = t.timing := forAll_keeps State.timing _ (fun e u => install h x e u) x.entries _
      split <;> exact installed
  · split <;> rfl

theorem completeAged_plans (s : State) : s.completeAged.plans = s.plans := by
  have install : ∀ (h : Head) x e (t : State), (t.installEntry h x e).plans = t.plans :=
    fun h x e t => plans_of_lasting (installEntry_lasting t h x e)
  refine forAll_keeps State.plans _ (fun h t => ?_) allHeads s
  split
  · unfold State.completeRecompute
    split
    · rfl
    · next x _ =>
      extract_lets u
      have installed : u.plans = t.plans := forAll_keeps State.plans _ (fun e u => install h x e u) x.entries _
      split <;> exact installed
  · split <;> rfl

/-! ## The plan timers of a boundary (R18, R152, R155) -/

/-- The state without the plan slots and what is due. -/
def State.sansTimers (s : State) : State := { s with plans := { s.plans with slots := Vector.replicate 4 .empty }, due := [] }

theorem framed_of_sansTimers {s t : State} (h : t.sansTimers = s.sansTimers) : t.framed = s.framed :=
  (congrArg State.framed h :)

theorem power_of_sansTimers {s t : State} (h : t.sansTimers = s.sansTimers) : t.power = s.power := (congrArg State.power h :)

theorem timing_of_sansTimers {s t : State} (h : t.sansTimers = s.sansTimers) : t.timing = s.timing := (congrArg State.timing h :)

theorem addDue_sansTimers (s : State) (d : Due) : (s.addDue d).sansTimers = s.sansTimers := by
  unfold State.addDue
  split <;> rfl

theorem slotBoundary_sansTimers (s : State) (k : SlotIndex) : (s.slotBoundary k).sansTimers = s.sansTimers := by
  unfold State.slotBoundary
  split
  · dsimp only
    split
    · exact (addDue_sansTimers _ _).trans rfl
    · rfl
  · exact addDue_sansTimers _ _
  · rfl

theorem addDue_plans (s : State) (d : Due) : (s.addDue d).plans = s.plans := plans_of_lasting (addDue_lasting s d)

theorem addDue_slot (s : State) (d : Due) (j : SlotIndex) : (s.addDue d).plans.slots[j] = s.plans.slots[j] :=
  congrArg (fun x : PlanController => x.slots[j]) (addDue_plans s d)

theorem slotBoundary_of_consent {s : State} {k : SlotIndex} {map : SectorMap} {o : Offer} {n : Nat}
    (h : s.plans.slots[k] = .consent map o n) :
    s.slotBoundary k =
      if n ≤ 1 then (s.setSlot k (.consent map o (n - 1))).addDue .consentExpiry else s.setSlot k (.consent map o (n - 1)) := by
  unfold State.slotBoundary
  split <;> simp_all

theorem slotBoundary_of_commitWait {s : State} {k : SlotIndex} {map : SectorMap} {o : Offer}
    (h : s.plans.slots[k] = .commitWait map o) : s.slotBoundary k = s.addDue (.planRevalidate k o.number) := by
  unfold State.slotBoundary
  split <;> simp_all

theorem slotBoundary_of_idle {s : State} {k : SlotIndex} (h : s.plans.slots[k].offer? = none) : s.slotBoundary k = s := by
  unfold State.slotBoundary
  split
  · next e => rw [e] at h; cases h
  · next e => rw [e] at h; cases h
  · rfl

/-- The plan slots of a state after the part of one of them in a boundary. -/
theorem slotBoundary_other (s : State) {j k : SlotIndex} (h : j ≠ k) : (s.slotBoundary k).plans.slots[j] = s.plans.slots[j] := by
  have stored : ∀ x, (s.setSlot k x).plans.slots[j] = s.plans.slots[j] := fun x => (setSlot_get s k j x).trans (if_neg h.symm)
  cases e : s.plans.slots[k] with
  | consent map o n =>
    rw [slotBoundary_of_consent e]
    split
    · exact (addDue_slot _ _ j).trans (stored _)
    · exact stored _
  | commitWait map o => rw [slotBoundary_of_commitWait e]; exact addDue_slot _ _ j
  | empty | draft | valid | invalid => rw [slotBoundary_of_idle (by rw [e]; rfl)]

theorem staysDue_slotBoundary (s : State) (k : SlotIndex) : s.staysDue (s.slotBoundary k) := by
  unfold State.slotBoundary
  split
  · exact staysDue_ite (staysDue_addDue (by rfl) _) fun _ => id
  · exact staysDue_addDue rfl _
  · exact fun _ => id

/-- The consent time of a plan in CONSENT falls by one, and at 0 its expiry is due (R152). -/
theorem slotBoundary_consent {s : State} {k : SlotIndex} {map : SectorMap} {o : Offer} {n : Nat}
    (h : s.plans.slots[k] = .consent map o n) :
    (s.slotBoundary k).plans.slots[k] = .consent map o (n - 1) ∧ (n ≤ 1 → .consentExpiry ∈ (s.slotBoundary k).due) := by
  have stored : ∀ x, (s.setSlot k x).plans.slots[k] = x := fun x => (setSlot_get s k k x).trans (if_pos rfl)
  rw [slotBoundary_of_consent h]
  split
  · exact ⟨(addDue_slot _ _ k).trans (stored _), fun _ => mem_addDue _ _⟩
  · next hn => exact ⟨stored _, fun h => absurd h hn⟩

/-- A plan in COMMIT_WAIT is due for revalidation (R155). -/
theorem slotBoundary_commitWait {s : State} {k : SlotIndex} {map : SectorMap} {o : Offer}
    (h : s.plans.slots[k] = .commitWait map o) :
    (s.slotBoundary k).plans.slots[k] = .commitWait map o ∧ .planRevalidate k o.number ∈ (s.slotBoundary k).due := by
  rw [slotBoundary_of_commitWait h]
  exact ⟨(addDue_slot _ _ k).trans h, mem_addDue _ _⟩

/-- What the plan timers start from: the state with the pending bindings called for (R18). -/
def State.bindingsCalled (s : State) : State :=
  if s.pendingCarriers.isEmpty then s else s.addDue (.bindingApply s.pendingCarriers)

theorem planBoundary_eq (s : State) : s.planBoundary = forAll allSlots (fun k t => t.slotBoundary k) s.bindingsCalled := rfl

theorem bindingsCalled_plans (s : State) : s.bindingsCalled.plans = s.plans := by
  unfold State.bindingsCalled
  split
  · rfl
  · exact addDue_plans s _

theorem planBoundary_sansTimers (s : State) : s.planBoundary.sansTimers = s.sansTimers := by
  rw [planBoundary_eq]
  refine (forAll_keeps State.sansTimers _ (fun k t => slotBoundary_sansTimers t k) allSlots _).trans ?_
  unfold State.bindingsCalled
  split
  · rfl
  · exact addDue_sansTimers s _

theorem planBoundary_framed (s : State) : s.planBoundary.framed = s.framed := framed_of_sansTimers (planBoundary_sansTimers s)

theorem planBoundary_power (s : State) : s.planBoundary.power = s.power := power_of_sansTimers (planBoundary_sansTimers s)

theorem planBoundary_timing (s : State) : s.planBoundary.timing = s.timing := timing_of_sansTimers (planBoundary_sansTimers s)

/-- What a slot's own part of a boundary makes of it holds after the whole boundary. -/
theorem planBoundary_slot {s : State} {k : SlotIndex} {Q : PlanSlot → (Due → Prop) → Prop}
    (own : ∀ t : State, t.plans.slots[k] = s.plans.slots[k] →
      Q (t.slotBoundary k).plans.slots[k] fun d => d ∈ (t.slotBoundary k).due)
    (mono : ∀ x {D E : Due → Prop}, (∀ d, D d → E d) → Q x D → Q x E) :
    Q s.planBoundary.plans.slots[k] fun d => d ∈ s.planBoundary.due := by
  rw [planBoundary_eq]
  refine forAll_once (P := fun t => t.plans.slots[k] = s.plans.slots[k]) (Q := fun t => Q t.plans.slots[k] fun d => d ∈ t.due)
    (List.nodup_finRange 4) (List.mem_finRange k) (fun j t hj ht => ?_) own (fun j t hj ht => ?_) ?_
  · exact (slotBoundary_other t hj.symm).trans ht
  · rw [slotBoundary_other t hj.symm]
    exact mono _ (staysDue_slotBoundary t j) ht
  · rw [bindingsCalled_plans]

theorem mem_pendingCarriers (s : State) (c : Carrier) : c ∈ s.pendingCarriers ↔ s.carriers[c].pending.isSome = true := by
  have listed : c ∈ allCarriers := List.mem_finRange c
  simp [State.pendingCarriers, listed]

/-- All pending bindings are due to be applied (R18). -/
theorem planBoundary_bindings {s : State} {c : Carrier} (h : s.carriers[c].pending.isSome = true) :
    .bindingApply s.pendingCarriers ∈ s.planBoundary.due := by
  have called : .bindingApply s.pendingCarriers ∈ s.bindingsCalled.due := by
    unfold State.bindingsCalled
    rw [if_neg]
    · exact mem_addDue _ _
    · rw [List.isEmpty_iff]
      exact List.ne_nil_of_mem ((mem_pendingCarriers s c).2 h)
  exact staysDue_forAll (fun k t => staysDue_slotBoundary t k) allSlots _ _ called

/-! ## The whole boundary -/

/-- What the statement says of a boundary between two states. -/
structure State.handedOn (s t : State) : Prop where
  framed : t.framed = s.framed
  frame : t.timing.frame = s.timing.frame + 1
  consent : ∀ (k : SlotIndex) (map : SectorMap) (o : Offer) (n : Nat), s.plans.slots[k] = .consent map o n →
    t.plans.slots[k] = .consent map o (n - 1) ∧ (n ≤ 1 → .consentExpiry ∈ t.due)
  commit : ∀ (k : SlotIndex) (map : SectorMap) (o : Offer), s.plans.slots[k] = .commitWait map o →
    t.plans.slots[k] = .commitWait map o ∧ .planRevalidate k o.number ∈ t.due
  idle : ∀ k : SlotIndex, s.plans.slots[k].offer? = none → t.plans.slots[k] = s.plans.slots[k]
  bindings : ∀ c : Carrier, s.carriers[c].pending.isSome = true → ∃ l, .bindingApply l ∈ t.due ∧
    ∀ d : Carrier, d ∈ l ↔ s.carriers[d].pending.isSome = true
  power : ∀ h : Head, s.power[h].agedTo t.power[h]

/-- The boundary from the state in which the aged recomputes have completed. -/
theorem handBoundary_handedOn {s v : State} {x : Timing} (framed : v.framed = s.framed) (plans : v.plans = s.plans)
    (timing : x.frame = s.timing.frame + 1) (power : ∀ h : Head, s.power[h].agedTo v.power[h]) :
    s.handedOn (v.setTiming x).handBoundary := by
  obtain ⟨u, hu⟩ : ∃ u, u = (v.setTiming x).realign.closeMeters := ⟨_, rfl⟩
  obtain ⟨t, ht⟩ : ∃ t, t = (v.setTiming x).handBoundary := ⟨_, rfl⟩
  have start : u.lasting = (v.setTiming x).lasting := by rw [hu, closeMeters_lasting, realign_lasting]
  have last : t.lasting = u.planBoundary.lasting := by rw [ht, handBoundary_lasting, hu]
  have stays : u.planBoundary.staysDue t := by rw [ht, hu]; exact staysDue_handBoundary _
  have started : u.framed = s.framed := (framed_of_lasting start).trans framed
  have carriers : u.carriers = s.carriers := carriers_of_framed started
  have plans : u.plans = s.plans := (plans_of_lasting start).trans plans
  have slots : t.plans = u.planBoundary.plans := plans_of_lasting last
  have powered : t.power = v.power := by
    rw [power_of_lasting last, planBoundary_power, power_of_lasting start, State.setTiming_power]
  rw [← ht]
  refine ⟨(framed_of_lasting last).trans ((planBoundary_framed u).trans started), ?_, fun k map o n e => ?_, fun k map o e => ?_,
    fun k e => ?_, fun c hc => ⟨u.pendingCarriers, ?_, fun d => ?_⟩, fun h => ?_⟩
  · rw [timing_of_lasting last, planBoundary_timing, timing_of_lasting start, State.setTiming_timing, timing]
  · rw [← plans] at e
    obtain ⟨slot, due⟩ := planBoundary_slot (k := k) (Q := fun x D => x = .consent map o (n - 1) ∧ (n ≤ 1 → D .consentExpiry))
      (fun t ht => slotBoundary_consent (ht.trans e)) (fun x D E hDE h => ⟨h.1, fun hn => hDE _ (h.2 hn)⟩)
    exact ⟨by rw [slots, slot], fun hn => stays _ (due hn)⟩
  · rw [← plans] at e
    obtain ⟨slot, due⟩ := planBoundary_slot (k := k) (Q := fun x D => x = .commitWait map o ∧ D (.planRevalidate k o.number))
      (fun t ht => slotBoundary_commitWait (ht.trans e)) (fun x D E hDE h => ⟨h.1, hDE _ h.2⟩)
    exact ⟨by rw [slots, slot], stays _ due⟩
  · rw [← plans] at e ⊢
    rw [slots]
    exact planBoundary_slot (Q := fun x _ => x = u.plans.slots[k])
      (fun t ht => by rw [slotBoundary_of_idle (by rw [ht]; exact e), ht]) (fun _ _ _ _ => id)
  · exact stays _ (planBoundary_bindings (c := c) (by rwa [carriers]))
  · rw [mem_pendingCarriers, carriers]
  · rw [powered]
    exact power h

/-- A boundary with nothing left due (R193). -/
theorem boundary_handedOn {s : State} (hd : s.due = []) (moment : Nat) : s.handedOn (s.boundary moment) := by
  rw [State.boundary, flushDue_idle hd]
  exact handBoundary_handedOn (completeAged_framed s) (completeAged_plans s)
    (congrArg (fun x : Timing => x.frame + 1) (completeAged_timing s)) (completeAged_power s)

theorem handedOn_setTiming {s t : State} {x y : Timing} (hx : x.frame = s.timing.frame) (hy : y.frame = t.timing.frame)
    (h : (s.setTiming x).handedOn t) : s.handedOn (t.setTiming y) := by
  obtain ⟨framed, frame, consent, commit, idle, bindings, power⟩ := h
  exact ⟨framed, hy.trans (frame.trans (congrArg (· + 1) hx)), consent, commit, idle, bindings, power⟩

theorem setTiming_self (s : State) : s.setTiming s.timing = s := rfl

/-- The commands of which a boundary comes: a boundary with another timing before it and after it (R193). -/
theorem exec_takesBoundary {s : State} {i : Instr} (hm : s.mode ≠ .reset) (hi : s.takesBoundary i) :
    ∃ (x : Timing) (m : Nat) (y : Timing → Timing), x.frame = s.timing.frame ∧ (∀ z, (y z).frame = z.frame) ∧
      exec i s = .next (((s.setTiming x).boundary m).setTiming (y ((s.setTiming x).boundary m).timing)) := by
  obtain ⟨rfl, held⟩ | ⟨rfl, locked⟩ | ⟨m, rfl, locked, now, early, late⟩ := hi
  · refine ⟨s.timing, s.timing.lastBoundary + s.timing.period, id, rfl, fun _ => rfl, ?_⟩
    rw [setTiming_self, id, setTiming_self]
    change execHeldBoundary s = _
    rw [execHeldBoundary, headEvent, if_neg hm, if_pos held]
  · refine ⟨s.timing, s.timing.lastBoundary + Config.periodMax, fun z => { z with state := .held, candidate := none }, rfl,
      fun _ => rfl, ?_⟩
    rw [setTiming_self]
    change execMarkTimeout s = _
    rw [execMarkTimeout, headEvent, if_neg hm, if_pos locked, State.timeOut]
  · have moment : max s.timing.now m = m := Nat.max_eq_right now
    have later : m ≠ s.timing.lastBoundary := by
      have : (0 : Nat) < Config.periodMin := by decide
      omega
    have period : periodOk (m - s.timing.lastBoundary) = true := by
      rw [periodOk, Bool.and_eq_true, decide_eq_true_eq, decide_eq_true_eq]
      omega
    refine ⟨{ s.timing with now := m }, m,
      fun z => { z with state := .locked, period := m - s.timing.lastBoundary, candidate := none }, rfl, fun _ => rfl, ?_⟩
    have marked : (s.setTiming { s.timing with now := m }).mark m =
        (s.setTiming { s.timing with now := m }).lockMark m (m - s.timing.lastBoundary) := by
      unfold State.mark
      rw [State.setTiming_timing, locked]
      exact if_pos period
    change execTimingMark m s = _
    rw [execTimingMark, headEvent, if_neg hm, State.atMoment, moment]
    dsimp only
    rw [show (s.setTiming { s.timing with now := m }).timing.now = m from rfl, marked, State.lockMark]
    dsimp only
    rw [if_neg (show ¬ m = (s.setTiming { s.timing with now := m }).timing.lastBoundary from later)]

/-- Settles O45: with nothing left due a boundary completes the aged recomputes and is handed to every block, each of which keeps
what the statement says is kept. -/
theorem aFrameBoundaryIsHandedOn : Obligations.AFrameBoundaryIsHandedOn := by
  unfold Obligations.AFrameBoundaryIsHandedOn
  intro s i hm hd hi
  obtain ⟨x, m, y, hx, hy, e⟩ := exec_takesBoundary hm hi
  have handed := handedOn_setTiming hx (hy _) (boundary_handedOn (s := s.setTiming x) hd m)
  refine ⟨_, e, ?_⟩
  generalize ((s.setTiming x).boundary m).setTiming (y ((s.setTiming x).boundary m).timing) = t at handed
  obtain ⟨framed, frame, consent, commit, idle, bindings, power⟩ := handed
  refine ⟨eq_of_framed framed, frame, plans_of_framed framed, consent, commit, idle, bindings, power, placements_of_framed framed,
    fun h => ?_⟩
  have same := head_of_framed framed h
  exact ⟨(congrArg HeadLink.state same :), (congrArg HeadLink.delay same :), (congrArg HeadLink.report same :),
    (congrArg HeadLink.settings same :), (congrArg HeadLink.test same :)⟩

end Sys2Proof.Machine
end

section
/-!
SUPPORT. The alarm log: what a raise and a clear make of the records of one kind and subject, and of those of others.
-/

namespace Sys2Proof.Machine

open Sys2Proof

/-! ## Finding a record and a slot -/

/-- The record is one of a kind about a subject. -/
def AlarmRecord.about (r : AlarmRecord) (k : AlarmKind) (x : Subject) : Prop := r.kind = k ∧ r.subject = x

/-- The slot's record where it is one of a kind about a subject. -/
def AlarmLog.hit (log : AlarmLog) (k : AlarmKind) (x : Subject) (i : Fin 64) : Option (Fin 64 × AlarmRecord) :=
  match log.slots[i] with
  | none => none
  | some r => if r.kind = k ∧ r.subject = x then some (i, r) else none

theorem find_eq_hit (log : AlarmLog) (k : AlarmKind) (x : Subject) : log.find k x = allRecordSlots.findSome? (log.hit k x) := rfl

theorem hit_eq_some (log : AlarmLog) (k : AlarmKind) (x : Subject) (i : Fin 64) (y : Fin 64 × AlarmRecord) :
    log.hit k x i = some y ↔ ∃ r, log.slots[i] = some r ∧ r.about k x ∧ y = (i, r) := by
  unfold AlarmLog.hit AlarmRecord.about
  cases h : log.slots[i] with
  | none => simp
  | some r =>
    simp only [Option.some.injEq, exists_eq_left']
    split
    · next e => simp [e, eq_comm]
    · next e => simp [e]

theorem find_some {log : AlarmLog} {k : AlarmKind} {x : Subject} {i : Fin 64} {r : AlarmRecord} (h : log.find k x = some (i, r)) :
    log.slots[i] = some r ∧ r.about k x := by
  obtain ⟨j, -, hj⟩ := List.exists_of_findSome?_eq_some h
  obtain ⟨q, hq, about, e⟩ := (hit_eq_some log k x j _).1 hj
  cases e
  exact ⟨hq, about⟩

theorem find_none {log : AlarmLog} {k : AlarmKind} {x : Subject} (h : log.find k x = none) (i : Fin 64) (r : AlarmRecord)
    (hr : log.slots[i] = some r) : ¬ r.about k x := fun about => by
  have miss := List.findSome?_eq_none_iff.1 h i (List.mem_finRange i)
  have hit := (hit_eq_some log k x i _).2 ⟨r, hr, about, rfl⟩
  rw [show log.hit k x i = none from miss] at hit
  cases hit

/-- Where a log holds of a kind and subject what another one holds, and the record found there, it finds the same. -/
theorem find_of_subset {log log' : AlarmLog} {k : AlarmKind} {x : Subject} {i : Fin 64} {r : AlarmRecord}
    (h : log.find k x = some (i, r)) (hi : log'.slots[i] = some r)
    (sub : ∀ (j : Fin 64) (q : AlarmRecord), log'.slots[j] = some q → q.about k x → log.slots[j] = some q) :
    log'.find k x = some (i, r) := by
  rw [find_eq_hit, List.findSome?_eq_some_iff] at h ⊢
  obtain ⟨before, j, after, split, hit, none⟩ := h
  obtain ⟨q, hq, about, e⟩ := (hit_eq_some log k x j _).1 hit
  cases e
  refine ⟨before, i, after, split, (hit_eq_some log' k x i _).2 ⟨r, hi, about, rfl⟩, fun m hm => ?_⟩
  by_contra hne
  obtain ⟨y, hy⟩ := Option.ne_none_iff_exists'.1 hne
  obtain ⟨p, hp, about', e⟩ := (hit_eq_some log' k x m y).1 hy
  have := none m hm
  rw [(hit_eq_some log k x m _).2 ⟨p, sub m p hp about', about', rfl⟩] at this
  cases this

theorem freeSlot_some {log : AlarmLog} {i : Fin 64} (h : log.freeSlot = some i) : log.slots[i] = none := by
  have := List.find?_some (p := fun i : Fin 64 => log.slots[i].isNone) h
  simpa using this

/-- The CLEARED record that is oldest of one slot and the best found before it. -/
def State.olderCleared (s : State) (best : Option (Fin 64 × Nat)) (i : Fin 64) : Option (Fin 64 × Nat) :=
  match s.log.slots[i] with
  | none => best
  | some r =>
    match r.clearFrame, best with
    | none, _ => best
    | some f, none => some (i, s.elapsed f)
    | some f, some (j, e) => if e < s.elapsed f then some (i, s.elapsed f) else some (j, e)

theorem oldestCleared_eq (s : State) : s.oldestCleared = (allRecordSlots.foldl s.olderCleared none).map (·.1) := rfl

/-- A slot with a CLEARED record, where there is one. -/
def State.clearedSlot (s : State) (best : Option (Fin 64 × Nat)) : Prop :=
  ∀ y, best = some y → ∃ r, s.log.slots[y.1] = some r ∧ r.active = false

theorem olderCleared_cleared {s : State} {best : Option (Fin 64 × Nat)} (hb : s.clearedSlot best) (i : Fin 64) :
    s.clearedSlot (s.olderCleared best i) := by
  unfold State.olderCleared
  split
  · exact hb
  · next r hr =>
    split
    · exact hb
    · next f hf =>
      intro y e
      cases e
      exact ⟨r, hr, by rw [AlarmRecord.active, hf]; rfl⟩
    · next f j n hf =>
      split
      · intro y e
        cases e
        exact ⟨r, hr, by rw [AlarmRecord.active, hf]; rfl⟩
      · exact hb

/-- The record that gives way to a new one is CLEARED (R164). -/
theorem oldestCleared_some {s : State} {i : Fin 64} (h : s.oldestCleared = some i) :
    ∃ r, s.log.slots[i] = some r ∧ r.active = false := by
  have cleared : ∀ (l : List (Fin 64)) best, s.clearedSlot best → s.clearedSlot (l.foldl s.olderCleared best) := by
    intro l
    induction l with
    | nil => exact fun _ h => h
    | cons a l ih => exact fun best h => ih _ (olderCleared_cleared h a)
  rw [oldestCleared_eq] at h
  obtain ⟨y, hy, rfl⟩ := Option.map_eq_some_iff.1 h
  exact cleared allRecordSlots none (fun _ e => by cases e) y hy

/-! ## The log after a raise and after a clear -/

theorem sendUnsolicited_log (s : State) (p : Port) (m : Message) : (s.sendUnsolicited p m).log = s.log := by
  unfold State.sendUnsolicited
  split <;> rfl

@[simp] theorem withLog_log (s : State) (log : AlarmLog) (quiet : Option Link) : (s.withLog log quiet).log = log := by
  unfold State.withLog
  refine (forAll_keeps State.log _ (fun l t => ?_) _ _).trans rfl
  dsimp only
  split
  · exact sendUnsolicited_log _ _ _
  · rfl

theorem withLog_slot (s : State) (log : AlarmLog) (quiet : Option Link) (j : Fin 64) :
    (s.withLog log quiet).log.slots[j] = log.slots[j] := by rw [withLog_log]

theorem put_slot (log : AlarmLog) (i j : Fin 64) (r : AlarmRecord) :
    (log.put i r).slots[j] = if i = j then some r else log.slots[j] := by
  unfold AlarmLog.put
  exact get_set _ _ _ _

theorem evict_slot_other (log : AlarmLog) {i j : Fin 64} (h : i ≠ j) : (log.evict i).slots[j] = log.slots[j] := by
  unfold AlarmLog.evict
  split
  · rfl
  · dsimp only
    rw [get_set, if_neg h]

theorem evict_dropped (log : AlarmLog) (i : Fin 64) : (log.evict i).dropped = log.dropped := by
  unfold AlarmLog.evict
  split <;> rfl

/-- What a raise makes of the log: it writes one record, in the slot of the record of its kind and subject, or in a free or
CLEARED one where there is none, or it is dropped (R163, R164, R165). -/
theorem raise_log (s : State) (k : AlarmKind) (x : Subject) (d : Nat) :
    (∃ (i : Fin 64) (r : AlarmRecord), r.about k x ∧ r.active = !k.isEvent ∧ r.lastFrame = s.timing.frame ∧
      r.detail = BitVec.ofNat 32 d ∧
      (∀ j : Fin 64, (s.raise k x d).log.slots[j] = if i = j then some r else s.log.slots[j]) ∧
      (s.raise k x d).log.dropped = s.log.dropped ∧
      ((∃ q, s.log.slots[i] = some q ∧ q.about k x) ∨
        (s.log.find k x = none ∧ ∀ q, s.log.slots[i] = some q → q.active = false))) ∨
    (s.log.find k x = none ∧ (s.raise k x d).log.slots = s.log.slots ∧
      (s.raise k x d).log.dropped = min 255 (s.log.dropped + 1)) := by
  have createdActive : (s.created k x d).active = !k.isEvent := by
    unfold AlarmRecord.active State.created
    cases k.isEvent <;> rfl
  unfold State.raise
  cases hf : s.log.find k x with
  | some y =>
    obtain ⟨i, r⟩ := y
    obtain ⟨hi, about⟩ := find_some hf
    refine .inl ⟨i, s.merged r d, about, ?_, rfl, rfl, fun j => ?_, ?_, .inl ⟨r, hi, about⟩⟩
    · unfold AlarmRecord.active State.merged
      rw [← about.1]
      cases r.kind.isEvent <;> rfl
    · dsimp only
      rw [withLog_log, put_slot]
    · dsimp only
      rw [withLog_log]
      rfl
  | none =>
    dsimp only
    cases hs : s.log.freeSlot with
    | some i =>
      refine .inl ⟨i, s.created k x d, ⟨rfl, rfl⟩, createdActive, rfl, rfl, fun j => ?_, ?_, .inr ⟨rfl, fun q hq => ?_⟩⟩
      · dsimp only
        rw [withLog_log, put_slot]
      · dsimp only
        rw [withLog_log]
        rfl
      · rw [freeSlot_some hs] at hq; cases hq
    | none =>
      dsimp only
      cases ho : s.oldestCleared with
      | some i =>
        obtain ⟨r, hr, cleared⟩ := oldestCleared_some ho
        refine .inl ⟨i, s.created k x d, ⟨rfl, rfl⟩, createdActive, rfl, rfl, fun j => ?_, ?_, .inr ⟨rfl, fun q hq => ?_⟩⟩
        · dsimp only
          rw [withLog_log, withLog_log, put_slot]
          split
          · rfl
          · next h => exact evict_slot_other _ h
        · dsimp only
          rw [withLog_log, withLog_log]
          exact evict_dropped _ i
        · rw [hr] at hq; cases hq; exact cleared
      | none => exact .inr ⟨rfl, rfl, rfl⟩

/-- What a clear makes of the log: the record of its kind and subject is CLEARED where it is an ACTIVE CONDITION (R166). -/
theorem clear_log (s : State) (k : AlarmKind) (x : Subject) (quiet : Option Link) :
    ((s.clear k x quiet).log = s.log ∧
      ∀ i r, s.log.find k x = some (i, r) → r.active = false ∨ r.kind.isEvent = true) ∨
    ∃ (i : Fin 64) (r q : AlarmRecord), s.log.find k x = some (i, r) ∧ q.about k x ∧ q.active = false ∧
      q.clearFrame = some s.timing.frame ∧
      (∀ j : Fin 64, (s.clear k x quiet).log.slots[j] = if i = j then some q else s.log.slots[j]) ∧
      (s.clear k x quiet).log.dropped = s.log.dropped := by
  unfold State.clear
  cases hf : s.log.find k x with
  | none => exact .inl ⟨rfl, fun _ _ h => by cases h⟩
  | some y =>
    obtain ⟨i, r⟩ := y
    obtain ⟨-, about⟩ := find_some hf
    dsimp only
    split
    · refine .inr ⟨i, r, { r with clearFrame := some s.frame, notices := freshNotices r.audience }, rfl, about, rfl, rfl,
        fun j => ?_, ?_⟩
      · exact (withLog_slot _ _ _ _).trans (put_slot _ _ _ _)
      · exact Eq.trans (congrArg AlarmLog.dropped (withLog_log _ _ _)) rfl
    · next h =>
      refine .inl ⟨rfl, fun j q e => ?_⟩
      cases e
      simpa [Bool.and_eq_true, not_and, or_iff_not_imp_left] using h

/-! ## Records of one kind and subject -/

/-- The log holds at most one record of a kind about a subject (R162). -/
def AlarmLog.unique (log : AlarmLog) : Prop :=
  ∀ (i j : Fin 64) (r q : AlarmRecord), log.slots[i] = some r → log.slots[j] = some q → r.kind = q.kind → r.subject = q.subject →
    i = j

theorem unique_of_sound {log : AlarmLog} (h : log.sound) : log.unique := h.2.1

/-- A slot takes a record of a kind about a subject of which there is no other. -/
theorem unique_of_written {log log' : AlarmLog} (h : log.unique) {i : Fin 64} {r : AlarmRecord}
    (slots : ∀ j : Fin 64, log'.slots[j] = if i = j then some r else log.slots[j])
    (none : ∀ (j : Fin 64) (q : AlarmRecord), i ≠ j → log.slots[j] = some q → ¬ (q.kind = r.kind ∧ q.subject = r.subject)) :
    log'.unique := by
  intro a b p q hp hq kind subject
  rw [slots] at hp hq
  split at hp <;> split at hq
  · next ea eb => exact ea.symm.trans eb
  · next ea eb => cases hp; exact absurd ⟨kind.symm, subject.symm⟩ (none b q eb hq)
  · next ea eb => cases hq; exact absurd ⟨kind, subject⟩ (none a p ea hp)
  · exact h a b p q hp hq kind subject

theorem raise_unique {s : State} (h : s.log.unique) (k : AlarmKind) (x : Subject) (d : Nat) : (s.raise k x d).log.unique := by
  obtain ⟨i, r, about, -, -, -, slots, -, old⟩ | ⟨-, slots, -⟩ := raise_log s k x d
  · refine unique_of_written h slots fun j q hij hq e => ?_
    rw [about.1, about.2] at e
    obtain ⟨p, hp, ap⟩ | ⟨none, -⟩ := old
    · exact hij (h i j p q hp hq (ap.1.trans e.1.symm) (ap.2.trans e.2.symm))
    · exact find_none none j q hq e
  · unfold AlarmLog.unique
    rwa [slots]

theorem clear_unique {s : State} (h : s.log.unique) (k : AlarmKind) (x : Subject) (quiet : Option Link) :
    (s.clear k x quiet).log.unique := by
  obtain ⟨e, -⟩ | ⟨i, r, q, found, about, -, -, slots, -⟩ := clear_log s k x quiet
  · rwa [e]
  · obtain ⟨hr, ar⟩ := find_some found
    refine unique_of_written h slots fun j p hij hp e => ?_
    rw [about.1, about.2] at e
    exact hij (h i j r p hr hp (ar.1.trans e.1.symm) (ar.2.trans e.2.symm))

/-- Whatever the count of dropped raises has gone beyond, or that it stands at its maximum, still holds. -/
def AlarmLog.dropsOnto (log log' : AlarmLog) : Prop :=
  ∀ n, n < log.dropped ∨ log.dropped = 255 → n < log'.dropped ∨ log'.dropped = 255

theorem raise_dropsOnto (s : State) (k : AlarmKind) (x : Subject) (d : Nat) : s.log.dropsOnto (s.raise k x d).log := by
  intro n
  obtain ⟨-, -, -, -, -, -, -, e, -⟩ | ⟨-, -, e⟩ := raise_log s k x d <;> rw [e] <;> omega

theorem clear_dropsOnto (s : State) (k : AlarmKind) (x : Subject) (quiet : Option Link) :
    s.log.dropsOnto (s.clear k x quiet).log := by
  intro n
  obtain ⟨e, -⟩ | ⟨-, -, -, -, -, -, -, -, e⟩ := clear_log s k x quiet
  · rw [e]; exact id
  · rw [e]; exact id

/-- The records of a kind about a subject are the same but for CLEARED ones that have been evicted. -/
def AlarmLog.spares (log log' : AlarmLog) (k : AlarmKind) (x : Subject) : Prop :=
  (∀ (i : Fin 64) (r : AlarmRecord), log.slots[i] = some r → r.about k x → r.active = true → log'.slots[i] = some r) ∧
  ∀ (i : Fin 64) (r : AlarmRecord), log'.slots[i] = some r → r.about k x → log.slots[i] = some r

theorem spares_refl (log : AlarmLog) (k : AlarmKind) (x : Subject) : log.spares log k x :=
  ⟨fun _ _ h _ _ => h, fun _ _ h _ => h⟩

theorem spares_trans {a b c : AlarmLog} {k : AlarmKind} {x : Subject} (h : a.spares b k x) (g : b.spares c k x) :
    a.spares c k x :=
  ⟨fun i r hr about active => g.1 i r (h.1 i r hr about active) about active,
    fun i r hr about => h.2 i r (g.2 i r hr about) about⟩

theorem raise_spares (s : State) {k k' : AlarmKind} {x x' : Subject} (hne : ¬ (k' = k ∧ x' = x)) (d : Nat) :
    s.log.spares (s.raise k' x' d).log k x := by
  obtain ⟨i, q, about, -, -, -, slots, -, old⟩ | ⟨-, slots, -⟩ := raise_log s k' x' d
  · have other : ∀ r : AlarmRecord, r.about k x → ¬ r.about k' x' := fun r a a' => hne ⟨a'.1.symm.trans a.1, a'.2.symm.trans a.2⟩
    constructor
    · intro j r hr a active
      rw [slots, if_neg]
      · exact hr
      · rintro rfl
        obtain ⟨p, hp, ap⟩ | ⟨-, cleared⟩ := old
        · rw [hp] at hr; cases hr; exact other _ a ap
        · rw [cleared r hr] at active; cases active
    · intro j r hr a
      rw [slots] at hr
      split at hr
      · cases hr; exact absurd about (other _ a)
      · exact hr
  · unfold AlarmLog.spares
    rw [slots]
    exact spares_refl s.log k x

theorem clear_spares (s : State) {k k' : AlarmKind} {x x' : Subject} (hne : ¬ (k' = k ∧ x' = x)) (quiet : Option Link) :
    s.log.spares (s.clear k' x' quiet).log k x := by
  obtain ⟨e, -⟩ | ⟨i, p, q, found, about, -, -, slots, -⟩ := clear_log s k' x' quiet
  · rw [e]
    exact spares_refl s.log k x
  · obtain ⟨hp, ap⟩ := find_some found
    have other : ∀ r : AlarmRecord, r.about k x → ¬ r.about k' x' := fun r a a' => hne ⟨a'.1.symm.trans a.1, a'.2.symm.trans a.2⟩
    constructor
    · intro j r hr a active
      rw [slots, if_neg]
      · exact hr
      · rintro rfl
        rw [hp] at hr; cases hr; exact other _ a ap
    · intro j r hr a
      rw [slots] at hr
      split at hr
      · cases hr; exact absurd about (other _ a)
      · exact hr

/-! ## Raised and quiet -/

/-- A raise of a CONDITION is shown or counted as dropped (R163, R164, R165). -/
theorem raised_raise {s t : State} {k : AlarmKind} (hk : k.isEvent = false) (x : Subject) (d : Nat)
    (drops : s.log.dropsOnto t.log) (frame : t.timing.frame = s.timing.frame) :
    s.log.raised (t.raise k x d).log k x s.timing.frame d := by
  obtain ⟨i, r, about, active, last, detail, slots, -, -⟩ | ⟨none, slots, dropped⟩ := raise_log t k x d
  · refine .inl ⟨i, r, ?_, about.1, about.2, ?_, last.trans frame, detail⟩
    · rw [slots, if_pos rfl]
    · rw [active, hk]; rfl
  · refine .inr ⟨?_, ?_⟩
    · rw [slots]
      exact fun i r hr a => find_none none i r hr a
    · rw [dropped]
      have := drops (s.log.dropped - 1)
      omega

theorem raised_spares {a b c : AlarmLog} {k : AlarmKind} {x : Subject} {f : Frame} {d : Nat} (h : a.raised b k x f d)
    (spares : b.spares c k x) (drops : b.dropsOnto c) : a.raised c k x f d := by
  obtain ⟨i, r, hr, kind, subject, active, rest⟩ | ⟨none, dropped⟩ := h
  · exact .inl ⟨i, r, spares.1 i r hr ⟨kind, subject⟩ active, kind, subject, active, rest⟩
  · exact .inr ⟨fun i r hr about => none i r (spares.2 i r hr about) about, drops _ dropped⟩

theorem quiet_spares {a b : AlarmLog} {k : AlarmKind} {x : Subject} (h : a.quiet k x) (spares : a.spares b k x) : b.quiet k x :=
  fun i r hr kind subject => h i r (spares.2 i r hr ⟨kind, subject⟩) kind subject

/-- After a clear no record of its kind about its subject is ACTIVE, where there is at most one (R166). -/
theorem quiet_clear {s : State} (h : s.log.unique) {k : AlarmKind} (hk : k.isEvent = false) (x : Subject) (quiet : Option Link) :
    (s.clear k x quiet).log.quiet k x := by
  obtain ⟨e, inactive⟩ | ⟨i, p, q, found, about, cleared, -, slots, -⟩ := clear_log s k x quiet
  · rw [e]
    intro j r hr kind subject
    cases hf : s.log.find k x with
    | none => exact absurd ⟨kind, subject⟩ (find_none hf j r hr)
    | some y =>
      obtain ⟨i, q⟩ := y
      obtain ⟨hq, about⟩ := find_some hf
      have same : i = j := h i j q r hq hr (about.1.trans kind.symm) (about.2.trans subject.symm)
      subst same
      rw [hq] at hr
      cases hr
      obtain e | e := inactive i _ hf
      · exact e
      · rw [about.1, hk] at e; cases e
  · obtain ⟨hp, ap⟩ := find_some found
    intro j r hr kind subject
    rw [slots] at hr
    split at hr
    · cases hr; exact cleared
    · next hij => exact absurd (h i j p r hp hr (ap.1.trans kind.symm) (ap.2.trans subject.symm)) hij

/-- A clear makes no record ACTIVE. -/
theorem quiet_clear_any {s : State} {k k' : AlarmKind} {x x' : Subject} (h : s.log.quiet k x) (quiet : Option Link) :
    (s.clear k' x' quiet).log.quiet k x := by
  obtain ⟨e, -⟩ | ⟨i, p, q, -, -, cleared, -, slots, -⟩ := clear_log s k' x' quiet
  · rwa [e]
  · intro j r hr kind subject
    rw [slots] at hr
    split at hr
    · cases hr; exact cleared
    · exact h j r hr kind subject

end Sys2Proof.Machine
end

section
/-!
SUPPORT. How a change is handed on: raises, clears and orphan flags one after another, with what they keep of ports and log.
-/

namespace Sys2Proof.Machine

open Sys2Proof

/-! ## Ports -/

/-- A port has nothing changed but for messages that have joined its outgoing queue. -/
def PortRecord.grown (x y : PortRecord) : Prop := ∃ ms, y = x.sent ms

theorem grown_refl (x : PortRecord) : x.grown x := ⟨[], by simp [PortRecord.sent]⟩

theorem grown_trans {x y z : PortRecord} (h : x.grown y) (g : y.grown z) : x.grown z := by
  obtain ⟨ms, rfl⟩ := h
  obtain ⟨ns, rfl⟩ := g
  exact ⟨ms ++ ns, by simp [PortRecord.sent]⟩

/-- Between two states the ports have changed by messages to operator links alone. -/
structure State.messaged (s t : State) : Prop where
  grown : ∀ q : Port, s.ports[q].grown t.ports[q]
  mp : t.ports[Port.mp] = s.ports[Port.mp]

theorem messaged_of_ports {s t : State} (h : t.ports = s.ports) : s.messaged t :=
  ⟨fun q => by rw [h]; exact grown_refl _, by rw [h]⟩

theorem messaged_trans {s t u : State} (h : s.messaged t) (g : t.messaged u) : s.messaged u :=
  ⟨fun q => grown_trans (h.grown q) (g.grown q), g.mp.trans h.mp⟩

theorem enqueue_port (s : State) (p q : Port) (ms : List Message) :
    (s.enqueue p ms).ports[q] = if p = q then s.ports[p].sent ms else s.ports[q] := by
  unfold State.enqueue State.modPort
  exact get_set _ _ _ _

theorem sendUnsolicited_port_other (s : State) {p q : Port} (h : p ≠ q) (m : Message) :
    (s.sendUnsolicited p m).ports[q] = s.ports[q] := by
  unfold State.sendUnsolicited
  split
  · rw [enqueue_port, if_neg h]
  · rfl

theorem ofLink_ne_mp (l : Link) : Port.ofLink l ≠ Port.mp := by revert l; decide

theorem sendUnsolicited_messaged (s : State) (l : Link) (m : Message) : s.messaged (s.sendUnsolicited (Port.ofLink l) m) := by
  refine ⟨fun q => ?_, sendUnsolicited_port_other s (ofLink_ne_mp l) m⟩
  unfold State.sendUnsolicited
  split
  · rw [enqueue_port]
    split
    · next e => exact ⟨[m], by rw [e]⟩
    · exact grown_refl _
  · exact grown_refl _

theorem withLog_messaged (s : State) (log : AlarmLog) (quiet : Option Link) : s.messaged (s.withLog log quiet) := by
  unfold State.withLog
  refine forAll_preserves (fun t => s.messaged t) _ (fun l t ht => ?_) allLinks _ (messaged_of_ports rfl)
  dsimp only
  split
  · exact messaged_trans ht (sendUnsolicited_messaged t l _)
  · exact ht

theorem raise_messaged (s : State) (k : AlarmKind) (x : Subject) (d : Nat) : s.messaged (s.raise k x d) := by
  unfold State.raise
  split
  · exact withLog_messaged _ _ _
  · split
    · exact withLog_messaged _ _ _
    · split
      · exact messaged_trans (withLog_messaged _ _ _) (withLog_messaged _ _ _)
      · exact messaged_of_ports rfl

theorem clear_messaged (s : State) (k : AlarmKind) (x : Subject) (quiet : Option Link) : s.messaged (s.clear k x quiet) := by
  unfold State.clear
  split
  · exact messaged_of_ports rfl
  · split
    · exact withLog_messaged _ _ _
    · exact messaged_of_ports rfl

/-! ## Orphan flags -/

/-- The evaluation of an orphan flag changes nothing, raises or clears (R22). -/
theorem evalOrphan_cases (s : State) (c : Carrier) :
    (s.orphanCondition c = s.carriers[c].orphan ∧ s.evalOrphan c = s) ∨
    (s.orphanCondition c = true ∧ s.carriers[c].orphan = false ∧
      s.evalOrphan c = (s.modCarrier c fun r => { r with orphan := true }).raise .carrierOrphaned (.carrier c) 0) ∨
    (s.orphanCondition c = false ∧ s.carriers[c].orphan = true ∧
      s.evalOrphan c = (s.modCarrier c fun r => { r with orphan := false }).clear .carrierOrphaned (.carrier c)) := by
  unfold State.evalOrphan
  dsimp only
  cases hc : s.orphanCondition c <;> cases ho : s.carriers[c].orphan <;> simp

theorem evalOrphan_carriers (s : State) (c d : Carrier) :
    (s.evalOrphan c).carriers[d] =
      if c = d then { s.carriers[d] with orphan := s.orphanCondition d } else s.carriers[d] := by
  obtain ⟨same, e⟩ | ⟨hc, -, e⟩ | ⟨hc, -, e⟩ := evalOrphan_cases s c
  · rw [e]
    split
    · next h => subst h; rw [same]
    · rfl
  · rw [e, raise_carriers, modCarrier_get]
    split
    · next h => subst h; rw [hc]
    · rfl
  · rw [e, clear_carriers, modCarrier_get]
    split
    · next h => subst h; rw [hc]
    · rfl

/-! ## Handing on -/

/-- A state that comes of another by raises and clears of the kinds and subjects allowed, by evaluations of orphan flags, and by
changes that neither log, ports and time nor an orphan flag take part in. -/
inductive State.handsOn (raises clears : AlarmKind → Subject → Prop) (s : State) : State → Prop
  | start : s.handsOn raises clears s
  | silent {t u : State} (h : s.handsOn raises clears t) (log : u.log = t.log) (ports : u.ports = t.ports)
      (timing : u.timing = t.timing) (orphans : ∀ c : Carrier, u.carriers[c].orphan = t.carriers[c].orphan) :
      s.handsOn raises clears u
  | raise {t : State} (h : s.handsOn raises clears t) (k : AlarmKind) (x : Subject) (d : Nat) (hk : raises k x) :
      s.handsOn raises clears (t.raise k x d)
  | clear {t : State} (h : s.handsOn raises clears t) (k : AlarmKind) (x : Subject) (quiet : Option Link) (hk : clears k x) :
      s.handsOn raises clears (t.clear k x quiet)
  | orphan {t : State} (h : s.handsOn raises clears t) (c : Carrier) : s.handsOn raises clears (t.evalOrphan c)

section
variable {raises clears : AlarmKind → Subject → Prop}

theorem handsOn_trans {s t u : State} (h : s.handsOn raises clears t) (g : t.handsOn raises clears u) :
    s.handsOn raises clears u := by
  induction g with
  | start => exact h
  | silent _ log ports timing orphans ih => exact .silent ih log ports timing orphans
  | raise _ k x d hk ih => exact .raise ih k x d hk
  | clear _ k x quiet hk ih => exact .clear ih k x quiet hk
  | orphan _ c ih => exact .orphan ih c

theorem handsOn_mono {raises' clears' : AlarmKind → Subject → Prop} {s t : State} (h : s.handsOn raises clears t)
    (hr : ∀ k x, raises k x → raises' k x) (hc : ∀ k x, clears k x → clears' k x) : s.handsOn raises' clears' t := by
  induction h with
  | start => exact .start
  | silent _ log ports timing orphans ih => exact .silent ih log ports timing orphans
  | raise _ k x d hk ih => exact .raise ih k x d (hr k x hk)
  | clear _ k x quiet hk ih => exact .clear ih k x quiet (hc k x hk)
  | orphan _ c ih => exact .orphan ih c

theorem handsOn_silent {s t : State} (log : t.log = s.log) (ports : t.ports = s.ports) (timing : t.timing = s.timing)
    (orphans : ∀ c : Carrier, t.carriers[c].orphan = s.carriers[c].orphan) : s.handsOn raises clears t :=
  .silent .start log ports timing orphans

theorem handsOn_forAll {α : Type} {g : α → State → State} {l : List α} (h : ∀ a ∈ l, ∀ t : State, t.handsOn raises clears (g a t))
    (s : State) : s.handsOn raises clears (forAll l g s) :=
  forAll_preserves_mem (fun t : State => s.handsOn raises clears t) g l (fun a ha t ht => handsOn_trans ht (h a ha t)) s .start

/-! ## What handing on keeps -/

theorem handsOn_messaged {s t : State} (h : s.handsOn raises clears t) : s.messaged t := by
  induction h with
  | start => exact messaged_of_ports rfl
  | silent _ _ ports _ _ ih => exact messaged_trans ih (messaged_of_ports ports)
  | raise _ k x d _ ih => exact messaged_trans ih (raise_messaged _ k x d)
  | clear _ k x quiet _ ih => exact messaged_trans ih (clear_messaged _ k x quiet)
  | @orphan t _ c ih =>
    refine messaged_trans ih ?_
    obtain ⟨-, e⟩ | ⟨-, -, e⟩ | ⟨-, -, e⟩ := evalOrphan_cases t c <;> rw [e]
    · exact messaged_of_ports rfl
    · refine messaged_trans (messaged_of_ports ?_) (raise_messaged _ _ _ _)
      rfl
    · refine messaged_trans (messaged_of_ports ?_) (clear_messaged _ _ _ _)
      rfl

theorem evalOrphan_timing (s : State) (c : Carrier) : (s.evalOrphan c).timing = s.timing :=
  (congrArg State.timing (evalOrphan_sansConfig s c) :)

theorem handsOn_timing {s t : State} (h : s.handsOn raises clears t) : t.timing = s.timing := by
  induction h with
  | start => rfl
  | silent _ _ _ timing _ ih => exact timing.trans ih
  | raise _ k x d _ ih => rw [raise_timing, ih]
  | clear _ k x quiet _ ih => rw [clear_timing, ih]
  | orphan _ c ih => rw [evalOrphan_timing, ih]

theorem handsOn_unique {s t : State} (h : s.handsOn raises clears t) (hs : s.log.unique) : t.log.unique := by
  induction h with
  | start => exact hs
  | silent _ log _ _ _ ih => rw [log]; exact ih
  | raise _ k x d _ ih => exact raise_unique ih k x d
  | clear _ k x quiet _ ih => exact clear_unique ih k x quiet
  | @orphan t _ c ih =>
    obtain ⟨-, e⟩ | ⟨-, -, e⟩ | ⟨-, -, e⟩ := evalOrphan_cases t c <;> rw [e]
    · exact ih
    · exact raise_unique (by exact ih) _ _ _
    · exact clear_unique (by exact ih) _ _ _

theorem handsOn_dropsOnto {s t : State} (h : s.handsOn raises clears t) : s.log.dropsOnto t.log := by
  induction h with
  | start => exact fun _ => id
  | silent _ log _ _ _ ih => rw [log]; exact ih
  | raise _ k x d _ ih => exact fun n hn => raise_dropsOnto _ k x d n (ih n hn)
  | clear _ k x quiet _ ih => exact fun n hn => clear_dropsOnto _ k x quiet n (ih n hn)
  | @orphan t _ c ih =>
    obtain ⟨-, e⟩ | ⟨-, -, e⟩ | ⟨-, -, e⟩ := evalOrphan_cases t c <;> rw [e]
    · exact ih
    · exact fun n hn => raise_dropsOnto _ _ _ _ n (ih n hn)
    · exact fun n hn => clear_dropsOnto _ _ _ _ n (ih n hn)

/-- The evaluation of an orphan flag leaves every other record alone. -/
theorem evalOrphan_spares (s : State) (c : Carrier) {k : AlarmKind} {x : Subject} (hne : ¬ (.carrierOrphaned = k ∧ .carrier c = x)) :
    s.log.spares (s.evalOrphan c).log k x := by
  obtain ⟨-, e⟩ | ⟨-, -, e⟩ | ⟨-, -, e⟩ := evalOrphan_cases s c <;> rw [e]
  · exact spares_refl _ _ _
  · exact raise_spares (s.modCarrier c _) hne 0
  · exact clear_spares (s.modCarrier c _) hne none

/-- Records that handing on neither raises nor clears are left alone. -/
theorem handsOn_spares {s t : State} (h : s.handsOn raises clears t) {k : AlarmKind} {x : Subject} (hk : k ≠ .carrierOrphaned)
    (hr : ¬ raises k x) (hc : ¬ clears k x) : s.log.spares t.log k x := by
  induction h with
  | start => exact spares_refl _ _ _
  | silent _ log _ _ _ ih => rw [log]; exact ih
  | raise _ k' x' d hk' ih => exact spares_trans ih (raise_spares _ (fun ⟨e, f⟩ => hr (e ▸ f ▸ hk')) d)
  | clear _ k' x' quiet hk' ih => exact spares_trans ih (clear_spares _ (fun ⟨e, f⟩ => hc (e ▸ f ▸ hk')) quiet)
  | orphan _ c ih => exact spares_trans ih (evalOrphan_spares _ c fun ⟨e, _⟩ => hk e.symm)

/-- A condition that is not ACTIVE stays so where handing on does not raise it. -/
theorem handsOn_quiet {s t : State} (h : s.handsOn raises clears t) {k : AlarmKind} {x : Subject} (hk : k ≠ .carrierOrphaned)
    (hr : ¬ raises k x) (hq : s.log.quiet k x) : t.log.quiet k x := by
  induction h with
  | start => exact hq
  | silent _ log _ _ _ ih => rw [log]; exact ih
  | raise _ k' x' d hk' ih => exact quiet_spares ih (raise_spares _ (fun ⟨e, f⟩ => hr (e ▸ f ▸ hk')) d)
  | clear _ k' x' quiet _ ih => exact quiet_clear_any ih quiet
  | orphan _ c ih => exact quiet_spares ih (evalOrphan_spares _ c fun ⟨e, _⟩ => hk e.symm)

/-! ## CARRIER_ORPHANED follows the flags (R22) -/

/-- The log tells of the flag of one carrier what has become of it since a state. -/
structure State.orphanTold (s t : State) (c : Carrier) : Prop where
  raised : s.carriers[c].orphan = false → t.carriers[c].orphan = true →
    s.log.raised t.log .carrierOrphaned (.carrier c) s.timing.frame 0
  quiet : s.carriers[c].orphan = true → t.carriers[c].orphan = false → t.log.quiet .carrierOrphaned (.carrier c)

theorem orphanTold_of_spares {s t u : State} {c : Carrier} (h : s.orphanTold t c)
    (spares : t.log.spares u.log .carrierOrphaned (.carrier c)) (drops : t.log.dropsOnto u.log)
    (flag : u.carriers[c].orphan = t.carriers[c].orphan) : s.orphanTold u c :=
  ⟨fun h0 h1 => raised_spares (h.raised h0 (flag ▸ h1)) spares drops, fun h0 h1 => quiet_spares (h.quiet h0 (flag ▸ h1)) spares⟩

/-- The evaluation of an orphan flag tells of it. -/
theorem orphanTold_evalOrphan {s t : State} {c : Carrier} (h : s.orphanTold t c) (unique : t.log.unique)
    (drops : s.log.dropsOnto t.log) (timing : t.timing = s.timing) (d : Carrier) : s.orphanTold (t.evalOrphan d) c := by
  by_cases hd : d = c
  · subst hd
    have flag := evalOrphan_carriers t d d
    rw [if_pos rfl] at flag
    obtain ⟨-, e⟩ | ⟨cond, -, e⟩ | ⟨cond, -, e⟩ := evalOrphan_cases t d
    · rwa [e]
    · refine ⟨fun _ _ => ?_, fun _ h1 => ?_⟩
      · rw [e]
        exact raised_raise rfl _ 0 drops (congrArg Timing.frame timing)
      · rw [flag, cond] at h1; cases h1
    · refine ⟨fun _ h1 => ?_, fun _ _ => ?_⟩
      · rw [flag, cond] at h1; cases h1
      · rw [e]
        exact quiet_clear (s := t.modCarrier d _) unique rfl _ _
  · have hne : ¬ (AlarmKind.carrierOrphaned = .carrierOrphaned ∧ Subject.carrier d = .carrier c) := fun ⟨_, e⟩ =>
      hd (by injection e)
    refine orphanTold_of_spares h (evalOrphan_spares t d hne) ?_ ?_
    · exact handsOn_dropsOnto (raises := fun _ _ => False) (clears := fun _ _ => False) (.orphan .start d)
    · rw [evalOrphan_carriers, if_neg hd]

theorem handsOn_orphanTold {s t : State} (h : s.handsOn raises clears t) (hs : s.log.unique)
    (hr : ∀ x, ¬ raises .carrierOrphaned x) (hc : ∀ x, ¬ clears .carrierOrphaned x) (c : Carrier) : s.orphanTold t c := by
  induction h with
  | start => exact ⟨fun h0 h1 => absurd (h0.symm.trans h1) (by decide), fun h0 h1 => absurd (h0.symm.trans h1) (by decide)⟩
  | silent _ log _ _ orphans ih =>
    exact orphanTold_of_spares ih (by rw [log]; exact spares_refl _ _ _) (by rw [log]; exact fun _ => id) (orphans c)
  | raise _ k x d hk ih =>
    exact orphanTold_of_spares ih (raise_spares _ (fun ⟨e, _⟩ => hr x (e ▸ hk)) d) (raise_dropsOnto _ k x d) (by rw [raise_carriers])
  | clear _ k x quiet hk ih =>
    exact orphanTold_of_spares ih (clear_spares _ (fun ⟨e, _⟩ => hc x (e ▸ hk)) quiet) (clear_dropsOnto _ k x quiet)
      (by rw [clear_carriers])
  | orphan h d ih => exact orphanTold_evalOrphan ih (handsOn_unique h hs) (handsOn_dropsOnto h) (handsOn_timing h) d

/-- Where handing on raises and clears nothing else of CARRIER_ORPHANED, the log is handed what becomes of the flags (R22). -/
theorem handsOn_orphansReported {s t : State} (h : s.handsOn raises clears t) (hs : s.log.sound)
    (hr : ∀ x, ¬ raises .carrierOrphaned x) (hc : ∀ x, ¬ clears .carrierOrphaned x) : s.orphansReported t := fun c =>
  have told := handsOn_orphanTold h (unique_of_sound hs) hr hc c
  ⟨told.raised, told.quiet⟩

end

end Sys2Proof.Machine
end

section
/-! SUPPORT. What follows a change of eligibility: the placements that leave it, the requests and the orphan flags (R30, R31). -/

namespace Sys2Proof.Machine

open Sys2Proof

/-! ## Placements -/

/-- The placement of a head and carrier that has one stands in the list once. -/
theorem placement_of_mem {s : State} (h : (s.placements.map fun q => (q.head, q.carrier)).Nodup) {p : Placement}
    (hp : p ∈ s.placements) : s.placement p.head p.carrier = some p := by
  have found : (s.placement p.head p.carrier).isSome = true := by
    rw [State.placement, List.find?_isSome]
    exact ⟨p, hp, by simp⟩
  obtain ⟨q, hq⟩ := Option.isSome_iff_exists.1 found
  have key := List.find?_some (p := fun q : Placement => decide (q.head = p.head ∧ q.carrier = p.carrier)) hq
  simp only [decide_eq_true_eq] at key
  rw [hq, List.inj_on_of_nodup_map h (List.mem_of_find?_eq_some hq) hp (by rw [key.1, key.2])]

/-- A placement that has left eligibility (R31, R44, R67). -/
def Placement.idle (p : Placement) : Placement := { p with outcome := .none, grant := 0, step := 31, basis := none, inUse := 31 }

/-- The placements after that of a head and carrier has left eligibility. -/
def Placement.idleAt (h : Head) (c : Carrier) (q : Placement) : Placement := if q.head = h ∧ q.carrier = c then q.idle else q

theorem idleAt_lasting (h : Head) (c : Carrier) (q : Placement) : (q.idleAt h c).lasting = q.lasting := by
  unfold Placement.idleAt
  split <;> rfl

theorem loseEligibility_placements (s : State) (p : Placement) :
    (s.loseEligibility p).placements = s.placements.map (Placement.idleAt p.head p.carrier) := by
  have marked : ((s.modPlacement p.head p.carrier Placement.idle).withdrawWritable p.head p.carrier).placements =
      s.placements.map (Placement.idleAt p.head p.carrier) := rfl
  unfold State.loseEligibility
  extract_lets t
  split
  · exact (clear_placements t _ _ _).trans marked
  · exact marked

theorem loseEligibility_carriers (s : State) (p : Placement) : (s.loseEligibility p).carriers = s.carriers := by
  unfold State.loseEligibility
  extract_lets t
  split
  · exact (clear_carriers t _ _ _).trans rfl
  · rfl

theorem loseEligibility_power (s : State) (p : Placement) :
    (s.loseEligibility p).power = (s.withdrawWritable p.head p.carrier).power := by
  unfold State.loseEligibility
  extract_lets t
  split
  · exact (clear_power t _ _ _).trans rfl
  · rfl

/-! ## Orphan conditions -/

/-- What the orphan condition of a carrier looks at (R22). -/
theorem orphanCondition_congr {s t : State} {c : Carrier} (active : t.carriers[c].active = s.carriers[c].active)
    (links : t.links = s.links) (mode : t.mode = s.mode) (heads : t.heads = s.heads)
    (placements : t.placements.map Placement.lasting = s.placements.map Placement.lasting) :
    t.orphanCondition c = s.orphanCondition c := by
  have serving : ∀ u : State, (u.placementsOf c).any (fun p => u.inService p.head && decide (p.exclusion = .none)) =
      (u.placements.map Placement.lasting).any fun p =>
        decide (p.carrier = c) && (u.heads[p.head].state.inService && decide (p.exclusion = .none)) := fun u => by
    rw [State.placementsOf, List.any_filter, List.any_map]
    rfl
  unfold State.orphanCondition
  rw [serving, serving, placements, heads, active, mode]
  unfold State.linkUp
  rw [links]

theorem evalOrphan_orphanCondition (s : State) (c d : Carrier) : (s.evalOrphan c).orphanCondition d = s.orphanCondition d := by
  have frame := evalOrphan_sansConfig s c
  refine orphanCondition_congr ?_ (congrArg State.links frame :) (congrArg State.mode frame :) (congrArg State.heads frame :) ?_
  · rw [evalOrphan_carriers]
    split <;> rfl
  · obtain ⟨-, e⟩ | ⟨-, -, e⟩ | ⟨-, -, e⟩ := evalOrphan_cases s c <;> rw [e]
    · rw [raise_placements]; rfl
    · rw [clear_placements]; rfl

theorem evalOrphan_placements (s : State) (c : Carrier) : (s.evalOrphan c).placements = s.placements := by
  obtain ⟨-, e⟩ | ⟨-, -, e⟩ | ⟨-, -, e⟩ := evalOrphan_cases s c <;> rw [e]
  · rw [raise_placements]; rfl
  · rw [clear_placements]; rfl

theorem evalOrphan_power (s : State) (c : Carrier) : (s.evalOrphan c).power = s.power := by
  obtain ⟨-, e⟩ | ⟨-, -, e⟩ | ⟨-, -, e⟩ := evalOrphan_cases s c <;> rw [e]
  · rw [raise_power]; rfl
  · rw [clear_power]; rfl

theorem evalOrphans_placements (s : State) : s.evalOrphans.placements = s.placements :=
  forAll_keeps State.placements _ (fun c t => evalOrphan_placements t c) _ s

theorem evalOrphans_power (s : State) : s.evalOrphans.power = s.power :=
  forAll_keeps State.power _ (fun c t => evalOrphan_power t c) _ s

theorem evalOrphans_orphanCondition (s : State) (d : Carrier) : s.evalOrphans.orphanCondition d = s.orphanCondition d :=
  forAll_keeps (fun t => t.orphanCondition d) _ (fun c t => evalOrphan_orphanCondition t c d) _ s

/-- After the evaluation of every flag each holds its condition (R22). -/
theorem evalOrphans_carriers (s : State) (c : Carrier) :
    s.evalOrphans.carriers[c] = { s.carriers[c] with orphan := s.orphanCondition c } := by
  refine forAll_once (P := fun t => t.carriers[c] = s.carriers[c] ∧ t.orphanCondition c = s.orphanCondition c)
    (Q := fun t => t.carriers[c] = { s.carriers[c] with orphan := s.orphanCondition c })
    (List.nodup_finRange 16) (List.mem_finRange c) (fun d t hd ht => ?_) (fun t ht => ?_) (fun d t hd ht => ?_) ⟨rfl, rfl⟩
  · rw [evalOrphan_carriers, if_neg hd, evalOrphan_orphanCondition]
    exact ht
  · rw [evalOrphan_carriers, if_pos rfl, ht.1, ht.2]
  · rw [evalOrphan_carriers, if_neg hd]
    exact ht

/-- Where every flag holds its condition, their evaluation changes nothing. -/
theorem evalOrphans_idle {s : State} (h : ∀ c : Carrier, s.orphanCondition c = s.carriers[c].orphan) : s.evalOrphans = s := by
  refine forAll_preserves (fun t => t = s) _ (fun c t ht => ?_) allCarriers s rfl
  subst ht
  exact if_pos (h c)

/-! ## Settling -/

/-- The placements that have left eligibility. -/
def leftEligibility (s0 s1 : State) : List Placement := (changedEligibility s0 s1).filter fun p => !s1.eligible p

/-- The heads on which a placement's eligibility has changed, ascending. -/
def changedHeads (s0 s1 : State) : List Head := allHeads.filter fun h => (changedEligibility s0 s1).any fun p => p.head = h

/-- The state with the placements that have left eligibility. -/
def State.idled (s1 s0 : State) : State := forAll (leftEligibility s0 s1) (fun p t => t.loseEligibility p) s1

theorem settle_eq (s0 s1 : State) :
    settle s0 s1 = (forAll (changedHeads s0 s1) (fun h t => t.requestRecompute h) (s1.idled s0)).evalOrphans := rfl

theorem changedHeads_nodup (s0 s1 : State) : (changedHeads s0 s1).Nodup := (List.nodup_finRange 16).filter _

theorem idled_sansConfig (s1 s0 : State) : (s1.idled s0).sansConfig = s1.sansConfig :=
  forAll_keeps State.sansConfig _ (fun p t => loseEligibility_sansConfig t p) _ _

theorem idled_carriers (s1 s0 : State) : (s1.idled s0).carriers = s1.carriers :=
  forAll_keeps State.carriers _ (fun p t => loseEligibility_carriers t p) _ _

theorem idled_lasting (s1 s0 : State) : (s1.idled s0).placements.map Placement.lasting = s1.placements.map Placement.lasting :=
  forAll_keeps (fun t : State => t.placements.map Placement.lasting) _ (fun p t => by
    rw [loseEligibility_placements, List.map_map]
    exact List.map_congr_left fun q _ => idleAt_lasting _ _ q) _ _

theorem idled_of_left_nil {s1 s0 : State} (h : leftEligibility s0 s1 = []) : s1.idled s0 = s1 := by
  rw [State.idled, h, forAll_nil]

theorem settle_placements (s0 s1 : State) : (settle s0 s1).placements = (s1.idled s0).placements := by
  rw [settle_eq, evalOrphans_placements, requestAll_eq]

theorem settle_power (s0 s1 : State) (h : Head) :
    (settle s0 s1).power[h] =
      if h ∈ changedHeads s0 s1 then (s1.idled s0).power[h].requested ((s1.idled s0).snapshot h) else (s1.idled s0).power[h] := by
  rw [settle_eq, evalOrphans_power, requestAll_power (changedHeads_nodup s0 s1)]

/-- The state whose orphan flags are evaluated at the end. -/
theorem settle_orphanCondition (s0 s1 : State) (c : Carrier) : (settle s0 s1).orphanCondition c = s1.orphanCondition c := by
  have frame := idled_sansConfig s1 s0
  rw [settle_eq, evalOrphans_orphanCondition, requestAll_eq]
  exact orphanCondition_congr (congrArg (fun v : Vector CarrierRecord 16 => v[c].active) (idled_carriers s1 s0))
    (congrArg State.links frame :) (congrArg State.mode frame :) (congrArg State.heads frame :) (idled_lasting s1 s0)

/-- Settling changes of a carrier its orphan flag alone. -/
theorem settle_carriers (s0 s1 : State) (c : Carrier) :
    (settle s0 s1).carriers[c] = { s1.carriers[c] with orphan := s1.orphanCondition c } := by
  have condition := settle_orphanCondition s0 s1 c
  rw [settle_eq, evalOrphans_orphanCondition] at condition
  rw [settle_eq, evalOrphans_carriers, condition, requestAll_eq]
  exact congrArg (fun v : Vector CarrierRecord 16 => { v[c] with orphan := s1.orphanCondition c }) (idled_carriers s1 s0)

/-! ## Handing on -/

section
variable {raises clears : AlarmKind → Subject → Prop}

theorem requestRecompute_handsOn (s : State) (h : Head) : s.handsOn raises clears (s.requestRecompute h) := by
  rw [requestRecompute_eq]
  exact handsOn_silent rfl rfl rfl fun _ => rfl

theorem requestOnce_handsOn (s s0 : State) (h : Head) : s.handsOn raises clears (s.requestOnce s0 h) := by
  unfold State.requestOnce
  split
  · exact .start
  · exact requestRecompute_handsOn s h

theorem evalOrphans_handsOn (s : State) : s.handsOn raises clears s.evalOrphans :=
  handsOn_forAll (fun c _ _ => .orphan .start c) s

theorem loseEligibility_handsOn (s : State) (p : Placement)
    (hc : p.outcome = .starved → clears .carrierStarved (.carrierHead p.carrier p.head)) :
    s.handsOn raises clears (s.loseEligibility p) := by
  unfold State.loseEligibility
  extract_lets t
  have marked : s.handsOn raises clears t := handsOn_silent rfl rfl rfl fun _ => rfl
  split
  · next e => exact .clear marked _ _ none (hc e)
  · exact marked

theorem settle_handsOn (s0 s1 : State)
    (hc : ∀ p ∈ leftEligibility s0 s1, p.outcome = .starved → clears .carrierStarved (.carrierHead p.carrier p.head)) :
    s1.handsOn raises clears (settle s0 s1) :=
  handsOn_trans (handsOn_forAll (fun p hp t => loseEligibility_handsOn t p (hc p hp)) s1) <|
    handsOn_trans (handsOn_forAll (fun h _ t => requestRecompute_handsOn t h) _) (evalOrphans_handsOn _)

end

/-! ## Requests of one event that collapse -/

theorem requestOnce_power (s s0 : State) (g h : Head) :
    (s.requestOnce s0 h).power[g] =
      if g = h then
        if s0.power[h].running = none ∧ s.power[h].running = some (s.snapshot h) then s.power[h]
        else s.power[h].requested (s.snapshot h)
      else s.power[g] := by
  have cond : (s0.power[h].running.isNone && decide (s.power[h].running = some (s.snapshot h))) = true ↔
      s0.power[h].running = none ∧ s.power[h].running = some (s.snapshot h) := by
    rw [Bool.and_eq_true, Option.isNone_iff_eq_none, decide_eq_true_eq]
  unfold State.requestOnce
  by_cases c : s0.power[h].running = none ∧ s.power[h].running = some (s.snapshot h)
  · rw [if_pos (cond.2 c), if_pos c]
    split
    · next e => rw [e]
    · rfl
  · rw [if_neg (mt cond.1 c), if_neg c, requestRecompute_power]

theorem requestOnce_snapshot (s s0 : State) (g h : Head) : (s.requestOnce s0 h).snapshot g = s.snapshot g := by
  unfold State.requestOnce
  split
  · rfl
  · exact requestRecompute_snapshot s h g

/-- A further request of an event leaves a head as the first one does (R48, R51). -/
theorem requestOnce_power_same {s s0 : State} {h : Head}
    (e : s.power[h] = s0.power[h] ∨ s.power[h] = s0.power[h].requested (s.snapshot h)) :
    (s.requestOnce s0 h).power[h] = s0.power[h].requested (s.snapshot h) := by
  rw [requestOnce_power, if_pos rfl]
  cases hr : s0.power[h].running with
  | none =>
    obtain e | e := e
    · rw [if_neg, e]
      rw [e, hr]
      exact fun h => by cases h.2
    · rw [if_pos, e]
      rw [e, requested_of_idle hr]
      exact ⟨rfl, rfl⟩
  | some x =>
    rw [if_neg fun h => by cases h.1]
    have running : s0.power[h].running.isSome = true := by rw [hr]; rfl
    obtain e | e := e
    · rw [e]
    · rw [e, requested_of_running running, requested_of_running (by exact running)]

end Sys2Proof.Machine
end

section
/-! PROOF of O36: START and HOLD. -/

namespace Sys2Proof.Machine

open Sys2Proof

/-! ## A change of mode -/

/-- The state in which every head is asked for a recompute after the change of mode has settled. -/
theorem changeMode_eq (s : State) (m : Mode) :
    s.changeMode m = (forAll allHeads (fun h t => t.requestOnce s h) (settle s (s.setMode m))).breakRun := rfl

theorem carriers_of_sansPower {s t : State} (h : t.sansPower = s.sansPower) : t.carriers = s.carriers :=
  (congrArg State.carriers h :)

theorem placements_of_sansPower {s t : State} (h : t.sansPower = s.sansPower) : t.placements = s.placements :=
  (congrArg State.placements h :)

theorem mode_of_sansConfig {s t : State} (h : t.sansConfig = s.sansConfig) : t.mode = s.mode := (congrArg State.mode h :)
theorem heads_of_sansConfig {s t : State} (h : t.sansConfig = s.sansConfig) : t.heads = s.heads := (congrArg State.heads h :)
theorem links_of_sansConfig {s t : State} (h : t.sansConfig = s.sansConfig) : t.links = s.links := (congrArg State.links h :)

theorem weights_of_sansConfig {s t : State} (h : t.sansConfig = s.sansConfig) : t.weights = s.weights :=
  (congrArg State.weights h :)

theorem requestOnceAll_sansPower (l : List Head) (s0 s : State) :
    (forAll l (fun h t => t.requestOnce s0 h) s).sansPower = s.sansPower :=
  forAll_keeps State.sansPower _ (fun h t => requestOnce_sansPower t s0 h) l s

theorem breakRun_sansConfig {s t : State} (h : t.sansConfig = s.sansConfig) : t.breakRun.sansConfig = s.breakRun.sansConfig :=
  congrArg (fun x : State => { x with load := { x.load with runWhole := false } }) h

theorem changeMode_sansConfig (s : State) (m : Mode) : (s.changeMode m).sansConfig = ((s.setMode m).breakRun).sansConfig :=
  breakRun_sansConfig ((sansConfig_of_sansPower (requestOnceAll_sansPower allHeads s _)).trans (settle_sansConfig s (s.setMode m)))

theorem changeMode_carriers (s : State) (m : Mode) (c : Carrier) :
    (s.changeMode m).carriers[c] = { s.carriers[c] with orphan := (s.setMode m).orphanCondition c } := by
  rw [changeMode_eq, State.breakRun, State.setLoad_carriers, carriers_of_sansPower (requestOnceAll_sansPower _ _ _),
    settle_carriers, State.setMode_carriers]

theorem changeMode_placements (s : State) (m : Mode) : (s.changeMode m).placements = ((s.setMode m).idled s).placements := by
  rw [changeMode_eq, State.breakRun, State.setLoad_placements, placements_of_sansPower (requestOnceAll_sansPower _ _ _),
    settle_placements]

theorem changeMode_handsOn (s : State) (m : Mode) :
    s.handsOn (fun _ _ => False) (fun k _ => k = .carrierStarved) (s.changeMode m) := by
  have set : s.handsOn (fun _ _ => False) (fun k _ => k = .carrierStarved) (s.setMode m) := handsOn_silent rfl rfl rfl fun _ => rfl
  have settled := handsOn_trans set (settle_handsOn s (s.setMode m) fun _ _ _ => rfl)
  have asked := handsOn_trans settled (handsOn_forAll (l := allHeads) (fun h _ t => requestOnce_handsOn t s h) _)
  exact .silent asked rfl rfl rfl fun _ => rfl

theorem changeMode_orphansReported (s : State) (m : Mode) (h : s.log.sound) : s.orphansReported (s.changeMode m) :=
  handsOn_orphansReported (changeMode_handsOn s m) h (fun _ => id) (fun _ e => by cases e)

/-! ## START -/

theorem eligible_of_mode {s : State} (h : s.mode ≠ .run) (p : Placement) : s.eligible p = false := by
  unfold State.eligible State.downlinkState
  split
  · rfl
  · rfl

/-- No placement leaves eligibility where none was eligible. -/
theorem leftEligibility_of_none {s t : State} (h : ∀ p, s.eligible p = false) : leftEligibility s t = [] := by
  rw [leftEligibility, List.filter_eq_nil_iff]
  intro p hp left
  obtain ⟨-, changed⟩ := List.mem_filter.1 hp
  rw [Bool.not_eq_true'] at left
  cases hq : s.placement p.head p.carrier with
  | none => rw [hq] at changed; cases changed
  | some q => rw [hq] at changed; simp [h, left] at changed

/-- With START every head is asked for a recompute that works on the state in RUN (R195). -/
theorem changeMode_start_power {s : State} (h : s.mode = .hold) (g : Head) :
    (s.changeMode .run).power[g] = s.power[g].requested ((s.setMode .run).snapshot g) := by
  let r := s.setMode .run
  have left : leftEligibility s r = [] := leftEligibility_of_none fun p => eligible_of_mode (by rw [h]; decide) p
  have settled := settle_power s r g
  have snapshot : (settle s r).snapshot g = r.snapshot g := by
    have frame := settle_sansConfig s r
    refine snapshot_congr ⟨?_, mode_of_sansConfig frame, heads_of_sansConfig frame, links_of_sansConfig frame,
      fun c => ?_, weights_of_sansConfig frame, ?_⟩
    · rw [settle_placements, idled_of_left_nil left]
    · rw [settle_carriers]
    · rw [settled, idled_of_left_nil left]
      split
      · rw [requested_nominal]
      · rfl
  rw [idled_of_left_nil left] at settled
  rw [changeMode_eq, State.breakRun, State.setLoad_power]
  refine forAll_once (P := fun t => (t.power[g] = s.power[g] ∨ t.power[g] = s.power[g].requested (r.snapshot g)) ∧
      t.snapshot g = r.snapshot g) (Q := fun t => t.power[g] = s.power[g].requested (r.snapshot g))
    (List.nodup_finRange 16) (List.mem_finRange g) (fun d t hd ht => ?_) (fun t ht => ?_) (fun d t hd ht => ?_) ⟨?_, snapshot⟩
  · rw [requestOnce_power, if_neg hd.symm, requestOnce_snapshot]
    exact ht
  · rw [requestOnce_power_same (by rw [ht.2]; exact ht.1), ht.2]
  · rw [requestOnce_power, if_neg hd.symm]
    exact ht
  · rw [settled]
    split
    · exact .inr rfl
    · exact .inl rfl

/-! ## HOLD -/

theorem orphanCondition_of_mode {s : State} (h : s.mode ≠ .run) (c : Carrier) : s.orphanCondition c = false := by
  simp [State.orphanCondition, h]

/-- Where each head and carrier has one placement, those that leave eligibility are found by their head and carrier. -/
theorem mem_leftEligibility {s t : State} (e : t.placements = s.placements)
    (h : (s.placements.map fun q => (q.head, q.carrier)).Nodup) (none : ∀ p, t.eligible p = false) {p : Placement} :
    p ∈ leftEligibility s t ↔ p ∈ s.placements ∧ s.eligible p = true := by
  simp only [leftEligibility, changedEligibility, List.mem_filter, none, e]
  constructor
  · rintro ⟨⟨hp, changed⟩, -⟩
    rw [placement_of_mem h hp] at changed
    simpa using And.intro hp changed
  · rintro ⟨hp, he⟩
    refine ⟨⟨hp, ?_⟩, rfl⟩
    rw [placement_of_mem h hp]
    simp [he]

/-- Placements that leave eligibility one by one. -/
theorem loseAll_placements (l : List Placement) (s : State) :
    (forAll l (fun p t => t.loseEligibility p) s).placements =
      s.placements.map fun q => if l.any (fun p => decide (q.head = p.head ∧ q.carrier = p.carrier)) then q.idle else q := by
  induction l generalizing s with
  | nil => simp
  | cons p l ih =>
    rw [forAll_cons, ih, loseEligibility_placements, List.map_map]
    refine List.map_congr_left fun q _ => ?_
    by_cases hp : q.head = p.head ∧ q.carrier = p.carrier
    · simp only [Function.comp, Placement.idleAt, if_pos hp, List.any_cons, decide_eq_true hp, Bool.true_or, if_true]
      split <;> rfl
    · simp only [Function.comp, Placement.idleAt, if_neg hp, List.any_cons, decide_eq_false hp, Bool.false_or]

/-- With HOLD every placement that took part in a division leaves it (R31, R195). -/
theorem changeMode_hold_placements {s : State} (h : (s.placements.map fun q => (q.head, q.carrier)).Nodup) :
    (s.changeMode .hold).placements = s.placements.map fun q => if s.eligible q then q.idle else q := by
  have none : ∀ p, (s.setMode .hold).eligible p = false := fun p => eligible_of_mode (show Mode.hold ≠ .run by decide) p
  rw [changeMode_placements, State.idled, loseAll_placements]
  refine List.map_congr_left fun q hq => ?_
  have same : ((leftEligibility s (s.setMode .hold)).any fun p => decide (q.head = p.head ∧ q.carrier = p.carrier)) =
      s.eligible q := by
    rw [Bool.eq_iff_iff, List.any_eq_true]
    constructor
    · rintro ⟨p, hp, key⟩
      obtain ⟨hp, eligible⟩ := (mem_leftEligibility (s := s) (t := s.setMode .hold) rfl h none).1 hp
      rw [decide_eq_true_eq] at key
      have : q = p := List.inj_on_of_nodup_map h hq hp (by rw [key.1, key.2])
      exact this ▸ eligible
    · intro eligible
      exact ⟨q, (mem_leftEligibility (s := s) (t := s.setMode .hold) rfl h none).2 ⟨hq, eligible⟩, by simp⟩
  rw [same]

theorem withdrawWritable_running (s : State) (h g : Head) (c : Carrier) :
    (s.withdrawWritable h c).power[g].running.isSome = s.power[g].running.isSome := by
  rw [State.withdrawWritable, modPower_power]
  split
  · next e => rw [e, Option.isSome_map]
  · rfl

theorem settle_running (s0 s1 : State) (g : Head) (h : s1.power[g].running.isSome = true) :
    (settle s0 s1).power[g].running.isSome = true := by
  have idled : (s1.idled s0).power[g].running.isSome = s1.power[g].running.isSome :=
    forAll_keeps (fun t : State => t.power[g].running.isSome) _ (fun p t => by
      rw [loseEligibility_power]
      exact withdrawWritable_running t p.head g p.carrier) _ s1
  rw [settle_power]
  split
  · exact requested_running_isSome _ _
  · rw [idled, h]

/-- A change of mode asks every head for a recompute (R195). -/
theorem changeMode_power (s : State) (m : Mode) (g : Head) :
    (s.changeMode m).power[g].running.isSome = true ∧
      (s.power[g].running.isSome = true → (s.changeMode m).power[g].again = true) := by
  rw [changeMode_eq, State.breakRun, State.setLoad_power]
  refine forAll_once (P := fun t => s.power[g].running.isSome = true → t.power[g].running.isSome = true)
    (Q := fun t => t.power[g].running.isSome = true ∧ (s.power[g].running.isSome = true → t.power[g].again = true))
    (List.nodup_finRange 16) (List.mem_finRange g) (fun d t hd ht => ?_) (fun t ht => ?_) (fun d t hd ht => ?_)
    (settle_running s (s.setMode m) g)
  · rwa [requestOnce_power, if_neg hd.symm]
  · rw [requestOnce_power, if_pos rfl]
    split
    · next e =>
      rw [e.1, e.2]
      exact ⟨rfl, nofun⟩
    · exact ⟨requested_running_isSome _ _, fun h => requested_again (ht h)⟩
  · rwa [requestOnce_power, if_neg hd.symm]

/-! ## The two requests -/

/-- A request of MP that changes the mode, on a ready port. -/
theorem request_changeMode {s : State} {r : Request} {m : Mode} (h : s.ready Port.mp 1 = true) (hr : r.direct)
    (ht : r.type < 128) (hs : carryOut Port.mp r (s.taken Port.mp r) = ((s.taken Port.mp r).changeMode m, .reply .ok [])) :
    ∃ t, s.request Port.mp r = t ∧
      t = { s with mode := m, carriers := t.carriers, placements := t.placements, power := t.power, log := t.log
                   ports := t.ports, load := { s.load with runWhole := false } } ∧
      t.carriers = ((s.taken Port.mp r).changeMode m).carriers ∧
      t.placements = ((s.taken Port.mp r).changeMode m).placements ∧
      t.power = ((s.taken Port.mp r).changeMode m).power ∧
      (s.log.sound → s.orphansReported t) ∧
      t.ports[Port.mp] = s.ports[Port.mp].sent [replyTo r.type .ok []] := by
  have one := replyMessages_reply ht .ok (contents := []) (by simp)
  have mp := (handsOn_messaged (changeMode_handsOn (s.taken Port.mp r) m)).mp
  have request := request_direct s ((s.taken Port.mp r).changeMode m) Port.mp r (.reply .ok []) (by rwa [one]) hr.sound hr.ungranted
    hr.carried hs mp nofun
  have frame := eq_of_sansConfig (changeMode_sansConfig (s.taken Port.mp r) m)
  have reported := changeMode_orphansReported (s.taken Port.mp r) m
  rw [one] at request
  generalize (s.taken Port.mp r).changeMode m = u at request frame reported mp
  refine ⟨_, request, ?_, rfl, rfl, rfl, reported, ?_⟩
  · conv_lhs => rw [frame]
    rfl
  · dsimp only
    rw [get_set, if_pos rfl]

theorem start_notRunning {u : State} (h : u.mode ≠ .hold) : carryOut Port.mp .start u = (u, refusal .notRunning) := by
  change serveStart Port.mp u = _
  rw [serveStart, if_neg (by simp), if_neg h]

theorem start_runs {u : State} (h : u.mode = .hold) : carryOut Port.mp .start u = (u.changeMode .run, .reply .ok []) := by
  change serveStart Port.mp u = _
  rw [serveStart, if_neg (by simp), if_pos h]

theorem hold_notRunning {u : State} (h : u.mode ≠ .run) : carryOut Port.mp .hold u = (u, refusal .notRunning) := by
  change serveHold Port.mp u = _
  rw [serveHold, if_neg (by simp), if_neg h]

theorem hold_holds {u : State} (h : u.mode = .run) : carryOut Port.mp .hold u = (u.changeMode .hold, .reply .ok []) := by
  change serveHold Port.mp u = _
  rw [serveHold, if_neg (by simp), if_pos h]

/-- Settles O36: a change of mode settles eligibility and orphan flags and asks every head for a recompute. -/
theorem startAndHoldChangeTheMode : Obligations.StartAndHoldChangeTheMode := by
  unfold Obligations.StartAndHoldChangeTheMode
  intro s h
  have start : Request.start.direct := ⟨rfl, rfl, rfl⟩
  have hold : Request.hold.direct := ⟨rfl, rfl, rfl⟩
  constructor
  · intro hm
    constructor
    · obtain ⟨t, e, frame, carriers, placements, power, reported, mp⟩ :=
        request_changeMode h start (by decide) (start_runs (u := s.taken Port.mp .start) hm)
      have kept : t.placements = s.placements := by
        rw [placements, changeMode_placements, idled_of_left_nil (leftEligibility_of_none fun p => eligible_of_mode
          (show (s.taken Port.mp .start).mode ≠ .run by rw [show (s.taken Port.mp .start).mode = s.mode from rfl, hm]; decide) p)]
        rfl
      have carrier : ∀ c : Carrier, t.carriers[c] =
          { s.carriers[c] with orphan := ((s.taken Port.mp .start).setMode .run).orphanCondition c } := fun c => by
        rw [carriers, changeMode_carriers]
        rfl
      have asked : ∀ g : Head, t.power[g] = s.power[g].requested (((s.taken Port.mp .start).setMode .run).snapshot g) := fun g => by
        rw [power]
        exact changeMode_start_power (s := s.taken Port.mp .start) hm g
      have mode : t.mode = .run := (congrArg State.mode frame :)
      have heads : t.heads = s.heads := (congrArg State.heads frame :)
      have links : t.links = s.links := (congrArg State.links frame :)
      have weights : t.weights = s.weights := (congrArg State.weights frame :)
      refine ⟨t, congrArg Host.Outcome.next e, ?_, fun g => ?_, fun c => ?_, reported, mp⟩
      · rw [kept] at frame
        exact frame
      · refine askedFor_of_requested (asked g) (takenOf_congr (s := (s.taken Port.mp .start).setMode .run) (t := t)
          ⟨kept, mode, heads, links, fun c => ?_, weights, ?_⟩ (snapshot_takenOf _ g))
        · rw [carrier]
          rfl
        · rw [asked, requested_nominal]
          rfl
      · rw [carrier, orphanCondition_congr (s := (s.taken Port.mp .start).setMode .run) (t := t) ?_ links mode heads (by rw [kept]; rfl)]
        rw [carrier]
        rfl
    · exact congrArg Host.Outcome.next (request_unchanged_reply h hold (by decide) (by decide)
        (hold_notRunning (show (s.taken Port.mp .hold).mode ≠ .run by
          rw [show (s.taken Port.mp .hold).mode = s.mode from rfl, hm]; decide)))
  · intro hm
    constructor
    · obtain ⟨t, e, frame, carriers, placements, power, reported, mp⟩ :=
        request_changeMode h hold (by decide) (hold_holds (u := s.taken Port.mp .hold) hm)
      refine ⟨t, congrArg Host.Outcome.next e, frame, fun g => ?_, fun c => ?_, reported, fun nodup => ?_, mp⟩
      · rw [power]
        exact changeMode_power (s.taken Port.mp .hold) .hold g
      · rw [carriers, changeMode_carriers, orphanCondition_of_mode (show Mode.hold ≠ .run by decide)]
        rfl
      · rw [placements]
        exact changeMode_hold_placements (s := s.taken Port.mp .hold) nodup
    · exact congrArg Host.Outcome.next (request_unchanged_reply h start (by decide) (by decide)
        (start_notRunning (show (s.taken Port.mp .start).mode ≠ .hold by
          rw [show (s.taken Port.mp .start).mode = s.mode from rfl, hm]; decide)))

end Sys2Proof.Machine
end

section
/-! PROOF of O43: OPERATOR_LINK_UP. -/

namespace Sys2Proof.Machine

open Sys2Proof

/-! ## Messages to one operator, one after another -/

def State.sendAll (s : State) (l : Link) (ms : List Message) : State :=
  forAll ms (fun m t => t.sendUnsolicited (Port.ofLink l) m) s

theorem sendAll_append (s : State) (l : Link) (ms ns : List Message) : s.sendAll l (ms ++ ns) = (s.sendAll l ms).sendAll l ns :=
  List.foldl_append

theorem sendAll_sansLog (s : State) (l : Link) (ms : List Message) : (s.sendAll l ms).sansLog = s.sansLog :=
  forAll_keeps State.sansLog _ (fun m t => sendUnsolicited_sansLog t _ m) ms s

theorem sendAll_log (s : State) (l : Link) (ms : List Message) : (s.sendAll l ms).log = s.log :=
  forAll_keeps State.log _ (fun m t => sendUnsolicited_log t _ m) ms s

theorem sendAll_messaged (s : State) (l : Link) (ms : List Message) : s.messaged (s.sendAll l ms) :=
  forAll_preserves (fun t => s.messaged t) _ (fun m t ht => messaged_trans ht (sendUnsolicited_messaged t l m)) ms s
    (messaged_of_ports rfl)

/-- Messages that an open port has room for all join its outgoing queue. -/
theorem sendAll_outgoing {s : State} {l : Link} {ms : List Message} (opened : s.portOpen (Port.ofLink l) = true)
    (room : s.ports[Port.ofLink l].outgoing.length + ms.length ≤ 16) :
    (s.sendAll l ms).ports[Port.ofLink l].outgoing = s.ports[Port.ofLink l].outgoing ++ ms := by
  induction ms generalizing s with
  | nil => simp [State.sendAll]
  | cons m ms ih =>
    rw [List.length_cons] at room
    have one : s.room (Port.ofLink l) 1 = true := decide_eq_true (show _ + 1 ≤ 16 by omega)
    have sent : s.sendUnsolicited (Port.ofLink l) m = s.enqueue (Port.ofLink l) [m] := if_pos (by rw [opened, one]; rfl)
    have port : (s.sendUnsolicited (Port.ofLink l) m).ports[Port.ofLink l].outgoing = s.ports[Port.ofLink l].outgoing ++ [m] := by
      rw [sent, enqueue_port, if_pos rfl]
      rfl
    change ((s.sendUnsolicited (Port.ofLink l) m).sendAll l ms).ports[Port.ofLink l].outgoing = _
    rw [ih (by rw [sent]; exact opened) (by rw [port, List.length_append]; simp only [List.length_singleton]; omega), port,
      List.append_assoc]
    rfl

/-! ## What a link that comes UP is told (R181) -/

def State.offersTo (s : State) (l : Link) : List Message :=
  match s.pendingPlan with
  | none => []
  | some (k, o) =>
    match s.plans.slots[k] with
    | .consent _ _ _ => if l ∈ o.affected ∧ o.answers[l] = .none then [offerMessage o.number k] else []
    | _ => []

def State.mailsTo (s : State) (l : Link) : List Message := s.inboxes[Port.ofLink l].toList.map mailMessage

def State.attentionsTo (s : State) (l : Link) : List Message :=
  if s.log.composite (Port.ofLink l) = true then [attentionMessage s.log (Port.ofLink l)] else []

theorem offersTo_congr {s t : State} (h : t.plans = s.plans) (l : Link) : t.offersTo l = s.offersTo l := by
  unfold State.offersTo State.pendingPlan
  rw [h]

theorem mailsTo_congr {s t : State} (h : t.inboxes = s.inboxes) (l : Link) : t.mailsTo l = s.mailsTo l := by
  unfold State.mailsTo
  rw [h]

theorem attentionsTo_congr {s t : State} (h : t.log = s.log) (l : Link) : t.attentionsTo l = s.attentionsTo l := by
  unfold State.attentionsTo
  rw [h]

theorem offersTo_length_le (s : State) (l : Link) : (s.offersTo l).length ≤ 1 := by
  unfold State.offersTo
  split
  · exact Nat.zero_le _
  · split
    · split <;> simp
    · exact Nat.zero_le _

theorem mailsTo_length_le (s : State) (l : Link) : (s.mailsTo l).length ≤ 1 := by
  rw [State.mailsTo, List.length_map]
  cases s.inboxes[Port.ofLink l] <;> simp

theorem attentionsTo_length_le (s : State) (l : Link) : (s.attentionsTo l).length ≤ 1 := by
  unfold State.attentionsTo
  split <;> simp

theorem offersTo_consent {s : State} {k : SlotIndex} {o : Offer} (l : Link) (h : s.pendingPlan = some (k, o))
    {map : SectorMap} {x : Offer} {n : Nat} (slot : s.plans.slots[k] = .consent map x n) :
    s.offersTo l = if l ∈ o.affected ∧ o.answers[l] = .none then [offerMessage o.number k] else [] := by
  rw [State.offersTo, h]
  dsimp only
  rw [slot]

theorem offersTo_commitWait {s : State} {k : SlotIndex} {o : Offer} (l : Link) (h : s.pendingPlan = some (k, o))
    {map : SectorMap} {x : Offer} (slot : s.plans.slots[k] = .commitWait map x) : s.offersTo l = [] := by
  rw [State.offersTo, h]
  dsimp only
  rw [slot]

theorem offersTo_none {s : State} (l : Link) (h : s.pendingPlan = none) : s.offersTo l = [] := by
  rw [State.offersTo, h]

theorem reoffer_eq (s : State) (l : Link) : s.reoffer l = s.sendAll l (s.offersTo l) := by
  unfold State.reoffer State.offersTo
  cases s.pendingPlan with
  | none => rfl
  | some y =>
    dsimp only
    cases s.plans.slots[y.1] with
    | consent map o n =>
      have cond : (y.2.affected.contains l && decide (y.2.answers[l] = .none)) = true ↔
          l ∈ y.2.affected ∧ y.2.answers[l] = .none := by
        rw [Bool.and_eq_true, List.contains_iff_mem, decide_eq_true_eq]
      by_cases c : l ∈ y.2.affected ∧ y.2.answers[l] = .none
      · simp only [if_pos c, if_pos (cond.2 c)]
        rfl
      · simp only [if_neg c, if_neg (mt cond.1 c)]
        rfl
    | _ => rfl

theorem remail_eq (s : State) (l : Link) : s.remail l = s.sendAll l (s.mailsTo l) := by
  unfold State.remail State.mailsTo
  cases s.inboxes[Port.ofLink l] <;> rfl

theorem reattend_eq (s : State) (l : Link) : s.reattend l = s.sendAll l (s.attentionsTo l) := by
  unfold State.reattend State.attentionsTo
  split <;> rfl

/-! ## Coming UP -/

theorem plans_of_sansConfig {s t : State} (h : t.sansConfig = s.sansConfig) : t.plans = s.plans := (congrArg State.plans h :)
theorem inboxes_of_sansConfig {s t : State} (h : t.sansConfig = s.sansConfig) : t.inboxes = s.inboxes :=
  (congrArg State.inboxes h :)

/-- A link's interface holds lock and alignment. -/
def State.linked (s : State) (l : Link) : State := s.modLink l fun x => { x with up := true }

/-- A link that comes UP, before its messages. -/
def State.joined (s : State) (l : Link) : State :=
  ((settle s (s.linked l)).breakLink l).clear .operatorLinkLost (.link l) (quiet := some l)

theorem linkCameUp_eq (s : State) (l : Link) :
    s.linkCameUp l =
      (s.joined l).sendAll l ((s.joined l).offersTo l ++ (s.joined l).mailsTo l ++ (s.joined l).attentionsTo l) := by
  change (((s.joined l).reoffer l).remail l).reattend l = _
  generalize s.joined l = u
  have mails : (u.sendAll l (u.offersTo l)).mailsTo l = u.mailsTo l :=
    mailsTo_congr (congrArg State.inboxes (sendAll_sansLog u l (u.offersTo l)) :) l
  have attentions : ((u.sendAll l (u.offersTo l)).sendAll l (u.mailsTo l)).attentionsTo l = u.attentionsTo l :=
    attentionsTo_congr (by rw [sendAll_log, sendAll_log]) l
  rw [reattend_eq, remail_eq, reoffer_eq, mails, attentions, sendAll_append, sendAll_append]

theorem breakLink_handsOn {raises clears : AlarmKind → Subject → Prop} (s : State) (l : Link) :
    s.handsOn raises clears (s.breakLink l) := handsOn_silent rfl rfl rfl fun _ => rfl

theorem breakLink_sansConfig {s t : State} (h : t.sansConfig = s.sansConfig) (l : Link) :
    (t.breakLink l).sansConfig = (s.breakLink l).sansConfig :=
  congrArg (fun x : State => x.breakLink l) h

/-- Before OPERATOR_LINK_LOST is cleared, a link that comes UP has nothing but CARRIER_STARVED cleared. -/
theorem settled_handsOn (s : State) (l : Link) :
    (s.linked l).handsOn (fun _ _ => False) (fun k _ => k = .carrierStarved) ((settle s (s.linked l)).breakLink l) :=
  handsOn_trans (settle_handsOn s (s.linked l) fun _ _ _ => rfl) (breakLink_handsOn _ l)

theorem joined_handsOn (s : State) (l : Link) :
    (s.linked l).handsOn (fun _ _ => False) (fun k _ => k = .carrierStarved ∨ k = .operatorLinkLost) (s.joined l) := by
  have before := handsOn_mono (settled_handsOn s l) (fun _ _ => id)
    (clears' := fun k _ => k = .carrierStarved ∨ k = .operatorLinkLost) (fun _ _ => .inl)
  exact .clear before _ _ _ (.inr rfl)

theorem joined_sansConfig (s : State) (l : Link) : (s.joined l).sansConfig = ((s.linked l).breakLink l).sansConfig := by
  rw [State.joined, sansConfig_of_sansPower (sansPower_of_sansLog (clear_sansLog _ _ _ _))]
  exact breakLink_sansConfig (settle_sansConfig s (s.linked l)) l

theorem joined_carriers (s : State) (l : Link) (c : Carrier) :
    (s.joined l).carriers[c] = { s.carriers[c] with orphan := (s.joined l).orphanCondition c } := by
  have frame := joined_sansConfig s l
  have record : (s.joined l).carriers[c] = { s.carriers[c] with orphan := (s.linked l).orphanCondition c } := by
    rw [State.joined, clear_carriers, State.breakLink, State.setLoad_carriers, settle_carriers]
    rfl
  have placed : (s.joined l).placements.map Placement.lasting = s.placements.map Placement.lasting := by
    rw [State.joined, clear_placements, State.breakLink, State.setLoad_placements, settle_placements, idled_lasting]
    rfl
  have condition : (s.joined l).orphanCondition c = (s.linked l).orphanCondition c :=
    orphanCondition_congr (by rw [record]; rfl) (links_of_sansConfig frame :) (mode_of_sansConfig frame :)
      (heads_of_sansConfig frame :) placed
  rw [record, condition]

/-- An ACTIVE OPERATOR_LINK_LOST is cleared (R166, R181). -/
theorem joined_cleared {s : State} {l : Link} {i : Fin 64} {r : AlarmRecord}
    (h : s.log.find .operatorLinkLost (.link l) = some (i, r)) (active : r.active = true) :
    ∃ q, (s.joined l).log.slots[i] = some q ∧ q.kind = .operatorLinkLost ∧ q.clearFrame = some s.timing.frame := by
  have handed := settled_handsOn s l
  have now := handsOn_timing handed
  obtain ⟨kept, sub⟩ := handsOn_spares handed (k := .operatorLinkLost) (x := .link l) (by decide) id (by decide)
  obtain ⟨hi, about⟩ := find_some h
  have found := find_of_subset h (kept i r hi about active) sub
  rw [State.joined]
  generalize (settle s (s.linked l)).breakLink l = w at found now
  obtain ⟨-, other⟩ | ⟨j, x, q, hj, ⟨kind, -⟩, -, frame, slots, -⟩ := clear_log w .operatorLinkLost (.link l) (some l)
  · obtain quiet | event := other i r found
    · rw [active] at quiet; cases quiet
    · rw [about.1] at event; cases event
  · rw [found] at hj
    cases hj
    exact ⟨q, by rw [slots, if_pos rfl], kind, by rw [frame, now]; rfl⟩

/-! ## Where no orphan flag changes -/

theorem linked_linkUp (s : State) (l m : Link) : (s.linked l).linkUp m = (decide (l = m) || s.linkUp m) := by
  unfold State.linked State.linkUp State.modLink
  rw [get_set]
  by_cases h : l = m
  · simp [h]
  · simp [h]

/-- A placement that is eligible stays so when a link comes UP. -/
theorem linked_eligible {s : State} {l : Link} {p : Placement} (h : s.eligible p = true) : (s.linked l).eligible p = true := by
  unfold State.eligible State.downlinkState at h ⊢
  rw [linked_linkUp]
  split at h
  · cases h
  split at h
  · cases h
  split at h
  · cases h
  split at h
  · cases h
  next included run served up =>
    rw [if_neg included, if_neg (by exact run), if_neg (by exact served), if_neg]
    · exact h
    · rw [Bool.not_eq_true', Bool.not_eq_false] at up
      rw [up, Bool.or_true]
      decide

theorem leftEligibility_linked {s : State} (h : (s.placements.map fun q => (q.head, q.carrier)).Nodup) (l : Link) :
    leftEligibility s (s.linked l) = [] := by
  rw [leftEligibility, List.filter_eq_nil_iff]
  intro p hp left
  obtain ⟨mem, changed⟩ := List.mem_filter.1 hp
  rw [Bool.not_eq_true'] at left
  rw [placement_of_mem h mem] at changed
  cases eligible : s.eligible p with
  | false => simp [eligible, left] at changed
  | true => rw [linked_eligible eligible] at left; cases left

/-- A change of the log that is quiet towards an operator sends it nothing. -/
theorem withLog_quiet_port (s : State) (log : AlarmLog) (l : Link) :
    (s.withLog log (some l)).ports[Port.ofLink l] = s.ports[Port.ofLink l] := by
  unfold State.withLog
  refine forAll_keeps (fun t : State => t.ports[Port.ofLink l]) _ (fun m t => ?_) allLinks _
  dsimp only
  split
  · next c =>
    rw [Bool.and_eq_true, decide_eq_true_eq] at c
    exact sendUnsolicited_port_other t (fun e => c.2 (by rw [Fin.castSucc_injective _ e])) _
  · rfl

theorem clear_quiet_port (s : State) (k : AlarmKind) (x : Subject) (l : Link) :
    (s.clear k x (some l)).ports[Port.ofLink l] = s.ports[Port.ofLink l] := by
  unfold State.clear
  split
  · rfl
  · split
    · exact withLog_quiet_port s _ l
    · rfl

/-- Where no orphan flag changes, a link that comes UP is sent nothing before its messages. -/
theorem joined_port {s : State} {l : Link} (h : (s.placements.map fun q => (q.head, q.carrier)).Nodup)
    (flags : ∀ c : Carrier, s.carriers[c].orphan = (s.linked l).orphanCondition c) :
    (s.joined l).ports[Port.ofLink l] = s.ports[Port.ofLink l] := by
  have settled : (settle s (s.linked l)).ports = s.ports := by
    rw [settle_eq, idled_of_left_nil (leftEligibility_linked h l), requestAll_eq, evalOrphans_idle]
    · rfl
    · exact fun c => (flags c).symm
  rw [State.joined, clear_quiet_port, State.breakLink, State.setLoad_ports, settled]

/-! ## The event -/

theorem exec_operatorLinkUp {s : State} (h : s.mode ≠ .reset) (l : Link) (d : Int) :
    exec (.operatorLinkUp { link := l, offset := d }) s = .next (s.followLink l (some d)) := by
  change execOperatorLinkUp { link := l, offset := d } s = _
  rw [execOperatorLinkUp, headEvent, if_neg h]

/-- The state in which a link's interface has found its frame marker. -/
def State.marked (s : State) (l : Link) (d : Int) : State := s.modLink l fun x => { x with alignment := some d }

theorem marked_fit (s : State) (l : Link) (d : Int) : (s.marked l d).links[l].fit = true ↔ -250 ≤ d ∧ d ≤ 250 := by
  rw [LinkRecord.fit_iff, State.marked, State.modLink, get_set, if_pos rfl]
  simp

theorem followLink_stays {s : State} {l : Link} {d : Int} (h : s.linkUp l = true ↔ -250 ≤ d ∧ d ≤ 250) :
    s.followLink l (some d) = s.marked l d := by
  rw [← marked_fit s] at h
  obtain ⟨-, e⟩ | ⟨down, fit, -⟩ | ⟨up, unfit, -⟩ := followLink_cases s l (some d)
  · exact e
  · rw [h.2 fit] at down; cases down
  · exact absurd ((h.1 up).symm.trans unfit) (by decide)

theorem followLink_comesUp {s : State} {l : Link} {d : Int} (down : s.linkUp l = false) (fit : -250 ≤ d ∧ d ≤ 250) :
    s.followLink l (some d) = (s.marked l d).linkCameUp l := by
  rw [← marked_fit s l] at fit
  obtain ⟨same, -⟩ | ⟨-, -, e⟩ | ⟨up, -, -⟩ := followLink_cases s l (some d)
  · exact absurd (down.symm.trans (same.trans fit)) (by decide)
  · exact e
  · rw [up] at down; cases down

theorem marked_linked (s : State) (l : Link) (d : Int) :
    (s.marked l d).linked l = { s with links := s.links.set l { s.links[l] with up := true, alignment := some d } } := by
  simp [State.marked, State.linked, State.modLink]

/-- A link that comes UP writes what a change of its inputs hands on, and its mark. -/
theorem linkCameUp_eq_of_fields (s : State) (l : Link) :
    let t := s.linkCameUp l
    t = { s.linked l with ports := t.ports, carriers := t.carriers, placements := t.placements, power := t.power, log := t.log
                          load := { s.load with linkWhole := s.load.linkWhole.set l false } } := by
  have frame : (s.linkCameUp l).sansConfig = ((s.linked l).breakLink l).sansConfig := by
    rw [linkCameUp_eq, sansConfig_of_sansPower (sansPower_of_sansLog (sendAll_sansLog _ _ _)), joined_sansConfig]
  have whole := eq_of_sansConfig frame
  generalize s.linkCameUp l = t at whole
  exact whole

theorem linkCameUp_sansLog (s : State) (l : Link) : (s.linkCameUp l).sansLog = (s.joined l).sansLog := by
  rw [linkCameUp_eq, sendAll_sansLog]

theorem linkCameUp_log (s : State) (l : Link) : (s.linkCameUp l).log = (s.joined l).log := by
  rw [linkCameUp_eq, sendAll_log]

theorem linkCameUp_messaged (s : State) (l : Link) : s.messaged (s.linkCameUp l) := by
  rw [linkCameUp_eq]
  refine messaged_trans ?_ (sendAll_messaged _ _ _)
  exact messaged_trans (t := s.linked l) (messaged_of_ports rfl) (handsOn_messaged (joined_handsOn s l))

theorem linkCameUp_carriers (s : State) (l : Link) (c : Carrier) :
    (s.linkCameUp l).carriers[c] = { s.carriers[c] with orphan := (s.linkCameUp l).orphanCondition c } := by
  have same := linkCameUp_sansLog s l
  have joined := joined_carriers s l c
  generalize s.linkCameUp l = t at same
  generalize s.joined l = j at same joined
  have carriers : t.carriers = j.carriers := (congrArg State.carriers same :)
  have condition : t.orphanCondition c = j.orphanCondition c := (congrArg (fun x : State => x.orphanCondition c) same :)
  rw [carriers, condition, joined]

theorem linkCameUp_orphansReported {s : State} (h : s.log.sound) (l : Link) : s.orphansReported (s.linkCameUp l) := by
  have joined := handsOn_orphansReported (joined_handsOn s l) h (fun _ => id) (fun _ => by decide)
  have log := linkCameUp_log s l
  have same : (s.linkCameUp l).carriers = (s.joined l).carriers := carriers_of_sansPower (sansPower_of_sansLog (linkCameUp_sansLog s l))
  unfold State.orphansReported
  rw [log, same]
  exact joined

theorem portOpen_of_up {s : State} {l : Link} (mode : s.mode ≠ .reset) (up : s.linkUp l = true) :
    s.portOpen (Port.ofLink l) = true := by
  rw [State.portOpen, link?_ofLink]
  cases hm : s.mode with
  | reset => exact absurd hm mode
  | hold => exact up
  | run => exact up

/-- Where no orphan flag changes, the empty queue of a link that comes UP takes the messages that wait for it. -/
theorem linkCameUp_outgoing {s : State} {l : Link} (mode : s.mode ≠ .reset)
    (flags : ∀ c : Carrier, s.carriers[c].orphan = (s.linked l).orphanCondition c)
    (empty : s.ports[Port.ofLink l].outgoing = []) (nodup : (s.placements.map fun q => (q.head, q.carrier)).Nodup) :
    (s.linkCameUp l).ports[Port.ofLink l].outgoing = s.offersTo l ++ s.mailsTo l ++ (s.linkCameUp l).attentionsTo l := by
  have frame := joined_sansConfig s l
  have port := joined_port nodup flags
  have opened : (s.joined l).portOpen (Port.ofLink l) = true := by
    refine portOpen_of_up (by rwa [mode_of_sansConfig frame]) ?_
    rw [State.linkUp, links_of_sansConfig frame]
    exact (linked_linkUp s l l).trans (by rw [decide_eq_true rfl, Bool.true_or])
  have plans : (s.joined l).plans = s.plans := (plans_of_sansConfig frame :)
  have inboxes : (s.joined l).inboxes = s.inboxes := (inboxes_of_sansConfig frame :)
  have attentions : (s.linkCameUp l).attentionsTo l = (s.joined l).attentionsTo l := attentionsTo_congr (linkCameUp_log s l) l
  have sent := linkCameUp_eq s l
  rw [offersTo_congr plans, mailsTo_congr inboxes] at sent
  rw [attentions, sent, sendAll_outgoing opened, port, empty, List.nil_append]
  have offers := offersTo_length_le s l
  have mails := mailsTo_length_le s l
  have attention := attentionsTo_length_le (s.joined l) l
  rw [port, empty]
  simp only [List.length_append, List.length_nil]
  omega

/-- Settles O43: a link that comes UP settles eligibility and orphan flags before the messages that wait for it. -/
theorem anOperatorLinkComesUp : Obligations.AnOperatorLinkComesUp := by
  unfold Obligations.AnOperatorLinkComesUp
  intro s l d h fit
  have exec_up := exec_operatorLinkUp h l d
  refine ⟨fun stays => ?_, fun up unfit locked => ?_, fun down fits => ?_⟩
  · rw [exec_up, followLink_stays stays]
    rfl
  · obtain ⟨x, hx⟩ := Option.isSome_iff_exists.1 locked
    change _ = execOperatorLinkDown l (.alignment d) s
    rw [exec_up, execOperatorLinkDown, headEvent, if_neg h]
    dsimp only
    rw [hx]
    rfl
  · rw [followLink_comesUp down fits] at exec_up
    have linked := marked_linked s l d
    have fields := linkCameUp_eq_of_fields (s.marked l d) l
    have ports := linkCameUp_messaged (s.marked l d) l
    have carriers := linkCameUp_carriers (s.marked l d) l
    have reported := linkCameUp_orphansReported (s := s.marked l d) (l := l)
    have log := linkCameUp_log (s.marked l d) l
    have told := linkCameUp_outgoing (s := s.marked l d) (l := l) h
    rw [linked] at fields told
    refine ⟨_, exec_up, fields, fun q => ?_, carriers, reported, fun i r found active => ?_, fun flags empty nodup => ?_⟩
    · obtain ⟨_, e⟩ := ports.grown q
      rw [e]
      exact ⟨rfl, rfl⟩
    · rw [log]
      exact joined_cleared (s := s.marked l d) found active
    · refine ⟨_, _, _, told flags empty nodup, fun k map o n pending consent => ?_, fun none => ?_, fun k map o pending wait => ?_,
        rfl, rfl⟩
      · exact offersTo_consent (s := s.marked l d) l pending consent
      · exact offersTo_none (s := s.marked l d) l none
      · exact offersTo_commitWait (s := s.marked l d) l pending wait

end Sys2Proof.Machine
end

section
/-! SUPPORT. The exclusion of placements just created: the spread test, and the new ones judged one after another. -/

namespace Sys2Proof.Machine

open Sys2Proof

/-! ## The spread test -/

/-- The spread exceeds a limit where two of the delays lie further apart (R35). -/
theorem lt_spread_iff (limit : Nat) (delays : List Nat) :
    limit < spread delays ↔ ∃ d ∈ delays, ∃ e ∈ delays, d + limit < e := by
  cases delays with
  | nil => simp [spread]
  | cons a l =>
    obtain ⟨largest, above⟩ := List.max?_eq_some_iff.1 (List.max?_cons' (x := a) (xs := l))
    obtain ⟨smallest, below⟩ := List.min?_eq_some_iff.1 (List.min?_cons' (x := a) (xs := l))
    rw [spread]
    constructor
    · exact fun h => ⟨_, smallest, _, largest, by omega⟩
    · rintro ⟨d, hd, e, he, lt⟩
      have := above e he
      have := below d hd
      omega

/-- Among heads some of which count, two have known delays more than 1023 du apart. -/
def apart (heads : Vector HeadLink 16) (counts : Head → Prop) : Prop :=
  ∃ g h d e, counts g ∧ counts h ∧ heads[g].delay = some d ∧ heads[h].delay = some e ∧ d + Config.spreadLimit < e

theorem apart_congr {heads : Vector HeadLink 16} {counts counts' : Head → Prop} (h : ∀ g, counts g ↔ counts' g) :
    apart heads counts ↔ apart heads counts' := by
  unfold apart
  simp only [h]

/-- The heads that count where a carrier's delays are compared: one of its own, and those of the placements beside it. -/
def countsAmong (placements : List Placement) (c : Carrier) (g : Head) (counts : Placement → Prop) (h : Head) : Prop :=
  ∃ q ∈ placements, q.carrier = c ∧ q.head = h ∧ (q.head = g ∨ counts q)

theorem delaysApart_iff (heads : Vector HeadLink 16) (placements : List Placement) (p : Placement) (counts : Placement → Prop) :
    delaysApart heads placements p counts ↔ apart heads (countsAmong placements p.carrier p.head counts) := by
  constructor
  · rintro ⟨q, hq, r, hr, qc, rc, qcounts, rcounts, d, e, hd, he, lt⟩
    exact ⟨q.head, r.head, d, e, ⟨q, hq, qc, rfl, qcounts⟩, ⟨r, hr, rc, rfl, rcounts⟩, hd, he, lt⟩
  · rintro ⟨_, _, d, e, ⟨q, hq, qc, rfl, qcounts⟩, ⟨r, hr, rc, rfl, rcounts⟩, hd, he, lt⟩
    exact ⟨q, hq, r, hr, qc, rc, qcounts, rcounts, d, e, hd, he, lt⟩

theorem windowTest_eq_window_iff (s : State) (h : Head) (c : Carrier) :
    s.windowTest h c = .window ↔ apart s.heads (countsAmong s.placements c h fun q => q.exclusion = .none) := by
  have test : s.windowTest h c = .window ↔ Config.spreadLimit < s.spreadWith c h := by
    unfold State.windowTest
    split <;> simp [*]
  have mem : ∀ d, d ∈ ((s.placementsOf c).filter fun p => decide (p.exclusion = .none) || decide (p.head = h)).filterMap
      (fun p => s.heads[p.head].delay) ↔ ∃ g, countsAmong s.placements c h (fun q => q.exclusion = .none) g ∧ s.heads[g].delay = some d := by
    intro d
    simp only [List.mem_filterMap, List.mem_filter, State.placementsOf, Bool.or_eq_true, decide_eq_true_eq, countsAmong]
    constructor
    · rintro ⟨q, ⟨⟨hq, qc⟩, e⟩, hd⟩
      exact ⟨q.head, ⟨q, hq, qc, rfl, e.symm⟩, hd⟩
    · rintro ⟨_, ⟨q, hq, qc, rfl, e⟩, hd⟩
      exact ⟨q, ⟨⟨hq, qc⟩, e.symm⟩, hd⟩
  rw [test, State.spreadWith, lt_spread_iff]
  constructor
  · rintro ⟨d, hd, e, he, lt⟩
    obtain ⟨g, cg, hd⟩ := (mem d).1 hd
    obtain ⟨k, ck, he⟩ := (mem e).1 he
    exact ⟨g, k, d, e, cg, ck, hd, he, lt⟩
  · rintro ⟨g, k, d, e, cg, ck, hd, he, lt⟩
    exact ⟨d, (mem d).2 ⟨g, cg, hd⟩, e, (mem e).2 ⟨k, ck, he⟩, lt⟩

theorem windowTest_ne_incapable (s : State) (h : Head) (c : Carrier) : s.windowTest h c ≠ .incapable := by
  unfold State.windowTest
  split <;> decide

/-! ## One placement just created -/

/-- The exclusion reason of a placement just created (R41). -/
def State.createdExclusion (s : State) (h : Head) (c : Carrier) : Exclusion :=
  if s.carriers[c].width = .wide ∧ s.heads[h].capability = .no then .incapable
  else if s.heads[h].delay.isSome then s.windowTest h c
  else .none

theorem createdExclusion_incapable_iff (s : State) (h : Head) (c : Carrier) :
    s.createdExclusion h c = .incapable ↔ s.carriers[c].width = .wide ∧ s.heads[h].capability = .no := by
  unfold State.createdExclusion
  split
  · next e => exact ⟨fun _ => e, fun _ => rfl⟩
  · next e =>
    refine ⟨fun x => ?_, fun x => absurd x e⟩
    split at x
    · exact absurd x (windowTest_ne_incapable s h c)
    · cases x

theorem createdExclusion_window_iff (s : State) (h : Head) (c : Carrier) :
    s.createdExclusion h c = .window ↔ ¬ (s.carriers[c].width = .wide ∧ s.heads[h].capability = .no) ∧ s.heads[h].delay ≠ none ∧
      apart s.heads (countsAmong s.placements c h fun q => q.exclusion = .none) := by
  unfold State.createdExclusion
  split
  · next e => exact ⟨nofun, fun x => absurd e x.1⟩
  · next e =>
    rw [← windowTest_eq_window_iff, ← Option.isSome_iff_ne_none]
    split
    · next d => exact ⟨fun x => ⟨e, d, x⟩, fun x => x.2.2⟩
    · next d => exact ⟨nofun, fun x => absurd x.2.1 d⟩

/-- A placement that is as created, but for its exclusion reason: it takes part in no division. -/
def Placement.fresh (p : Placement) : Prop := p.exclusion = .none ∧ p.outcome = .none ∧ p.idle = p

/-- The placements of a carrier on some heads have their exclusion reasons. -/
def Placement.judged (c : Carrier) (l : List Head) (v : Head → Exclusion) (q : Placement) : Placement :=
  if q.carrier = c ∧ q.head ∈ l then { q with exclusion := v q.head } else q

theorem judged_head (c : Carrier) (l : List Head) (v : Head → Exclusion) (q : Placement) : (q.judged c l v).head = q.head := by
  unfold Placement.judged
  split <;> rfl

theorem judged_carrier (c : Carrier) (l : List Head) (v : Head → Exclusion) (q : Placement) :
    (q.judged c l v).carrier = q.carrier := by
  unfold Placement.judged
  split <;> rfl

theorem judged_nodup {l : List Placement} (h : (l.map fun q => (q.head, q.carrier)).Nodup) (c : Carrier) (heads : List Head)
    (v : Head → Exclusion) : ((l.map (Placement.judged c heads v)).map fun q => (q.head, q.carrier)).Nodup := by
  rw [List.map_map]
  rwa [show (fun q : Placement => (q.head, q.carrier)) ∘ Placement.judged c heads v = fun q => (q.head, q.carrier) from
    funext fun q => by simp only [Function.comp, judged_head, judged_carrier]]

/-- The placement of a carrier on a head takes an exclusion reason. -/
def State.excluding (u : State) (h : Head) (c : Carrier) (x : Exclusion) : State :=
  u.modPlacement h c fun q => { q with exclusion := x }

theorem excluding_placements (u : State) (h : Head) (c : Carrier) (x : Exclusion) :
    (u.excluding h c x).placements = u.placements.map (Placement.judged c [h] fun _ => x) := by
  refine List.map_congr_left fun q _ => ?_
  by_cases e : q.head = h ∧ q.carrier = c
  · simp [Placement.judged, e]
  · simp only [Placement.judged, if_neg e, List.mem_singleton]
    rw [if_neg fun y => e ⟨y.2, y.1⟩]

/-- No eligibility changes but that of the placement excluded. -/
theorem changedEligibility_excluding {u : State} (nodup : (u.placements.map fun q => (q.head, q.carrier)).Nodup) (h : Head)
    (c : Carrier) (x : Exclusion) {q : Placement} (hq : q ∈ changedEligibility u (u.excluding h c x)) :
    q.head = h ∧ q.carrier = c := by
  by_contra other
  obtain ⟨mem, changed⟩ := List.mem_filter.1 hq
  rw [excluding_placements] at mem
  obtain ⟨p, hp, rfl⟩ := List.mem_map.1 mem
  rw [judged_head, judged_carrier] at other changed
  have same : p.judged c [h] (fun _ => x) = p := if_neg fun y => other ⟨List.mem_singleton.1 y.2, y.1⟩
  rw [same, placement_of_mem nodup hp] at changed
  have eligible : (u.excluding h c x).eligible p = u.eligible p :=
    congrFun (eligible_congr (s := u) (t := u.excluding h c x) rfl rfl rfl) p
  simp [eligible] at changed

section fresh
variable {u : State} {h : Head} {c : Carrier} {p : Placement} (nodup : (u.placements.map fun q => (q.head, q.carrier)).Nodup)
  (mem : p ∈ u.placements) (head : p.head = h) (carrier : p.carrier = c) (fresh : p.fresh) (x : Exclusion)
include nodup mem head carrier fresh

theorem eq_of_excluding {q : Placement} (hq : q ∈ (u.excluding h c x).placements) (hh : q.head = h) (hc : q.carrier = c) :
    q = { p with exclusion := x } := by
  rw [excluding_placements] at hq
  obtain ⟨r, hr, rfl⟩ := List.mem_map.1 hq
  rw [judged_head] at hh
  rw [judged_carrier] at hc
  have : r = p := List.inj_on_of_nodup_map nodup hr mem (by rw [hh, hc, head, carrier])
  subst this
  exact if_pos ⟨hc, List.mem_singleton.2 hh⟩

/-- A placement just created loses nothing where it leaves eligibility. -/
theorem idled_excluding_placements :
    ((u.excluding h c x).idled u).placements = u.placements.map (Placement.judged c [h] fun _ => x) := by
  rw [← excluding_placements]
  refine forAll_preserves_mem (fun t => t.placements = (u.excluding h c x).placements) _ _ (fun q hq t ht => ?_) _ rfl
  obtain ⟨hh, hc⟩ := changedEligibility_excluding nodup h c x (List.mem_filter.1 hq).1
  rw [loseEligibility_placements, ht, hh, hc]
  refine (List.map_congr_left fun r hr => ?_).trans (List.map_id _)
  unfold Placement.idleAt
  split
  · next key =>
    rw [eq_of_excluding nodup mem head carrier fresh x hr key.1 key.2]
    exact congrArg (fun y : Placement => { y with exclusion := x }) fresh.2.2
  · rfl

theorem settle_excluding_placements :
    (settle u (u.excluding h c x)).placements = u.placements.map (Placement.judged c [h] fun _ => x) := by
  rw [settle_placements, idled_excluding_placements nodup mem head carrier fresh]

theorem settle_excluding_handsOn {raises clears : AlarmKind → Subject → Prop} :
    (u.excluding h c x).handsOn raises clears (settle u (u.excluding h c x)) := by
  refine settle_handsOn _ _ fun q hq starved => ?_
  have changed := (List.mem_filter.1 hq).1
  obtain ⟨hh, hc⟩ := changedEligibility_excluding nodup h c x changed
  rw [eq_of_excluding nodup mem head carrier fresh x (List.mem_filter.1 changed).1 hh hc] at starved
  rw [show ({ p with exclusion := x } : Placement).outcome = p.outcome from rfl, fresh.2.1] at starved
  cases starved

theorem evalCreated_eq : u.evalCreated h c = u.setExclusion h c (u.createdExclusion h c) := by
  unfold State.evalCreated State.createdExclusion
  split
  · rfl
  · split
    · rfl
    · rw [State.setExclusion, ← head, ← carrier, placement_of_mem nodup mem]
      dsimp only
      rw [if_pos fresh.1]

theorem setExclusion_none : u.setExclusion h c .none = u := by
  rw [State.setExclusion, ← head, ← carrier, placement_of_mem nodup mem]
  dsimp only
  rw [if_pos fresh.1]

theorem setExclusion_excluded (hx : x ≠ .none) :
    u.setExclusion h c x = (settle u (u.excluding h c x)).raise .carrierExcluded (.carrierHead c h) x.detail := by
  rw [State.setExclusion, ← head, ← carrier, placement_of_mem nodup mem]
  dsimp only
  rw [if_neg (by rw [fresh.1]; exact hx.symm), if_neg hx]
  rfl

end fresh

/-- Exclusion of a placement changes no other head's power. -/
theorem settle_excluding_power {u : State} (nodup : (u.placements.map fun q => (q.head, q.carrier)).Nodup) (h : Head) (c : Carrier)
    (x : Exclusion) {g : Head} (hg : g ≠ h) : (settle u (u.excluding h c x)).power[g] = u.power[g] := by
  have idled : ((u.excluding h c x).idled u).power[g] = u.power[g] := by
    refine forAll_preserves_mem (fun t => t.power[g] = u.power[g]) _ _ (fun q hq t ht => ?_) _ rfl
    obtain ⟨hh, -⟩ := changedEligibility_excluding nodup h c x (List.mem_filter.1 hq).1
    rw [loseEligibility_power, State.withdrawWritable, modPower_power, hh, if_neg hg, ht]
  rw [settle_power, if_neg, idled]
  intro changed
  obtain ⟨q, hq, e⟩ := List.any_eq_true.1 (List.mem_filter.1 changed).2
  exact hg ((of_decide_eq_true e).symm.trans (changedEligibility_excluding nodup h c x hq).1)

/-! ## What the evaluation of a placement just created does -/

/-- What is raised and cleared where placements of a carrier on some heads are judged: CARRIER_EXCLUDED is raised (R42). -/
def excludes (c : Carrier) (l : List Head) (k : AlarmKind) (x : Subject) : Prop :=
  k = .carrierExcluded ∧ ∃ h ∈ l, x = .carrierHead c h

def clearsNothing (_ : AlarmKind) (_ : Subject) : Prop := False

/-- A carrier's record without its orphan flag. -/
def CarrierRecord.unflagged (r : CarrierRecord) : CarrierRecord := { r with orphan := false }

theorem settle_unflagged (s0 s1 : State) (d : Carrier) : (settle s0 s1).carriers[d].unflagged = s1.carriers[d].unflagged := by
  rw [settle_carriers]
  rfl

/-- The placements just created of a carrier on some heads have been judged. -/
structure State.judgedTo (u t : State) (c : Carrier) (l : List Head) (v : Head → Exclusion) : Prop where
  placements : t.placements = u.placements.map (Placement.judged c l v)
  handed : u.handsOn (excludes c l) clearsNothing t
  raised : ∀ h ∈ l, v h ≠ .none → ∀ s : State, s.log.dropsOnto u.log → u.timing.frame = s.timing.frame →
    s.log.raised t.log .carrierExcluded (.carrierHead c h) s.timing.frame (v h).detail
  power : ∀ g : Head, g ∉ l → t.power[g] = u.power[g]
  unflagged : ∀ d : Carrier, t.carriers[d].unflagged = u.carriers[d].unflagged
  frame : t.sansConfig = u.sansConfig

/-- A carrier has a placement as created on each of some heads. -/
def State.freshOn (u : State) (c : Carrier) (l : List Head) : Prop :=
  ∀ h ∈ l, ∃ p ∈ u.placements, p.head = h ∧ p.carrier = c ∧ p.fresh

/-- One placement just created is judged. -/
theorem evalCreated_judgedTo {u : State} {h : Head} {c : Carrier} (nodup : (u.placements.map fun q => (q.head, q.carrier)).Nodup)
    (fresh : u.freshOn c [h]) : u.judgedTo (u.evalCreated h c) c [h] fun _ => u.createdExclusion h c := by
  obtain ⟨p, mem, head, carrier, fresh⟩ := fresh h (List.mem_singleton.2 rfl)
  rw [evalCreated_eq nodup mem head carrier fresh]
  have frame := setExclusion_sansConfig u h c (u.createdExclusion h c)
  generalize u.createdExclusion h c = x at frame
  by_cases hx : x = .none
  · subst hx
    rw [setExclusion_none nodup mem head carrier fresh]
    refine ⟨?_, .start, fun _ _ hne => absurd rfl hne, fun _ _ => rfl, fun _ => rfl, rfl⟩
    refine ((List.map_congr_left fun q hq => ?_).trans (List.map_id _)).symm
    unfold Placement.judged
    split
    · next key =>
      obtain ⟨qc, qh⟩ := key
      have : q = p := List.inj_on_of_nodup_map nodup hq mem (by rw [List.mem_singleton.1 qh, qc, head, carrier])
      subst this
      exact congrArg (fun y => { q with exclusion := y }) fresh.1.symm
    · rfl
  · rw [setExclusion_excluded nodup mem head carrier fresh x hx] at frame ⊢
    have settled : u.handsOn (excludes c [h]) clearsNothing (settle u (u.excluding h c x)) :=
      handsOn_trans (t := u.excluding h c x) (handsOn_silent rfl rfl rfl fun _ => rfl) (settle_excluding_handsOn nodup mem head carrier fresh x)
    have drops := handsOn_dropsOnto settled
    have timing := handsOn_timing settled
    refine ⟨?_, .raise settled _ _ _ ⟨rfl, h, List.mem_singleton.2 rfl, rfl⟩, fun g hg _ s dropped now => ?_, fun g hg => ?_,
      fun d => ?_, frame⟩
    · rw [raise_placements, settle_excluding_placements nodup mem head carrier fresh]
    · rw [List.mem_singleton.1 hg]
      exact raised_raise rfl _ _ (fun n hn => drops n (dropped n hn)) (by rw [timing, now])
    · rw [raise_power, settle_excluding_power nodup h c x fun e => hg (List.mem_singleton.2 e)]
    · rw [raise_carriers, settle_unflagged]
      rfl

/-! ## Placements just created, one after another -/

/-- What the exclusion reason of a placement just created says, where those on some heads are judged in ascending order and the
ones not yet judged count in the spread (R41). -/
structure State.judges (u : State) (placements : List Placement) (c : Carrier) (l : List Head) (g : Head) (x : Exclusion) : Prop where
  incapable : x = .incapable ↔ u.carriers[c].width = .wide ∧ u.heads[g].capability = .no
  window : x = .window ↔ ¬ (u.carriers[c].width = .wide ∧ u.heads[g].capability = .no) ∧ u.heads[g].delay ≠ none ∧
    apart u.heads (countsAmong placements c g fun q => q.exclusion = .none ∨ (q.head ∈ l ∧ g < q.head))

theorem judged_cons (c : Carrier) {g : Head} {l : List Head} (hg : g ∉ l) (x : Exclusion) (v : Head → Exclusion) (q : Placement) :
    ((q.judged c [g] fun _ => x).judged c l v) = q.judged c (g :: l) fun h => if h = g then x else v h := by
  unfold Placement.judged
  by_cases hc : q.carrier = c
  · by_cases hh : q.head = g
    · simp [hc, hh, hg]
    · simp [hc, hh]
  · simp [hc]

theorem countsAmong_judged_iff (placements : List Placement) (c : Carrier) (l : List Head) (v : Head → Exclusion) (g : Head)
    (counts : Placement → Prop) (h : Head) :
    countsAmong (placements.map (Placement.judged c l v)) c g counts h ↔ countsAmong placements c g (fun q => counts (q.judged c l v)) h := by
  unfold countsAmong
  constructor
  · rintro ⟨_, hq, hc, hh, x⟩
    obtain ⟨q, mem, rfl⟩ := List.mem_map.1 hq
    rw [judged_head] at hh x
    exact ⟨q, mem, (judged_carrier c l v q).symm.trans hc, hh, x⟩
  · rintro ⟨q, hq, hc, hh, x⟩
    exact ⟨_, List.mem_map_of_mem hq, (judged_carrier c l v q).trans hc, (judged_head c l v q).trans hh, by rwa [judged_head]⟩

theorem countsAmong_congr {placements : List Placement} {c : Carrier} {g : Head} {counts counts' : Placement → Prop}
    (e : ∀ q ∈ placements, q.carrier = c → q.head ≠ g → (counts q ↔ counts' q)) (h : Head) :
    countsAmong placements c g counts h ↔ countsAmong placements c g counts' h := by
  have key : ∀ q ∈ placements, q.carrier = c → ((q.head = g ∨ counts q) ↔ (q.head = g ∨ counts' q)) := fun q hq hc => by
    by_cases hg : q.head = g
    · simp [hg]
    · rw [or_iff_right hg, or_iff_right hg, e q hq hc hg]
  constructor
  · rintro ⟨q, hq, hc, hh, x⟩
    exact ⟨q, hq, hc, hh, (key q hq hc).1 x⟩
  · rintro ⟨q, hq, hc, hh, x⟩
    exact ⟨q, hq, hc, hh, (key q hq hc).2 x⟩

theorem judgedTo_trans {u t w : State} {c : Carrier} {g : Head} {l : List Head} {x : Exclusion} {v : Head → Exclusion}
    (hg : g ∉ l) (first : u.judgedTo t c [g] fun _ => x) (rest : t.judgedTo w c l v) :
    u.judgedTo w c (g :: l) fun h => if h = g then x else v h := by
  have drops := handsOn_dropsOnto first.handed
  have timing := handsOn_timing first.handed
  have mono : ∀ k y, excludes c [g] k y → excludes c (g :: l) k y := fun k y ⟨hk, h, hh, e⟩ =>
    ⟨hk, h, List.mem_singleton.1 hh ▸ List.mem_cons_self, e⟩
  have mono' : ∀ k y, excludes c l k y → excludes c (g :: l) k y := fun k y ⟨hk, h, hh, e⟩ => ⟨hk, h, List.mem_cons_of_mem g hh, e⟩
  refine ⟨?_, handsOn_trans (handsOn_mono first.handed mono fun _ _ => id) (handsOn_mono rest.handed mono' fun _ _ => id),
    fun h hh hne s dropped now => ?_, fun h hh => ?_, fun d => (rest.unflagged d).trans (first.unflagged d),
    rest.frame.trans first.frame⟩
  · rw [rest.placements, first.placements, List.map_map]
    exact List.map_congr_left fun q _ => judged_cons c hg x v q
  · by_cases e : h = g
    · subst e
      rw [if_pos rfl] at hne ⊢
      refine raised_spares (first.raised h (List.mem_singleton.2 rfl) hne s dropped now)
        (handsOn_spares rest.handed (by decide) ?_ id) (handsOn_dropsOnto rest.handed)
      rintro ⟨-, k, hk, e⟩
      injection e with _ e
      exact hg (e ▸ hk)
    · rw [if_neg e] at hne ⊢
      exact rest.raised h ((List.mem_cons.1 hh).resolve_left e) hne s (fun n hn => drops n (dropped n hn)) (by rw [timing, now])
  · rw [List.mem_cons, not_or] at hh
    rw [rest.power h hh.2, first.power h (by rw [List.mem_singleton]; exact hh.1)]

theorem judgedTo_nil (u : State) (c : Carrier) (v : Head → Exclusion) : u.judgedTo u c [] v := by
  refine ⟨?_, .start, nofun, fun _ _ => rfl, fun _ => rfl, rfl⟩
  refine ((List.map_congr_left fun q _ => ?_).trans (List.map_id _)).symm
  exact if_neg fun h => by cases h.2

theorem judgedTo_freshOn {u t : State} {c : Carrier} {g : Head} {l : List Head} {v : Head → Exclusion} (hg : g ∉ l)
    (h : u.judgedTo t c [g] v) (fresh : u.freshOn c (g :: l)) : t.freshOn c l := fun k hk => by
  obtain ⟨p, hp, head, carrier, x⟩ := fresh k (List.mem_cons_of_mem g hk)
  refine ⟨p, ?_, head, carrier, x⟩
  rw [h.placements]
  refine List.mem_map.2 ⟨p, hp, if_neg fun y => hg ?_⟩
  rwa [← List.mem_singleton.1 y.2, head]

/-- A reason that holds on the first head of those judged holds of what the others come to. -/
theorem judges_first {u : State} {c : Carrier} {g : Head} {l : List Head} {v : Head → Exclusion}
    (nodup : (u.placements.map fun q => (q.head, q.carrier)).Nodup) (fresh : u.freshOn c l) (before : ∀ h ∈ l, g < h) :
    u.judges (u.placements.map (Placement.judged c (g :: l) v)) c (g :: l) g (u.createdExclusion g c) := by
  refine ⟨createdExclusion_incapable_iff u g c, (createdExclusion_window_iff u g c).trans ?_⟩
  refine and_congr_right fun _ => and_congr_right fun _ => apart_congr fun h => ?_
  rw [countsAmong_judged_iff]
  refine countsAmong_congr (fun q hq hc hne => ?_) h
  rw [judged_head]
  by_cases hl : q.head ∈ l
  · obtain ⟨p, hp, head, carrier, x⟩ := fresh q.head hl
    have : q = p := List.inj_on_of_nodup_map nodup hq hp (by rw [head, hc, carrier])
    exact ⟨fun _ => .inr ⟨List.mem_cons_of_mem g hl, before _ hl⟩, fun _ => this ▸ x.1⟩
  · have other : q.head ∉ g :: l := by rw [List.mem_cons, not_or]; exact ⟨hne, hl⟩
    have same : q.judged c (g :: l) v = q := if_neg fun y => other y.2
    rw [same]
    exact ⟨.inl, fun y => y.resolve_right fun z => other z.1⟩

/-- A reason that holds among the later heads holds among all. -/
theorem judges_later {u t : State} {placements : List Placement} {c : Carrier} {g h : Head} {l : List Head} {x : Exclusion}
    (hc : t.carriers[c].width = u.carriers[c].width) (hh : t.heads = u.heads) (lt : g < h) (j : t.judges placements c l h x) :
    u.judges placements c (g :: l) h x := by
  refine ⟨?_, ?_⟩
  · rw [← hc, ← hh]
    exact j.incapable
  · rw [← hc, ← hh, j.window]
    refine and_congr_right fun _ => and_congr_right fun _ => apart_congr fun k => countsAmong_congr (fun q _ _ _ => ?_) k
    rw [List.mem_cons]
    refine or_congr_right (and_congr_left fun y => (or_iff_right ?_).symm)
    rintro e
    exact absurd (e ▸ y) lt.asymm

/-- Placements just created on some heads are judged one after another in ascending head order (R41). -/
theorem evalCreated_all {c : Carrier} {l : List Head} : ∀ {u : State}, l.Pairwise (· < ·) →
    (u.placements.map fun q => (q.head, q.carrier)).Nodup → u.freshOn c l →
    ∃ v, u.judgedTo (forAll l (fun h t => t.evalCreated h c) u) c l v ∧
      ∀ h ∈ l, u.judges (forAll l (fun h t => t.evalCreated h c) u).placements c l h (v h) := by
  induction l with
  | nil => exact fun {u} _ _ _ => ⟨fun _ => .none, judgedTo_nil u c _, nofun⟩
  | cons g l ih =>
    intro u order nodup fresh
    obtain ⟨before, order⟩ := List.pairwise_cons.1 order
    have hg : g ∉ l := fun hg => lt_irrefl g (before g hg)
    have first := evalCreated_judgedTo nodup fun h hh => fresh h (List.mem_singleton.1 hh ▸ List.mem_cons_self)
    obtain ⟨v, rest, judges⟩ := ih order (by rw [first.placements]; exact judged_nodup nodup _ _ _) (judgedTo_freshOn hg first fresh)
    have both := judgedTo_trans hg first rest
    refine ⟨_, both, fun h hh => ?_⟩
    rw [forAll_cons]
    by_cases e : h = g
    · subst e
      rw [if_pos rfl, both.placements]
      exact judges_first nodup (fun k hk => fresh k (List.mem_cons_of_mem h hk)) before
    · have hl := (List.mem_cons.1 hh).resolve_left e
      rw [if_neg e]
      exact judges_later (congrArg CarrierRecord.width (first.unflagged c) :) (heads_of_sansConfig first.frame) (before h hl)
        (judges h hl)

end Sys2Proof.Machine
end

section
/-! SUPPORT. A due binding moves lane units and placements, with what the alarm log is handed; and the BIND in service is answered. -/

namespace Sys2Proof.Machine

open Sys2Proof

/-! ## The parts that a due binding leaves as they are -/

/-- The state without the parts that the application of bindings writes. -/
def State.sansBinding (s : State) : State := { s.sansConfig with lanes := Vector.replicate 16 (Vector.replicate 8 .free) }

theorem sansBinding_of_sansConfig {s t : State} (h : t.sansConfig = s.sansConfig) : t.sansBinding = s.sansBinding :=
  congrArg (fun x : State => { x with lanes := Vector.replicate 16 (Vector.replicate 8 .free) }) h

theorem eq_of_sansBinding {s t : State} (h : t.sansBinding = s.sansBinding) :
    t = { s with carriers := t.carriers, lanes := t.lanes, placements := t.placements, power := t.power, log := t.log
                 ports := t.ports } :=
  congrArg (fun x : State => { x with carriers := t.carriers, lanes := t.lanes, placements := t.placements, power := t.power
                                      log := t.log, ports := t.ports }) h

theorem lanes_of_sansConfig {s t : State} (h : t.sansConfig = s.sansConfig) : t.lanes = s.lanes := (congrArg State.lanes h :)

theorem heads_of_sansBinding {s t : State} (h : t.sansBinding = s.sansBinding) : t.heads = s.heads := (congrArg State.heads h :)

/-! ## Placements by head and carrier -/

/-- Where each head and carrier has one placement, it is the one in the list. -/
theorem placement_eq_some_iff {s : State} (h : (s.placements.map fun q => (q.head, q.carrier)).Nodup) {g : Head} {d : Carrier}
    {p : Placement} : s.placement g d = some p ↔ p ∈ s.placements ∧ p.head = g ∧ p.carrier = d := by
  constructor
  · intro found
    have key := List.find?_some (p := fun q : Placement => decide (q.head = g ∧ q.carrier = d)) found
    exact ⟨List.mem_of_find?_eq_some found, of_decide_eq_true key⟩
  · rintro ⟨mem, rfl, rfl⟩
    exact placement_of_mem h mem

/-! ## Heads that are left -/

/-- What is cleared where a carrier leaves heads (R168). -/
def departs (k : AlarmKind) (_ : Subject) : Prop := k = .carrierExcluded ∨ k = .carrierStarved

theorem removePlacement_handsOn {raises : AlarmKind → Subject → Prop} (s : State) (h : Head) (c : Carrier) :
    s.handsOn raises departs (s.removePlacement h c) := by
  unfold State.removePlacement
  extract_lets t
  have marked : s.handsOn raises departs t := handsOn_silent rfl rfl rfl fun _ => rfl
  exact .clear (.clear marked .carrierExcluded (.carrierHead c h) none (Or.inl rfl)) .carrierStarved (.carrierHead c h) none
    (Or.inr rfl)

theorem removePlacement_sansBinding (s : State) (h : Head) (c : Carrier) : (s.removePlacement h c).sansBinding = s.sansBinding := by
  unfold State.removePlacement
  extract_lets t
  exact (sansBinding_of_sansConfig ((sansConfig_of_sansPower (sansPower_of_sansLog (clear_sansLog _ _ _ _))).trans
    (sansConfig_of_sansPower (sansPower_of_sansLog (clear_sansLog _ _ _ _))))).trans rfl

theorem removePlacement_power (s : State) {h g : Head} (c : Carrier) (hg : g ≠ h) :
    (s.removePlacement h c).power[g] = s.power[g] := by
  unfold State.removePlacement
  rw [clear_power, clear_power, State.withdrawWritable, modPower_power, if_neg hg]
  rfl

/-- After a carrier has left a head, neither its exclusion nor its starving there is ACTIVE (R168). -/
theorem removePlacement_quiet {s : State} (h : s.log.unique) (g : Head) (c : Carrier) {k : AlarmKind} (hk : departs k (.carrierHead c g)) :
    (s.removePlacement g c).log.quiet k (.carrierHead c g) := by
  unfold State.removePlacement
  extract_lets t
  have unique : t.log.unique := h
  obtain rfl | rfl := hk
  · exact quiet_clear_any (quiet_clear unique rfl _ _) _
  · exact quiet_clear (clear_unique unique _ _ _) rfl _ _

section leaveHeads
variable (s : State) (c : Carrier) (heads : List Head)

theorem leaveHeads_handsOn {raises : AlarmKind → Subject → Prop} : s.handsOn raises departs (s.leaveHeads c heads) :=
  handsOn_forAll (fun h _ t => removePlacement_handsOn t h c) s

theorem leaveHeads_sansBinding : (s.leaveHeads c heads).sansBinding = s.sansBinding :=
  forAll_keeps State.sansBinding _ (fun h t => removePlacement_sansBinding t h c) heads s

theorem leaveHeads_power {g : Head} (hg : g ∉ heads) : (s.leaveHeads c heads).power[g] = s.power[g] :=
  forAll_preserves_mem (fun t => t.power[g] = s.power[g]) _ _
    (fun h hh t ht => (removePlacement_power t c fun e => hg (by rwa [e])).trans ht) s rfl

theorem leaveHeads_quiet (unique : s.log.unique) {g : Head} (hn : heads.Nodup) (hg : g ∈ heads) {k : AlarmKind}
    (hk : departs k (.carrierHead c g)) : (s.leaveHeads c heads).log.quiet k (.carrierHead c g) := by
  have orphaned : k ≠ .carrierOrphaned := by obtain rfl | rfl := hk <;> decide
  refine forAll_once (P := fun t => t.log.unique) (Q := fun t => t.log.quiet k (.carrierHead c g)) hn hg
    (fun h t _ ht => ?_) (fun t ht => removePlacement_quiet ht g c hk) (fun h t _ ht => ?_) unique
  · exact handsOn_unique (removePlacement_handsOn (raises := clearsNothing) t h c) ht
  · exact handsOn_quiet (removePlacement_handsOn (raises := clearsNothing) t h c) orphaned id ht

theorem mem_leaveHeads {p : Placement} :
    p ∈ (s.leaveHeads c heads).placements ↔ p ∈ s.placements ∧ ¬ (p.head ∈ heads ∧ p.carrier = c) := by
  induction heads generalizing s with
  | nil => simp [State.leaveHeads]
  | cons h heads ih =>
    refine (ih (s.removePlacement h c)).trans ?_
    rw [mem_removePlacement, List.mem_cons]
    tauto

theorem leaveHeads_unit (g : Head) (i : LaneIndex) :
    (s.leaveHeads c heads).lanes[g][i] = if g ∈ heads ∧ s.lanes[g][i] = .owned c then .free else s.lanes[g][i] := by
  induction heads generalizing s with
  | nil => simp [State.leaveHeads]
  | cons h heads ih =>
    refine (ih (s.removePlacement h c)).trans ?_
    rw [removePlacement_unit]
    generalize s.lanes[g][i] = y
    by_cases e : y = .owned c
    · by_cases hg : g = h <;> simp [e, hg]
    · simp [e]

end leaveHeads

/-! ## Heads that are taken up -/

section takeUpRuns
variable (s : State) (c : Carrier)

theorem mem_takeUpRuns (l : List Reservation) {p : Placement} :
    p ∈ (s.takeUpRuns c l).placements ↔
      p ∈ s.placements ∨ ∃ r ∈ l, p = newPlacement r.head c r.first s.carriers[c].width.units := by
  induction l generalizing s with
  | nil => simp [State.takeUpRuns]
  | cons r l ih =>
    refine (ih _).trans ?_
    rw [mem_createPlacement, createPlacement_carriers, List.exists_mem_cons_iff]
    exact or_assoc.trans or_left_comm |>.trans (or_congr_right Iff.rfl) |>.trans or_left_comm |>.trans or_left_comm

/-- A reservation taken up: its units are owned, and the head's other RESERVED units of the carrier are released. -/
theorem takeUpRun_unit (r : Reservation) (g : Head) (i : LaneIndex) :
    (covers r.first.val s.carriers[c].width.units i → (s.takeUpRuns c [r]).lanes[r.head][i] = .owned c) ∧
    (¬ covers r.first.val s.carriers[c].width.units i → s.lanes[r.head][i] ≠ .reserved c →
      (s.takeUpRuns c [r]).lanes[r.head][i] = s.lanes[r.head][i]) ∧
    (g ≠ r.head → (s.takeUpRuns c [r]).lanes[g] = s.lanes[g]) := by
  let t := s.modLanes r.head fun lanes => replaceLanes lanes (.reserved c) .free
  obtain ⟨inside, outside⟩ := createPlacement_unit t r.head c r.first r.head i
  refine ⟨fun h => inside ⟨rfl, h⟩, fun h free => (outside fun x => h x.2).trans ?_, fun hg => ?_⟩
  · rw [replaceRun_unit, if_neg fun x => free x.2]
  · refine (createPlacement_lanes t r.head c r.first g).trans ?_
    rw [if_neg hg.symm, modLanes_get, if_neg hg.symm]

theorem takeUpRuns_cons (r : Reservation) (l : List Reservation) :
    s.takeUpRuns c (r :: l) = (s.takeUpRuns c [r]).takeUpRuns c l := rfl

theorem takeUpRuns_lanes (l : List Reservation) {g : Head} (hg : g ∉ l.map (·.head)) : (s.takeUpRuns c l).lanes[g] = s.lanes[g] := by
  induction l generalizing s with
  | nil => rfl
  | cons r l ih =>
    rw [List.map_cons, List.mem_cons, not_or] at hg
    rw [takeUpRuns_cons, ih _ hg.2]
    exact (takeUpRun_unit s c r g 0).2.2 hg.1

/-- The units that were RESERVED on a gaining head become owned; its others stay (R18). -/
theorem takeUpRuns_unit (l : List Reservation) (hn : (l.map (·.head)).Nodup) {r : Reservation} (hr : r ∈ l) (i : LaneIndex) :
    (covers r.first.val s.carriers[c].width.units i → (s.takeUpRuns c l).lanes[r.head][i] = .owned c) ∧
    (¬ covers r.first.val s.carriers[c].width.units i → s.lanes[r.head][i] ≠ .reserved c →
      (s.takeUpRuns c l).lanes[r.head][i] = s.lanes[r.head][i]) := by
  induction l generalizing s with
  | nil => cases hr
  | cons x l ih =>
    obtain ⟨hx, hn⟩ := List.nodup_cons.1 hn
    obtain ⟨own, stays, other⟩ := takeUpRun_unit s c x r.head i
    rw [takeUpRuns_cons]
    obtain rfl | hr := List.mem_cons.1 hr
    · rw [takeUpRuns_lanes _ c l hx]
      exact ⟨own, stays⟩
    · have ne : r.head ≠ x.head := fun e => hx (List.mem_map.2 ⟨r, hr, e⟩)
      have unit : (s.takeUpRuns c [x]).lanes[r.head][i] = s.lanes[r.head][i] := congrArg (fun v : Vector LaneUnit 8 => v[i]) (other ne)
      obtain ⟨inside, outside⟩ := ih (s.takeUpRuns c [x]) hn hr
      rw [takeUpRuns_carriers] at inside outside
      rw [unit] at outside
      exact ⟨inside, outside⟩

end takeUpRuns

/-! ## The application of a binding -/

section applyOne
variable (s : State) (c : Carrier) (b : PendingBinding)

theorem applyOne_handsOn {raises : AlarmKind → Subject → Prop} :
    (s.leaveHeads c (s.losingHeads c (headSetUnder s.sectorMap b.sectors))).handsOn raises clearsNothing (s.applyOne c b) := by
  rw [applyOne_eq]
  generalize s.leaveHeads c (s.losingHeads c (headSetUnder s.sectorMap b.sectors)) = t
  have taken : (t.takeUpRuns c b.reserved).log = t.log ∧ (t.takeUpRuns c b.reserved).ports = t.ports ∧
      (t.takeUpRuns c b.reserved).timing = t.timing := by
    rw [takeUpRuns_eq]
    exact ⟨rfl, rfl, rfl⟩
  refine handsOn_silent taken.1 taken.2.1 taken.2.2 fun d => ?_
  rw [modCarrier_get, takeUpRuns_carriers]
  split <;> rfl

theorem applyOne_sansBinding : (s.applyOne c b).sansBinding = s.sansBinding := by
  have left := leaveHeads_sansBinding s c (s.losingHeads c (headSetUnder s.sectorMap b.sectors))
  rw [applyOne_eq]
  generalize s.leaveHeads c (s.losingHeads c (headSetUnder s.sectorMap b.sectors)) = t at left
  rw [takeUpRuns_eq]
  exact left

theorem applyOne_power {g : Head} (hg : g ∉ s.losingHeads c (headSetUnder s.sectorMap b.sectors)) :
    (s.applyOne c b).power[g] = s.power[g] := by
  have left := leaveHeads_power s c (s.losingHeads c (headSetUnder s.sectorMap b.sectors)) hg
  rw [applyOne_eq]
  generalize s.leaveHeads c (s.losingHeads c (headSetUnder s.sectorMap b.sectors)) = t at left
  rw [takeUpRuns_eq]
  exact left

theorem mem_applyOne {p : Placement} :
    p ∈ (s.applyOne c b).placements ↔
      (p ∈ s.placements ∧ ¬ (p.head ∈ s.losingHeads c (headSetUnder s.sectorMap b.sectors) ∧ p.carrier = c)) ∨
        ∃ r ∈ b.reserved, p = newPlacement r.head c r.first s.carriers[c].width.units := by
  rw [applyOne_eq, State.modCarrier_placements, mem_takeUpRuns, mem_leaveHeads, leaveHeads_carriers]

end applyOne

/-! ## The BIND still in service -/

theorem deliver_eq (s : State) (p : Port) (a : Answer) : s.deliver p a = { s with ports := (s.deliver p a).ports } := by
  unfold State.deliver
  split
  · rfl
  · split
    · rfl
    all_goals
      split
      · rfl
      · dsimp only
        split <;> rfl

/-- A request answered leaves service behind what its port had to send, or waits for room (R21, R188). -/
theorem deliver_answered {s : State} {p : Port} {y : Status} {contents : List Byte} {x : InService}
    (hx : s.ports[p].inService = some x) (kept : x.discarded = false) :
    let z := (s.deliver p (.reply y contents)).ports[p]
    let ms := replyMessages x.message (.reply y contents)
    (z.inService = none ∧ z.outgoing = s.ports[p].outgoing ++ ms) ∨ z.inService = some { x with phase := .awaitingRoom ms } := by
  dsimp only
  by_cases room : s.ports[p].outgoing.length + (replyMessages x.message (.reply y contents)).length ≤ Config.outgoingQueueDepth
  · left
    rw [deliver_reply s p _ x hx kept (fun _ e => by cases e) room]
    dsimp only
    rw [get_set, if_pos rfl]
    exact ⟨rfl, rfl⟩
  · right
    have full : s.room p (replyMessages x.message (.reply y contents)).length = false := decide_eq_false room
    unfold State.deliver
    rw [hx]
    dsimp only
    rw [kept, full, State.setPhase, State.modPort]
    simp only [Bool.false_eq_true, if_false]
    rw [get_set, if_pos rfl, hx, Option.map_some, kept]

end Sys2Proof.Machine
end

section
/-! PROOF of O30: BINDING_APPLY. -/

namespace Sys2Proof.Machine

open Sys2Proof

/-! ## The binding of one carrier handed on -/

/-- The BIND in service of the carrier's owner is answered (R21). -/
def State.answerBound (s : State) (c : Carrier) : State :=
  let p := Port.ofLink c.owner
  match s.ports[p].inService with
  | none => s
  | some x => if x.phase = .awaitingBoundary c then s.deliver p (.reply .ok (byte4 s.frame.toNat)) else s

theorem answerBound_eq (s : State) (c : Carrier) : s.answerBound c = { s with ports := (s.answerBound c).ports } := by
  unfold State.answerBound
  dsimp only
  split
  · rfl
  · split
    · exact deliver_eq s _ _
    · rfl

theorem answerBound_answered {s : State} {c : Carrier} {x : InService} (hx : s.ports[Port.ofLink c.owner].inService = some x)
    (phase : x.phase = .awaitingBoundary c) (kept : x.discarded = false) :
    let z := (s.answerBound c).ports[Port.ofLink c.owner]
    let ms := replyMessages x.message (.reply .ok (byte4 s.timing.frame.toNat))
    (z.inService = none ∧ z.outgoing = s.ports[Port.ofLink c.owner].outgoing ++ ms) ∨
      z.inService = some { x with phase := .awaitingRoom ms } := by
  have delivered : s.answerBound c = s.deliver (Port.ofLink c.owner) (.reply .ok (byte4 s.frame.toNat)) := by
    unfold State.answerBound
    dsimp only
    rw [hx]
    exact if_pos phase
  rw [delivered]
  exact deliver_answered hx kept

/-- The heads on which a binding that is applied has changed something, ascending (R20). -/
def boundHeads (losing gaining : List Head) : List Head := allHeads.filter fun h => losing.contains h || gaining.contains h

theorem mem_boundHeads {losing gaining : List Head} {h : Head} : h ∈ boundHeads losing gaining ↔ h ∈ losing ∨ h ∈ gaining := by
  simp [boundHeads, allHeads]

/-- The gaining and losing heads of a binding are recomputed. -/
def State.askedAll (s s0 : State) (l : List Head) : State := forAll l (fun h t => t.requestOnce s0 h) s

theorem handOnBinding_eq (s s0 : State) (c : Carrier) (losing gaining : List Head) :
    s.handOnBinding s0 c losing gaining =
      ((State.askedAll (forAll gaining (fun h u => u.evalCreated h c) s) s0 (boundHeads losing gaining)).evalOrphan c).answerBound c :=
  rfl

theorem requestOnce_running (s s0 : State) (h : Head) : (s.requestOnce s0 h).power[h].running.isSome = true := by
  rw [requestOnce_power, if_pos rfl]
  split
  · next e => rw [e.2]; rfl
  · exact requested_running_isSome _ _

section askedAll
variable (s s0 : State) (l : List Head)

theorem askedAll_power {g : Head} (hg : g ∉ l) : (s.askedAll s0 l).power[g] = s.power[g] :=
  forAll_preserves_mem (fun t => t.power[g] = s.power[g]) _ _
    (fun h hh t ht => by rw [requestOnce_power, if_neg fun e => hg (by rwa [e]), ht]) s rfl

theorem askedAll_running (hn : l.Nodup) {g : Head} (hg : g ∈ l) : (s.askedAll s0 l).power[g].running.isSome = true := by
  refine forAll_once (P := fun _ => True) (Q := fun t => t.power[g].running.isSome = true) hn hg (fun _ _ _ _ => trivial)
    (fun t _ => requestOnce_running t s0 g) (fun h t hh ht => ?_) trivial
  rwa [requestOnce_power, if_neg hh.symm]

theorem askedAll_sansPower : (s.askedAll s0 l).sansPower = s.sansPower := requestOnceAll_sansPower l s0 s

theorem askedAll_handsOn {raises clears : AlarmKind → Subject → Prop} : s.handsOn raises clears (s.askedAll s0 l) :=
  handsOn_forAll (fun h _ t => requestOnce_handsOn t s0 h) s

end askedAll

/-! ## What the hand-ons of one binding do -/

/-- A binding has been applied and handed on, up to the reply of its BIND. -/
structure State.boundTo (s t : State) (c : Carrier) (losing gaining : List Head) (v : Head → Exclusion) : Prop where
  placements : t.placements = s.placements.map (Placement.judged c gaining v)
  handed : s.handsOn (excludes c gaining) clearsNothing t
  judges : ∀ h ∈ gaining, s.judges t.placements c gaining h (v h)
  raised : ∀ h ∈ gaining, v h ≠ .none → ∀ u : State, u.log.dropsOnto s.log → s.timing.frame = u.timing.frame →
    u.log.raised t.log .carrierExcluded (.carrierHead c h) u.timing.frame (v h).detail
  power : ∀ h : Head, h ∉ losing → h ∉ gaining → t.power[h] = s.power[h]
  asked : ∀ h : Head, h ∈ losing ∨ h ∈ gaining → t.power[h].running.isSome = true
  unflagged : ∀ d : Carrier, t.carriers[d].unflagged = s.carriers[d].unflagged
  orphan : t.carriers[c].orphan = t.orphanCondition c
  frame : t.sansConfig = s.sansConfig

theorem boundTo_of_judgedTo {s e s0 : State} {c : Carrier} {losing gaining : List Head} {v : Head → Exclusion}
    (j : s.judgedTo e c gaining v) (judges : ∀ h ∈ gaining, s.judges e.placements c gaining h (v h)) :
    s.boundTo ((e.askedAll s0 (boundHeads losing gaining)).evalOrphan c) c losing gaining v := by
  have asked := askedAll_sansPower e s0 (boundHeads losing gaining)
  have handed : e.handsOn clearsNothing clearsNothing ((e.askedAll s0 (boundHeads losing gaining)).evalOrphan c) :=
    .orphan (askedAll_handsOn e s0 _) c
  have running := fun g hg => askedAll_running e s0 (boundHeads losing gaining) ((List.nodup_finRange 16).filter _) (g := g) hg
  have other := fun g hg => askedAll_power e s0 (boundHeads losing gaining) (g := g) hg
  generalize e.askedAll s0 (boundHeads losing gaining) = q at asked handed running other
  have placements : (q.evalOrphan c).placements = e.placements := by
    rw [evalOrphan_placements, placements_of_sansPower asked]
  refine ⟨placements.trans j.placements, handsOn_trans j.handed (handsOn_mono handed (fun _ _ => False.elim) fun _ _ => id), ?_,
    fun h hh hne u drops now => ?_, fun h hl hg => ?_, fun h hh => ?_, fun d => ?_, ?_, ?_⟩
  · rw [placements]
    exact judges
  · exact raised_spares (j.raised h hh hne u drops now) (handsOn_spares handed (by decide) id id) (handsOn_dropsOnto handed)
  · rw [evalOrphan_power, other h (fun x => (mem_boundHeads.1 x).elim hl hg), j.power h hg]
  · rw [evalOrphan_power]
    exact running h (mem_boundHeads.2 hh)
  · rw [← j.unflagged d, ← carriers_of_sansPower asked, evalOrphan_carriers]
    split <;> rfl
  · rw [evalOrphan_orphanCondition, evalOrphan_carriers, if_pos rfl]
  · rw [evalOrphan_sansConfig, sansConfig_of_sansPower asked, j.frame]

/-- The hand-ons of a binding that has been applied. -/
theorem handOnBinding_boundTo {s : State} (s0 : State) {c : Carrier} (losing : List Head) {gaining : List Head}
    (order : gaining.Pairwise (· < ·)) (nodup : (s.placements.map fun q => (q.head, q.carrier)).Nodup)
    (fresh : s.freshOn c gaining) :
    ∃ t v, s.boundTo t c losing gaining v ∧ s.handOnBinding s0 c losing gaining = t.answerBound c := by
  obtain ⟨v, judged, judges⟩ := evalCreated_all order nodup fresh
  exact ⟨_, v, boundTo_of_judgedTo judged judges, handOnBinding_eq s s0 c losing gaining⟩

/-! ## A binding of a state whose lanes agree -/

/-- The heads that a pending binding loses. -/
def State.losingOf (s : State) (c : Carrier) (b : PendingBinding) : List Head :=
  s.losingHeads c (headSetUnder s.sectorMap b.sectors)

/-- The heads that a pending binding gains. -/
def PendingBinding.gaining (b : PendingBinding) : List Head := b.reserved.map (·.head)

section bound
variable {s : State} {c : Carrier} {b : PendingBinding} (agree : s.lanesAgree) (hb : s.carriers[c].pending = some b)
include agree hb

theorem gaining_eq : b.gaining = s.gainingHeads c (headSetUnder s.sectorMap b.sectors) :=
  have ⟨_, _, pending, _⟩ := (lanesAgree_iff s).1 agree
  pending c b hb

theorem gaining_ascending : b.gaining.Pairwise (· < ·) := by
  rw [gaining_eq agree hb]
  exact gainingHeads_ascending s c s.sectorMap b.sectors

theorem not_mem_gaining_of_losing {h : Head} (hl : h ∈ s.losingOf c b) : h ∉ b.gaining := by
  rw [gaining_eq agree hb, mem_gainingHeads]
  exact fun hg => hg.2 (mem_losingHeads.1 hl).1

theorem applyOne_nodup : ((s.applyOne c b).placements.map fun q => (q.head, q.carrier)).Nodup :=
  have ⟨nodup, _⟩ := applyOne_lanesAgree agree hb
  nodup

omit agree hb in
theorem applyOne_freshOn : (s.applyOne c b).freshOn c b.gaining := fun h hh => by
  obtain ⟨r, hr, rfl⟩ := List.mem_map.1 hh
  exact ⟨_, (mem_applyOne s c b).2 (.inr ⟨r, hr, rfl⟩), rfl, rfl, rfl, rfl, rfl⟩

/-! ### Lane units -/

theorem applyOne_lanes_losing {h : Head} (hl : h ∈ s.losingOf c b) (i : LaneIndex) :
    (s.applyOne c b).lanes[h][i] = if s.lanes[h][i] = .owned c then .free else s.lanes[h][i] := by
  have unit := leaveHeads_unit s c (s.losingOf c b) h i
  simp only [hl, true_and] at unit
  refine Eq.trans ?_ unit
  exact congrArg (fun x : Vector LaneUnit 8 => x[i])
    (takeUpRuns_lanes (s.leaveHeads c (s.losingOf c b)) c b.reserved (not_mem_gaining_of_losing agree hb hl))

omit agree hb in
theorem leaveHeads_lanes_other {h : Head} (hl : h ∉ s.losingOf c b) :
    (s.leaveHeads c (s.losingOf c b)).lanes[h] = s.lanes[h] := by
  refine Vector.ext fun i hi => ?_
  have unit := leaveHeads_unit s c (s.losingOf c b) h ⟨i, hi⟩
  rwa [if_neg fun x => hl x.1] at unit

omit agree hb in
theorem applyOne_lanes_other {h : Head} (hl : h ∉ s.losingOf c b) (hg : h ∉ b.gaining) :
    (s.applyOne c b).lanes[h] = s.lanes[h] :=
  (takeUpRuns_lanes (s.leaveHeads c (s.losingOf c b)) c b.reserved hg).trans (leaveHeads_lanes_other hl)

theorem applyOne_lanes_gaining {r : Reservation} (hr : r ∈ b.reserved) (i : LaneIndex) :
    (covers r.first.val s.carriers[c].width.units i → (s.applyOne c b).lanes[r.head][i] = .owned c) ∧
    (¬ covers r.first.val s.carriers[c].width.units i → (s.applyOne c b).lanes[r.head][i] = s.lanes[r.head][i]) := by
  have mem : r.head ∈ b.gaining := List.mem_map_of_mem hr
  have nodup : b.gaining.Nodup := (gaining_ascending agree hb).imp ne_of_lt
  have left := leaveHeads_lanes_other (s := s) (c := c) (b := b) fun hl => not_mem_gaining_of_losing agree hb hl mem
  obtain ⟨inside, outside⟩ := takeUpRuns_unit (s.leaveHeads c (s.losingOf c b)) c b.reserved nodup hr i
  rw [leaveHeads_carriers] at inside outside
  rw [left] at outside
  refine ⟨inside, fun uncovered => outside uncovered fun reserved => ?_⟩
  obtain ⟨⟨-, -, -, -, held⟩, -⟩ := (lanesAgree_iff s).1 agree
  obtain ⟨x, hx, hh, covered⟩ := held r.head i c reserved
  rw [reservations_of_some hb] at hx
  have : x = r := List.inj_on_of_nodup_map nodup hx hr hh
  exact uncovered (this ▸ covered)

/-! ### Placements -/

variable {t : State} {v : Head → Exclusion} (bound : (s.applyOne c b).boundTo t c (s.losingOf c b) b.gaining v)
include bound

theorem boundTo_nodup : (t.placements.map fun q => (q.head, q.carrier)).Nodup := by
  rw [bound.placements]
  exact judged_nodup (applyOne_nodup agree hb) _ _ _

omit agree hb in
theorem mem_boundTo_other {p : Placement} (other : p.carrier ≠ c ∨ (p.head ∉ s.losingOf c b ∧ p.head ∉ b.gaining)) :
    p ∈ t.placements ↔ p ∈ s.placements := by
  have outside : ∀ q : Placement, q.head = p.head → q.carrier = p.carrier → ¬ (q.carrier = c ∧ q.head ∈ b.gaining) :=
    fun q hh hc x => other.elim (fun ne => ne (hc ▸ x.1)) fun y => y.2 (hh ▸ x.2)
  rw [bound.placements, List.mem_map]
  constructor
  · rintro ⟨q, hq, rfl⟩
    have none := outside q (judged_head _ _ _ _).symm (judged_carrier _ _ _ _).symm
    rw [Placement.judged, if_neg none]
    obtain ⟨hq, -⟩ | ⟨r, hr, rfl⟩ := (mem_applyOne s c b).1 hq
    · exact hq
    · exact absurd ⟨rfl, List.mem_map_of_mem hr⟩ none
  · intro hp
    refine ⟨p, (mem_applyOne s c b).2 (.inl ⟨hp, fun x => ?_⟩), if_neg (outside p rfl rfl)⟩
    exact other.elim (fun ne => ne x.2) fun y => y.1 x.1

theorem boundTo_placement_other {h : Head} {d : Carrier} (other : d ≠ c ∨ (h ∉ s.losingOf c b ∧ h ∉ b.gaining)) :
    t.placement h d = s.placement h d := by
  have ⟨nodup, _⟩ := agree
  refine Option.ext fun p => ?_
  rw [placement_eq_some_iff (boundTo_nodup agree hb bound), placement_eq_some_iff nodup]
  refine and_congr_left fun ⟨hh, hd⟩ => mem_boundTo_other bound ?_
  rwa [hh, hd]

theorem boundTo_placement_losing {h : Head} (hl : h ∈ s.losingOf c b) : t.placement h c = none := by
  rw [Option.eq_none_iff_forall_ne_some]
  intro p found
  obtain ⟨mem, hh, hc⟩ := (placement_eq_some_iff (boundTo_nodup agree hb bound)).1 found
  rw [bound.placements] at mem
  obtain ⟨q, hq, rfl⟩ := List.mem_map.1 mem
  rw [judged_head] at hh
  rw [judged_carrier] at hc
  obtain ⟨-, stays⟩ | ⟨r, hr, rfl⟩ := (mem_applyOne s c b).1 hq
  · exact stays ⟨hh ▸ hl, hc⟩
  · exact not_mem_gaining_of_losing agree hb hl (hh ▸ List.mem_map_of_mem hr)

theorem boundTo_placement_gaining {r : Reservation} (hr : r ∈ b.reserved) :
    t.placement r.head c =
      some { newPlacement r.head c r.first s.carriers[c].width.units with exclusion := v r.head } := by
  rw [placement_eq_some_iff (boundTo_nodup agree hb bound), bound.placements]
  refine ⟨List.mem_map.2 ⟨_, (mem_applyOne s c b).2 (.inr ⟨r, hr, rfl⟩), ?_⟩, rfl, rfl⟩
  exact if_pos ⟨rfl, List.mem_map_of_mem hr⟩

/-! ### Exclusion of the new placements -/

omit agree hb in
/-- On each gaining head the new placement is judged, the ones not yet judged counting in the spread (R41). -/
theorem boundTo_judged {h : Head} (hg : h ∈ b.gaining) :
    (v h = .incapable ↔ s.carriers[c].width = .wide ∧ s.heads[h].capability = .no) ∧
    (v h = .window ↔ ¬ (s.carriers[c].width = .wide ∧ s.heads[h].capability = .no) ∧ s.heads[h].delay ≠ none ∧
      apart s.heads (countsAmong t.placements c h fun q => q.exclusion = .none ∨ (q.head ∈ b.gaining ∧ h < q.head))) := by
  obtain ⟨incapable, window⟩ := bound.judges h hg
  rw [applyOne_carrier_same, heads_of_sansBinding (applyOne_sansBinding s c b)] at incapable window
  exact ⟨incapable, window⟩

/-! ### The alarm log -/

omit agree hb in
theorem boundTo_handsOn_left :
    (s.leaveHeads c (s.losingOf c b)).handsOn (excludes c b.gaining) clearsNothing t :=
  handsOn_trans (applyOne_handsOn s c b) bound.handed

omit agree hb in
theorem boundTo_handsOn : s.handsOn (excludes c b.gaining) departs t :=
  handsOn_trans (leaveHeads_handsOn s c (s.losingOf c b))
    (handsOn_mono (boundTo_handsOn_left bound) (fun _ _ => id) fun _ _ => False.elim)

theorem boundTo_quiet (sound : s.log.sound) {h : Head} (hl : h ∈ s.losingOf c b) {k : AlarmKind} (hk : departs k (.carrierHead c h)) :
    t.log.quiet k (.carrierHead c h) := by
  have nodup : (s.losingOf c b).Nodup := ((headSetUnder_nodup _ _).filter _)
  have orphaned : k ≠ .carrierOrphaned := by obtain rfl | rfl := hk <;> decide
  refine handsOn_quiet (boundTo_handsOn_left bound) orphaned ?_
    (leaveHeads_quiet s c (s.losingOf c b) (unique_of_sound sound) nodup hl hk)
  rintro ⟨-, g, hg, e⟩
  injection e with _ e
  exact not_mem_gaining_of_losing agree hb hl (e ▸ hg)

omit agree hb in
theorem boundTo_raised {h : Head} (hg : h ∈ b.gaining) (hv : v h ≠ .none) :
    s.log.raised t.log .carrierExcluded (.carrierHead c h) s.timing.frame (v h).detail := by
  have before : s.handsOn clearsNothing departs (s.applyOne c b) :=
    handsOn_trans (leaveHeads_handsOn s c (s.losingOf c b))
      (handsOn_mono (applyOne_handsOn s c b) (fun _ _ => id) fun _ _ => False.elim)
  exact bound.raised h hg hv s (handsOn_dropsOnto before) (congrArg Timing.frame (handsOn_timing before))

end bound

/-! ## The due step -/

theorem applyBindings_single {s : State} {c : Carrier} {b : PendingBinding} (hb : s.carriers[c].pending = some b) :
    s.applyBindings [c] = (s.applyOne c b).handOnBinding s c (s.losingOf c b) b.gaining := by
  unfold State.applyBindings
  rw [List.filterMap_cons_some (by rw [hb]; rfl)]
  rfl

theorem exec_bindingApply {s : State} (h : s.mode ≠ .reset) {c : Carrier} {rest : List Due}
    (due : s.due = .bindingApply [c] :: rest) : exec .bindingApply s = .next ((s.setDue rest).applyBindings [c]) := by
  change execBindingApply s = _
  rw [execBindingApply, headEvent, if_neg h, takeDue_front due rfl]
  rfl

theorem unflagged_iff {r x : CarrierRecord} : r.unflagged = x.unflagged ↔ r = { x with orphan := r.orphan } := by
  constructor
  · exact fun h => congrArg (fun y : CarrierRecord => { y with orphan := r.orphan }) h
  · intro h
    rw [h]
    rfl

theorem detail_of_excluded {x : Exclusion} (h : x ≠ .none) : x.detail = if x = .incapable then 1 else 2 := by
  cases x with
  | none => exact absurd rfl h
  | incapable => rfl
  | window => rfl

/-- Settles O30: the binding is applied, its new placements are judged, and its hand-ons follow, in this order. -/
theorem aDueBindingIsApplied : Obligations.ADueBindingIsApplied := by
  unfold Obligations.ADueBindingIsApplied
  intro s c b rest mode agree due hb
  extract_lets width newHeads losing gaining
  let u := s.setDue rest
  have agree' : u.lanesAgree := lanesAgree_congr (s := s) rfl rfl rfl rfl agree
  have hb' : u.carriers[c].pending = some b := hb
  have losing_iff : ∀ h, losing h ↔ h ∈ u.losingOf c b := fun h => mem_losingHeads.symm
  have gaining_iff : ∀ h, gaining h ↔ h ∈ b.gaining := fun h => by rw [gaining_eq agree' hb']; exact mem_gainingHeads.symm
  obtain ⟨t, v, bound, handed⟩ := handOnBinding_boundTo u (u.losingOf c b) (gaining_ascending agree' hb')
    (applyOne_nodup agree' hb') applyOne_freshOn
  have step := exec_bindingApply mode due
  rw [applyBindings_single hb', handed] at step
  have handedOn := boundTo_handsOn bound
  have now := handsOn_timing handedOn
  have whole := answerBound_eq t c
  have answered := fun x => answerBound_answered (s := t) (c := c) (x := x)
  generalize t.answerBound c = w at step whole answered
  have carriers : w.carriers = t.carriers := by rw [whole]
  have lanes : w.lanes = (u.applyOne c b).lanes := by rw [whole]; exact lanes_of_sansConfig bound.frame
  have placements : w.placements = t.placements := by rw [whole]
  have power : w.power = t.power := by rw [whole]
  have log : w.log = t.log := by rw [whole]
  have condition : w.orphanCondition c = t.orphanCondition c := by rw [whole]; rfl
  have placement : ∀ h d, w.placement h d = t.placement h d := fun h d => by rw [State.placement, placements]; rfl
  have record : ∀ d : Carrier, w.carriers[d] = { (u.applyOne c b).carriers[d] with orphan := w.carriers[d].orphan } := fun d => by
    rw [carriers]
    exact unflagged_iff.1 (bound.unflagged d)
  refine ⟨w, step, ?_, ?_, fun d hd => ?_, fun sound => ?_, fun h hl => ?_, fun r hr => ?_, fun h hl hg => ?_, fun h hh => ?_,
    fun h d other => ?_, fun x hx phase kept => ?_⟩
  · rw [whole]
    exact (congrArg (fun x : State => { x with ports := w.ports }) (eq_of_sansBinding
      ((sansBinding_of_sansConfig bound.frame).trans (applyOne_sansBinding u c b)))).trans rfl
  · rw [condition, ← bound.orphan, ← carriers]
    conv_lhs => rw [record c, applyOne_carrier_same]
    rfl
  · conv_lhs => rw [record d, applyOne_carrier_other u b hd]
    rfl
  · have told := handsOn_orphansReported handedOn sound (fun x h => by cases h.1) fun x h => by cases h <;> contradiction
    unfold State.orphansReported
    rw [log, carriers]
    exact told
  · rw [losing_iff] at hl
    refine ⟨?_, fun sound => ?_, fun i => ?_⟩
    · rw [placement, boundTo_placement_losing agree' hb' bound hl]
    · rw [log]
      exact ⟨boundTo_quiet agree' hb' bound sound hl (.inl rfl), boundTo_quiet agree' hb' bound sound hl (.inr rfl)⟩
    · rw [lanes, applyOne_lanes_losing agree' hb' hl]
      rfl
  · have hg : r.head ∈ b.gaining := List.mem_map_of_mem hr
    obtain ⟨incapable, window⟩ := boundTo_judged bound hg
    refine ⟨(gaining_iff _).2 hg, ⟨{ newPlacement r.head c r.first width.units with exclusion := v r.head }, ?_, rfl, incapable,
      window.trans ?_, fun hv => ?_⟩, fun i => ?_⟩
    · exact (placement r.head c).trans (boundTo_placement_gaining agree' hb' bound hr)
    · rw [delaysApart_iff, placements]
      simp only [gaining_iff]
      rfl
    · rw [log, ← detail_of_excluded hv]
      exact boundTo_raised bound hg hv
    · rw [lanes]
      exact applyOne_lanes_gaining agree' hb' hr i
  · rw [losing_iff] at hl
    rw [gaining_iff] at hg
    rw [lanes, power, applyOne_lanes_other hl hg, bound.power h hl hg, applyOne_power u c b hl]
    exact ⟨rfl, rfl⟩
  · rw [losing_iff, gaining_iff] at hh
    rw [power]
    exact bound.asked h hh
  · rw [losing_iff, gaining_iff] at other
    rw [placement, boundTo_placement_other agree' hb' bound other]
    rfl
  · obtain ⟨ms, grown⟩ := (handsOn_messaged handedOn).grown (Port.ofLink c.owner)
    have waiting : t.ports[Port.ofLink c.owner].inService = some x := by rw [grown]; exact hx
    have sent : t.ports[Port.ofLink c.owner].outgoing = s.ports[Port.ofLink c.owner].outgoing ++ ms := by rw [grown]; rfl
    have reply := answered x waiting phase kept
    rw [sent, now] at reply
    exact reply.imp (fun ⟨left, behind⟩ => ⟨left, ms, behind⟩) id

end Sys2Proof.Machine
end

section
/-! PROOF of O3. REFUTATION of O57. -/

namespace Sys2Proof.Machine

open Sys2Proof

/-! ## The invariants at reset -/

theorem reset_queueLimits : State.reset.queueLimits := by
  intro p; constructor <;> simp [State.reset, PortRecord.reset]

theorem reset_bufferLimits : State.reset.bufferLimits := by
  intro h
  simp [State.reset, UplinkHead.reset, UplinkHead.limits]

theorem reset_log_sound : State.reset.log.sound := by
  simp [State.reset, AlarmLog.reset, AlarmLog.sound]

theorem reset_grantsWithinBudget : State.reset.grantsWithinBudget := by
  simp [State.reset, PowerHead.reset, State.grantsWithinBudget, State.placementsOn]

theorem reset_countsAndLinksAgree : State.reset.countsAndLinksAgree := by
  simp [State.reset, LoadMonitor.reset, LoadHead.reset, State.countsAndLinksAgree]

theorem reset_placements : State.reset.placements = [] := rfl

/-- Settles O3: after reset there are no placements, every queue and every record slot is empty, and lanes and plans agree as
after a RESTART. -/
theorem invariantsHoldAtReset : Obligations.InvariantsHoldAtReset := by
  unfold Obligations.InvariantsHoldAtReset
  refine ⟨reset_queueLimits, ?_, reset_bufferLimits, reset_log_sound, reset_agrees.1, reset_agrees.2, reset_grantsWithinBudget,
    reset_countsAndLinksAgree, ?_, ?_, ?_⟩
  · exact ⟨by decide, by decide⟩
  · exact List.Pairwise.nil
  · intro p hp; cases hp
  · intro p hp; cases hp

/-! ## An attempt outside MEASURE and service -/

/-- A head in SEEK with an attempt running of which one marker is still out, and a carrier whose orphan flag stands though
the carrier has no active binding. -/
def strayAttempt : State :=
  (State.reset.modHead 0 fun x =>
    { x with state := .seek, latency := some 0
             markers := some [⟨0, some 100⟩, ⟨1, some 100⟩, ⟨2, some 100⟩, ⟨3, none⟩] }).modCarrier 0
      fun r => { r with orphan := true }

theorem strayAttempt_agrees : strayAttempt.agrees :=
  agrees_of_agreement (modCarrier_agreement _ 0 fun _ => rfl) reset_agrees

/-- The last marker comes back: the delay of 50 du is installed, and no placement changes, so that no flag is evaluated. -/
theorem strayAttempt_returns : ∃ t, exec (.markerReturn 0 3 100) strayAttempt = .next t ∧ t.heads[(0 : Head)].delay = some 50 ∧
    t.carriers[(0 : Carrier)].orphan = true ∧ t.orphanCondition 0 = false :=
  ⟨_, rfl, by decide, by decide, by decide⟩

/-- Refutes O57: a marker that returns to a head out of service installs a delay without that head's entering service where an
attempt runs in SEEK; then a flag that did not hold its condition before is not evaluated. The statement asks that every
flag hold its condition, for every state in which the head is out of service. -/
theorem not_exclusionsFollowDelaysAndCapabilities : ¬ Obligations.ExclusionsFollowDelaysAndCapabilities := by
  unfold Obligations.ExclusionsFollowDelaysAndCapabilities
  intro h
  obtain ⟨t, ht, delay, orphan, condition⟩ := strayAttempt_returns
  obtain ⟨returned, -⟩ := h strayAttempt t 0 (.markerReturn 0 3 100) 0 (by decide) strayAttempt_agrees.1 List.Pairwise.nil
    reset_log_sound ht
  obtain ⟨-, flags, -⟩ := returned ⟨3, 100, rfl⟩ (by rw [delay]; decide)
  have held := flags (by decide) 0
  rw [orphan, condition] at held
  cases held

end Sys2Proof.Machine
end

section
/-! SUPPORT. Admission into a lane table, one newcomer after another (R33, R34). -/

namespace Sys2Proof.Machine

open Sys2Proof

/-! ## Lists -/

/-- Something holds at every element of a list with those before it, where it holds at the first and behind it. -/
theorem forall_split_cons {α : Type} {P : List α → α → Prop} {x : α} {l : List α} :
    (∀ a n b, x :: l = a ++ n :: b → P a n) ↔ P [] x ∧ ∀ a n b, l = a ++ n :: b → P (x :: a) n := by
  constructor
  · exact fun h => ⟨h [] x l rfl, fun a n b e => h (x :: a) n b (congrArg (x :: ·) e)⟩
  · rintro ⟨first, later⟩ a n b e
    obtain ⟨rfl, e⟩ | ⟨a, rfl, e⟩ := List.cons_eq_append_iff.1 e
    · cases e
      exact first
    · exact later a n b (List.cons_inj_right x |>.1 e)

/-- The first hit in an ascending list is its least. -/
theorem find?_ascending {α : Type} [LinearOrder α] {p : α → Bool} {l : List α} (hl : l.Pairwise (· < ·)) (a : α) :
    l.find? p = some a ↔ (a ∈ l ∧ p a = true) ∧ ∀ b, b ∈ l ∧ p b = true → a ≤ b := by
  constructor
  · intro h
    refine ⟨⟨List.mem_of_find?_eq_some h, List.find?_some h⟩, fun b hb => ?_⟩
    obtain ⟨-, before, behind, rfl, none⟩ := List.find?_eq_some_iff_append.1 h
    obtain ⟨-, tail, -⟩ := List.pairwise_append.1 hl
    obtain hm | hm := List.mem_append.1 hb.1
    · have := none b hm
      rw [hb.2] at this
      cases this
    · obtain rfl | hm := List.mem_cons.1 hm
      · exact le_rfl
      · exact (List.rel_of_pairwise_cons tail hm).le
  · rintro ⟨⟨mem, hit⟩, least⟩
    cases e : l.find? p with
    | none => exact absurd hit (by simpa using List.find?_eq_none.1 e a mem)
    | some b =>
      have hb := List.find?_some e
      have mb := List.mem_of_find?_eq_some e
      have le := least b ⟨mb, hb⟩
      obtain ⟨-, before, behind, rfl, none⟩ := List.find?_eq_some_iff_append.1 e
      obtain ⟨-, tail, -⟩ := List.pairwise_append.1 hl
      obtain hm | hm := List.mem_append.1 mem
      · have := none a hm
        rw [hit] at this
        cases this
      · obtain rfl | hm := List.mem_cons.1 hm
        · rfl
        · exact absurd (List.rel_of_pairwise_cons tail hm) (not_lt_of_ge le)

theorem starts_ascending (w : WidthClass) : w.starts.Pairwise (· < ·) := by cases w <;> decide

/-! ## One newcomer -/

/-- A carrier may take a start unit of a lane table: it is a permitted one, and its run is FREE (R27, R33). -/
def State.fitsIn (s : State) (lanes : Vector LaneUnit 8) (c : Carrier) (u : LaneIndex) : Prop :=
  u ∈ s.carriers[c].width.starts ∧ ∀ i, covers u.val s.carriers[c].width.units i → lanes[i] = .free

/-- A carrier has the capability that its width class needs on a head (R34). -/
def State.ableOn (s : State) (h : Head) (c : Carrier) : Prop :=
  s.carriers[c].width = .wide → s.heads[h].capability = .yes

/-- A newcomer passes at a start unit: it is able, the unit is the lowest that it may take, and its delay check does not fail on
this head (R33 to R35). -/
def State.passesIn (s : State) (h : Head) (newHeads : Carrier → List Head) (lanes : Vector LaneUnit 8) (n : Carrier × LaneIndex) :
    Prop :=
  s.ableOn h n.1 ∧ s.fitsIn lanes n.1 n.2 ∧ (∀ v, s.fitsIn lanes n.1 v → n.2 ≤ v) ∧ s.delayFailure n.1 (newHeads n.1) ≠ some h

/-- A newcomer fails with the reason of its first failing check (R34, R36). -/
def State.failsIn (s : State) (h : Head) (newHeads : Carrier → List Head) (lanes : Vector LaneUnit 8) (r : FailureReason)
    (c : Carrier) : Prop :=
  (r = .incapable ∧ ¬ s.ableOn h c) ∨
    (r = .laneFragmented ∧ s.ableOn h c ∧ (∀ u, ¬ s.fitsIn lanes c u) ∧ s.carriers[c].width.units ≤ freeUnits lanes) ∨
    (r = .laneFull ∧ s.ableOn h c ∧ (∀ u, ¬ s.fitsIn lanes c u) ∧ freeUnits lanes < s.carriers[c].width.units) ∨
    (r = .delaySpread ∧ s.ableOn h c ∧ (∃ u, s.fitsIn lanes c u) ∧ s.delayFailure c (newHeads c) = some h)

/-- A newcomer's run in a lane table (R33). -/
def State.placeIn (s : State) (lanes : Vector LaneUnit 8) (n : Carrier × LaneIndex) : Vector LaneUnit 8 :=
  fillLanes lanes n.2.val s.carriers[n.1].width.units (.owned n.1)

/-- The start unit that admission finds, where it finds one. -/
def State.startIn (s : State) (lanes : Vector LaneUnit 8) (c : Carrier) : Option LaneIndex :=
  s.carriers[c].width.starts.find? fun u => unitsFree lanes u.val s.carriers[c].width.units

theorem fitsIn_iff (s : State) (lanes : Vector LaneUnit 8) (c : Carrier) (u : LaneIndex) :
    s.fitsIn lanes c u ↔ u ∈ s.carriers[c].width.starts ∧ unitsFree lanes u.val s.carriers[c].width.units = true :=
  and_congr_right fun _ => (unitsFree_iff lanes u.val s.carriers[c].width.units).symm

theorem startIn_eq_some (s : State) (lanes : Vector LaneUnit 8) (c : Carrier) (u : LaneIndex) :
    s.startIn lanes c = some u ↔ s.fitsIn lanes c u ∧ ∀ v, s.fitsIn lanes c v → u ≤ v := by
  simp only [fitsIn_iff]
  exact find?_ascending (starts_ascending _) u

theorem startIn_eq_none (s : State) (lanes : Vector LaneUnit 8) (c : Carrier) :
    s.startIn lanes c = none ↔ ∀ u, ¬ s.fitsIn lanes c u := by
  simp only [fitsIn_iff, State.startIn, List.find?_eq_none, not_and]

section
variable (s : State) (h : Head) (newHeads : Carrier → List Head) (c : Carrier) (rest : List Carrier) (lanes : Vector LaneUnit 8)

/-- The admission of a newcomer ahead of others, by the start unit found. -/
theorem admitInOrder_cons_eq :
    s.admitInOrder h newHeads (c :: rest) lanes =
      if s.carriers[c].width = .wide ∧ s.heads[h].capability ≠ .yes then .failed .incapable c
      else match s.startIn lanes c with
        | none => if s.carriers[c].width.units ≤ freeUnits lanes then .failed .laneFragmented c else .failed .laneFull c
        | some u =>
          if s.delayFailure c (newHeads c) = some h then .failed .delaySpread c
          else match s.admitInOrder h newHeads rest (s.placeIn lanes (c, u)) with
            | .failed r d => .failed r d
            | .admitted starts => .admitted ((c, u) :: starts) := by
  rfl

theorem not_ableOn_iff : ¬ s.ableOn h c ↔ s.carriers[c].width = .wide ∧ s.heads[h].capability ≠ .yes := by
  simp [State.ableOn]

/-- A newcomer ahead of others fails, or passes and leaves the others to a lane table with its run. -/
theorem admitInOrder_cons_cases :
    (∃ r, s.failsIn h newHeads lanes r c ∧ s.admitInOrder h newHeads (c :: rest) lanes = .failed r c) ∨
      ∃ u, s.passesIn h newHeads lanes (c, u) ∧ s.admitInOrder h newHeads (c :: rest) lanes =
        match s.admitInOrder h newHeads rest (s.placeIn lanes (c, u)) with
          | .failed r d => .failed r d
          | .admitted starts => .admitted ((c, u) :: starts) := by
  rw [admitInOrder_cons_eq]
  by_cases able : s.ableOn h c
  · rw [if_neg fun x => (not_ableOn_iff s h c).2 x able]
    cases start : s.startIn lanes c with
    | none =>
      have none := (startIn_eq_none s lanes c).1 start
      by_cases room : s.carriers[c].width.units ≤ freeUnits lanes
      · exact .inl ⟨_, .inr (.inl ⟨rfl, able, none, room⟩), if_pos room⟩
      · exact .inl ⟨_, .inr (.inr (.inl ⟨rfl, able, none, not_le.1 room⟩)), if_neg room⟩
    | some u =>
      obtain ⟨fits, least⟩ := (startIn_eq_some s lanes c u).1 start
      by_cases delay : s.delayFailure c (newHeads c) = some h
      · exact .inl ⟨_, .inr (.inr (.inr ⟨rfl, able, ⟨u, fits⟩, delay⟩)), if_pos delay⟩
      · exact .inr ⟨u, ⟨able, fits, least, delay⟩, if_neg delay⟩
  · exact .inl ⟨_, .inl ⟨rfl, able⟩, if_pos ((not_ableOn_iff s h c).1 able)⟩

theorem not_passesIn_of_failsIn {r : FailureReason} (u : LaneIndex) (fails : s.failsIn h newHeads lanes r c) :
    ¬ s.passesIn h newHeads lanes (c, u) := by
  rintro ⟨able, fits, -, delay⟩
  obtain ⟨-, x⟩ | ⟨-, -, x, -⟩ | ⟨-, -, x, -⟩ | ⟨-, -, -, x⟩ := fails
  · exact x able
  · exact x u fits
  · exact x u fits
  · exact delay x

end

theorem passesIn_unique {s : State} {h : Head} {newHeads : Carrier → List Head} {lanes : Vector LaneUnit 8} {c : Carrier}
    {u v : LaneIndex} (hu : s.passesIn h newHeads lanes (c, u)) (hv : s.passesIn h newHeads lanes (c, v)) : u = v :=
  le_antisymm (hu.2.2.1 v hv.2.1) (hv.2.2.1 u hu.2.1)

/-! ## Newcomers in order -/

/-- A lane table with the runs of newcomers placed one after another. -/
def State.placeAll (s : State) (lanes : Vector LaneUnit 8) (placed : List (Carrier × LaneIndex)) : Vector LaneUnit 8 :=
  placed.foldl s.placeIn lanes

/-- Exactly the newcomers in their order are admitted, each of which passes beside those before it (R32, R33). -/
theorem admitInOrder_admitted_iff (s : State) (h : Head) (newHeads : Carrier → List Head) (order : List Carrier) :
    ∀ (lanes : Vector LaneUnit 8) (starts : List (Carrier × LaneIndex)),
      s.admitInOrder h newHeads order lanes = .admitted starts ↔
        starts.map (·.1) = order ∧ ∀ a n b, starts = a ++ n :: b → s.passesIn h newHeads (s.placeAll lanes a) n := by
  induction order with
  | nil =>
    intro lanes starts
    rw [List.map_eq_nil_iff]
    constructor
    · intro e
      cases e
      exact ⟨rfl, fun a n b e => absurd e (by simp)⟩
    · rintro ⟨rfl, -⟩
      rfl
  | cons c rest ih =>
    intro lanes starts
    obtain ⟨r, fails, e⟩ | ⟨u, passes, e⟩ := admitInOrder_cons_cases s h newHeads c rest lanes
    · rw [e]
      refine ⟨nofun, fun ⟨order, all⟩ => ?_⟩
      obtain ⟨⟨d, v⟩, more, rfl, rfl, -⟩ := List.map_eq_cons_iff.1 order
      exact absurd (all [] _ more rfl) (not_passesIn_of_failsIn s h newHeads d lanes v fails)
    · rw [e]
      constructor
      · intro e
        cases behind : s.admitInOrder h newHeads rest (s.placeIn lanes (c, u)) with
        | failed r d => rw [behind] at e; cases e
        | admitted more =>
          rw [behind] at e
          cases e
          obtain ⟨order, all⟩ := (ih _ _).1 behind
          exact ⟨congrArg (c :: ·) order, forall_split_cons.2 ⟨passes, all⟩⟩
      · rintro ⟨order, all⟩
        obtain ⟨⟨d, v⟩, more, rfl, rfl, -⟩ := List.map_eq_cons_iff.1 order
        obtain ⟨first, later⟩ := forall_split_cons.1 all
        obtain rfl := passesIn_unique passes first
        rw [(ih _ more).2 ⟨(List.cons.inj order).2, later⟩]

/-- Where admission fails, it fails with the first newcomer that does not pass beside those before it (R34, R36). -/
theorem admitInOrder_failed (s : State) (h : Head) (newHeads : Carrier → List Head) {r : FailureReason} {c : Carrier}
    (order : List Carrier) : ∀ lanes : Vector LaneUnit 8, s.admitInOrder h newHeads order lanes = .failed r c →
      ∃ placed rest, order = placed.map (·.1) ++ c :: rest ∧
        (∀ a n b, placed = a ++ n :: b → s.passesIn h newHeads (s.placeAll lanes a) n) ∧
        s.failsIn h newHeads (s.placeAll lanes placed) r c := by
  induction order with
  | nil => exact fun lanes e => nomatch e
  | cons d more ih =>
    intro lanes e
    obtain ⟨q, fails, e'⟩ | ⟨u, passes, e'⟩ := admitInOrder_cons_cases s h newHeads d more lanes
    · rw [e'] at e
      cases e
      exact ⟨[], more, rfl, fun a n b e => absurd e (by simp), fails⟩
    · rw [e'] at e
      cases behind : s.admitInOrder h newHeads more (s.placeIn lanes (d, u)) with
      | admitted starts => rw [behind] at e; cases e
      | failed q x =>
        rw [behind] at e
        cases e
        obtain ⟨placed, rest, order, all, fails⟩ := ih _ behind
        exact ⟨(d, u) :: placed, rest, congrArg (d :: ·) order, forall_split_cons.2 ⟨passes, all⟩, fails⟩

/-! ## FREE units -/

theorem placeAll_free_iff (s : State) (placed : List (Carrier × LaneIndex)) (i : LaneIndex) : ∀ lanes : Vector LaneUnit 8,
    (s.placeAll lanes placed)[i] = .free ↔
      lanes[i] = .free ∧ ∀ n ∈ placed, ¬ covers n.2.val s.carriers[n.1].width.units i := by
  induction placed with
  | nil => simp [State.placeAll]
  | cons n placed ih =>
    intro lanes
    rw [State.placeAll, List.foldl_cons, ← State.placeAll, ih]
    obtain ⟨inside, outside⟩ := fillLanes_get lanes n.2.val s.carriers[n.1].width.units (.owned n.1) i
    rw [List.forall_mem_cons, ← and_assoc]
    refine and_congr_left fun _ => ?_
    rw [State.placeIn]
    by_cases hc : covers n.2.val s.carriers[n.1].width.units i
    · rw [inside hc]
      exact ⟨nofun, fun x => absurd hc x.2⟩
    · rw [outside hc]
      exact ⟨fun x => ⟨x, hc⟩, And.left⟩

/-- The copy of a lane table that admission starts from has FREE what is FREE or belongs to a departing carrier (R32). -/
theorem departed_free_iff (departing : List Carrier) (i : LaneIndex) : ∀ lanes : Vector LaneUnit 8,
    (departing.foldl (fun lanes c => replaceLanes lanes (.owned c) .free) lanes)[i] = .free ↔
      lanes[i] = .free ∨ ∃ d ∈ departing, lanes[i] = .owned d := by
  induction departing with
  | nil => simp
  | cons c departing ih =>
    intro lanes
    rw [List.foldl_cons, ih, replaceLanes_get]
    by_cases e : lanes[i] = .owned c
    · simp [e]
    · rw [if_neg e, List.exists_mem_cons_iff, or_iff_right e]

theorem freeUnits_eq (lanes : Vector LaneUnit 8) : freeUnits lanes = (List.finRange 8).countP fun i => decide (lanes[i] = .free) := by
  have listed : lanes.toList = (List.finRange 8).map fun i => lanes[i] := by
    apply List.ext_getElem <;> simp
  rw [freeUnits, listed, List.countP_map]
  rfl

end Sys2Proof.Machine
end

section
/-! PROOF of O14: admission, the delay check and the validation of a staged map. -/

namespace Sys2Proof.Machine

open Sys2Proof

/-! ## The delay check (R35) -/

theorem mem_consideredDelays (s : State) (c : Carrier) (newHeads : List Head) (d : Nat) :
    d ∈ s.consideredDelays c newHeads ↔
      ∃ g ∈ newHeads, s.heads[g].delay = some d ∧ ∀ p, s.placement g c = some p → p.exclusion = .none := by
  rw [State.consideredDelays, List.mem_filterMap]
  refine exists_congr fun g => and_congr_right fun _ => ?_
  cases s.placement g c with
  | none => simp
  | some p =>
    dsimp only
    split <;> simp [*]

/-- The better of a head and the farthest before it. -/
def State.farther (s : State) (best : Option (Head × Nat)) (h : Head) : Option (Head × Nat) :=
  match s.heads[h].delay, best with
  | none, _ => best
  | some d, none => some (h, d)
  | some d, some (g, e) => if e < d then some (h, d) else some (g, e)

theorem farthest_eq (s : State) (l : List Head) : s.farthest l = (l.foldl s.farther none).map (·.1) := rfl

/-- A head of a list has the largest delay there, and is the lowest that has it. -/
structure State.isFarthest (s : State) (l : List Head) (g : Head) (d : Nat) : Prop where
  mem : g ∈ l
  delay : s.heads[g].delay = some d
  largest : ∀ k ∈ l, ∀ e, s.heads[k].delay = some e → e < d ∨ (e = d ∧ g ≤ k)

/-- The best found among the heads of a list is the lowest of largest delay, and there is none where no delay is known. -/
def State.farthestOf (s : State) (l : List Head) : Option (Head × Nat) → Prop
  | none => ∀ g ∈ l, s.heads[g].delay = none
  | some (g, d) => s.isFarthest l g d

theorem farther_farthestOf {s : State} {l : List Head} {h : Head} (before : ∀ g ∈ l, g < h) {best : Option (Head × Nat)}
    (hb : s.farthestOf l best) : s.farthestOf (l ++ [h]) (s.farther best h) := by
  unfold State.farther
  cases hd : s.heads[h].delay with
  | none =>
    cases best with
    | none =>
      intro g hg
      obtain hg | hg := List.mem_append.1 hg
      · exact hb g hg
      · rw [List.mem_singleton.1 hg, hd]
    | some x =>
      refine ⟨List.mem_append_left _ hb.mem, hb.delay, fun k hk e he => ?_⟩
      obtain hk | hk := List.mem_append.1 hk
      · exact hb.largest k hk e he
      · rw [List.mem_singleton.1 hk, hd] at he
        cases he
  | some d =>
    have self : h ∈ l ++ [h] := List.mem_append_right _ (List.mem_singleton.2 rfl)
    cases best with
    | none =>
      refine ⟨self, hd, fun k hk e he => ?_⟩
      obtain hk | hk := List.mem_append.1 hk
      · rw [hb k hk] at he
        cases he
      · rw [List.mem_singleton.1 hk, hd] at he
        cases he
        exact .inr ⟨rfl, (List.mem_singleton.1 hk).ge⟩
    | some x =>
      obtain ⟨g, m⟩ := x
      dsimp only
      split
      · next lt =>
        refine ⟨self, hd, fun k hk e he => ?_⟩
        obtain hk | hk := List.mem_append.1 hk
        · exact .inl ((hb.largest k hk e he).elim lt.trans' fun x => x.1 ▸ lt)
        · rw [List.mem_singleton.1 hk, hd] at he
          cases he
          exact .inr ⟨rfl, (List.mem_singleton.1 hk).ge⟩
      · next nlt =>
        refine ⟨List.mem_append_left _ hb.mem, hb.delay, fun k hk e he => ?_⟩
        obtain hk | hk := List.mem_append.1 hk
        · exact hb.largest k hk e he
        · rw [List.mem_singleton.1 hk, hd] at he
          cases he
          obtain lt | eq := (not_lt.1 nlt).lt_or_eq
          · exact .inl lt
          · exact .inr ⟨eq, List.mem_singleton.1 hk ▸ (before g hb.mem).le⟩

theorem foldl_farthestOf {s : State} (l : List Head) : ∀ {done : List Head} {best : Option (Head × Nat)},
    (done ++ l).Pairwise (· < ·) → s.farthestOf done best → s.farthestOf (done ++ l) (l.foldl s.farther best) := by
  induction l with
  | nil =>
    intro done best _ hb
    rwa [List.append_nil]
  | cons h l ih =>
    intro done best order hb
    have before := (List.pairwise_append.1 order).2.2
    rw [List.append_cons] at order ⊢
    exact ih order (farther_farthestOf (fun g hg => before g hg h List.mem_cons_self) hb)

theorem farthestOf_foldl (s : State) {l : List Head} (order : l.Pairwise (· < ·)) : s.farthestOf l (l.foldl s.farther none) :=
  foldl_farthestOf (s := s) l (done := []) (best := none) order nofun

theorem farthest_eq_none (s : State) {l : List Head} (order : l.Pairwise (· < ·)) :
    s.farthest l = none ↔ ∀ g ∈ l, s.heads[g].delay = none := by
  have spec := farthestOf_foldl s order
  rw [farthest_eq, Option.map_eq_none_iff]
  cases e : l.foldl s.farther none with
  | none =>
    rw [e] at spec
    exact ⟨fun _ => spec, fun _ => rfl⟩
  | some x =>
    rw [e] at spec
    refine ⟨nofun, fun none => ?_⟩
    have := none x.1 spec.mem
    rw [spec.delay] at this
    cases this

theorem farthest_eq_some (s : State) {l : List Head} (order : l.Pairwise (· < ·)) (g : Head) :
    s.farthest l = some g ↔ ∃ d, s.isFarthest l g d := by
  have spec := farthestOf_foldl s order
  rw [farthest_eq, Option.map_eq_some_iff]
  constructor
  · rintro ⟨⟨g, d⟩, e, rfl⟩
    rw [e] at spec
    exact ⟨d, spec⟩
  · rintro ⟨d, hg⟩
    cases e : l.foldl s.farther none with
    | none =>
      rw [e] at spec
      have := spec g hg.mem
      rw [hg.delay] at this
      cases this
    | some x =>
      obtain ⟨k, m⟩ := x
      rw [e] at spec
      have below : d < m ∨ (d = m ∧ k ≤ g) := spec.largest g hg.mem d hg.delay
      have above : m < d ∨ (m = d ∧ g ≤ k) := hg.largest k spec.mem m spec.delay
      refine ⟨(k, m), rfl, ?_⟩
      obtain lt | ⟨rfl, le⟩ := below
      · exact absurd lt (above.elim lt_asymm fun x => x.1.le.not_gt)
      · exact le_antisymm le (above.elim (fun x => absurd x (lt_irrefl _)) And.right)

/-- The delays that the check of a carrier considers lie within the limit (R35). -/
theorem spread_le_iff (limit : Nat) (delays : List Nat) :
    spread delays ≤ limit ↔ ∀ a ∈ delays, ∀ b ∈ delays, a ≤ b + limit := by
  rw [← not_lt, lt_spread_iff]
  push Not
  exact ⟨fun h a ha b hb => h b hb a ha, fun h a ha b hb => h b hb a ha⟩

theorem delayFailure_eq (s : State) (c : Carrier) (newHeads : List Head) :
    s.delayFailure c newHeads =
      if spread (s.consideredDelays c newHeads) ≤ 1023 then none else s.farthest (s.gainingHeads c newHeads) := rfl

/-! ## Validation (R143, R144) -/

theorem validateMap_eq_valid (s : State) (map : SectorMap) (layout : List HeadLayout) :
    s.validateMap map = .valid layout ↔ layout.map (·.head) = s.changedHeads map ∧
      ∀ x ∈ layout, x.departing = s.departing map x.head ∧ s.admitMap map x.head = .admitted x.newcomers := by
  refine ⟨validateMap_valid, fun ⟨heads, verdicts⟩ => ?_⟩
  have none : s.mapFailure map = none := List.findSome?_eq_none_iff.2 fun g hg => by
    rw [← heads] at hg
    obtain ⟨x, hx, rfl⟩ := List.mem_map.1 hg
    rw [(verdicts x hx).2]
  have whole : s.mapLayout map = layout := by
    rw [State.mapLayout, ← heads, List.filterMap_map]
    refine (List.filterMap_congr fun x hx => ?_).trans List.filterMap_some
    obtain ⟨departing, admitted⟩ := verdicts x hx
    simp only [Function.comp, admitted, ← departing]
  rw [State.validateMap, none, whole]

/-- The heads of a layout are the changed ones exactly where they ascend and have the same members. -/
theorem heads_eq_changedHeads (s : State) (map : SectorMap) (l : List Head) :
    l = s.changedHeads map ↔ l.Pairwise (· < ·) ∧ ∀ h, h ∈ l ↔ h ∈ s.changedHeads map := by
  have order : (s.changedHeads map).Pairwise (· < ·) := allHeads_ascending.filter _
  constructor
  · rintro rfl
    exact ⟨order, fun _ => Iff.rfl⟩
  · rintro ⟨order', mem⟩
    exact ((List.perm_ext_iff_of_nodup order'.nodup order.nodup).2 mem).eq_of_pairwise
      (fun a b _ _ h k => absurd h k.asymm) order' order

theorem mem_changedHeads (s : State) (map : SectorMap) (h : Head) :
    h ∈ s.changedHeads map ↔ s.departing map h ≠ [] ∨ s.newcomers map h ≠ [] := by
  simp [State.changedHeads, allHeads]

/-- The first member of an ascending list that has a hit. -/
theorem findSome?_ascending {α β : Type} [Preorder α] {f : α → Option β} {l : List α} (hl : l.Pairwise (· < ·)) {b : β}
    (h : l.findSome? f = some b) : ∃ a ∈ l, f a = some b ∧ ∀ x ∈ l, x < a → f x = none := by
  obtain ⟨before, a, behind, rfl, hit, none⟩ := List.findSome?_eq_some_iff.1 h
  refine ⟨a, by simp, hit, fun x hx lt => ?_⟩
  obtain hx | hx := List.mem_append.1 hx
  · exact none x hx
  · obtain rfl | hx := List.mem_cons.1 hx
    · exact absurd lt (lt_irrefl _)
    · exact absurd lt (List.rel_of_pairwise_cons (List.pairwise_append.1 hl).2.1 hx).asymm

theorem validateMap_invalid {s : State} {map : SectorMap} {f : Failure} (e : s.validateMap map = .invalid f) :
    ∃ h ∈ s.changedHeads map, ∃ c, f.head = some h ∧ f.carrier = some c ∧ s.admitMap map h = .failed f.reason c ∧
      ∀ g ∈ s.changedHeads map, g < h → ∃ starts, s.admitMap map g = .admitted starts := by
  have failure : s.mapFailure map = some f := by
    unfold State.validateMap at e
    split at e <;> cases e
    assumption
  obtain ⟨h, hh, hit, below⟩ := findSome?_ascending (allHeads_ascending.filter _) failure
  cases verdict : s.admitMap map h with
  | admitted starts => rw [verdict] at hit; cases hit
  | failed r c =>
    rw [verdict] at hit
    cases hit
    refine ⟨h, hh, c, rfl, rfl, verdict, fun g hg lt => ?_⟩
    cases lower : s.admitMap map g with
    | admitted starts => exact ⟨starts, rfl⟩
    | failed q d =>
      have := below g hg lt
      rw [lower] at this
      cases this

theorem mem_affectedSet (s : State) (map : SectorMap) (l : Link) :
    l ∈ s.affectedSet map ↔
      ∃ c : Carrier, s.carriers[c].declared = true ∧ c.owner = l ∧ s.newHeadSet map c ≠ s.headSet c := by
  simp only [State.affectedSet, State.changedCarriers, allLinks, allCarriers, List.mem_filter, List.mem_finRange, List.any_eq_true,
    Bool.and_eq_true, decide_eq_true_eq, true_and]
  exact exists_congr fun c => ⟨fun ⟨⟨d, n⟩, o⟩ => ⟨d, o, n⟩, fun ⟨d, o, n⟩ => ⟨⟨d, n⟩, o⟩⟩

/-! ## The statement -/

/-- A unit is FREE in the copy that admission works on, as the statement says it. -/
theorem copy_free_iff (s : State) (h : Head) (departing : List Carrier) (placed : List (Carrier × LaneIndex)) (i : LaneIndex) :
    ((decide (s.lanes[h][i] = .free) || departing.any fun d => decide (s.lanes[h][i] = .owned d)) &&
        placed.all fun n => !(decide (n.2.val ≤ i.val) && decide (i.val < n.2.val + s.carriers[n.1].width.units))) = true ↔
      (s.placeAll (departing.foldl (fun lanes c => replaceLanes lanes (.owned c) .free) s.lanes[h]) placed)[i] = .free := by
  rw [placeAll_free_iff, departed_free_iff]
  simp only [Bool.and_eq_true, Bool.or_eq_true, decide_eq_true_eq, List.any_eq_true, List.all_eq_true, Bool.not_eq_true',
    Bool.and_eq_false_iff, decide_eq_false_iff_not, covers, not_and_or]

theorem admission_part (s : State) (h : Head) (departing newcomers : List Carrier) (newHeads : Carrier → List Head) :
    let lanes := departing.foldl (fun lanes c => replaceLanes lanes (.owned c) .free) s.lanes[h]
    (∀ starts, s.admission h departing newcomers newHeads = .admitted starts ↔
      starts.map (·.1) = s.newcomerOrder newcomers ∧
        ∀ a n b, starts = a ++ n :: b → s.passesIn h newHeads (s.placeAll lanes a) n) ∧
    ∀ r c, s.admission h departing newcomers newHeads = .failed r c →
      ∃ placed rest, s.newcomerOrder newcomers = placed.map (·.1) ++ c :: rest ∧
        (∀ a n b, placed = a ++ n :: b → s.passesIn h newHeads (s.placeAll lanes a) n) ∧
        s.failsIn h newHeads (s.placeAll lanes placed) r c :=
  ⟨admitInOrder_admitted_iff s h newHeads _ _, fun _ _ => admitInOrder_failed s h newHeads _ _⟩

theorem delayCheck_part (s : State) (c : Carrier) (newHeads : List Head) (order : newHeads.Pairwise (· < ·)) :
    let considered := fun d : Nat => ∃ g ∈ newHeads, s.heads[g].delay = some d ∧
      ∀ p, s.placement g c = some p → p.exclusion = .none
    let within := ∀ a b, considered a → considered b → a ≤ b + 1023
    let gaining := fun g : Head => g ∈ newHeads ∧ g ∉ s.headSet c
    (s.delayFailure c newHeads = none ↔ within ∨ ∀ g, gaining g → s.heads[g].delay = none) ∧
    (∀ g, s.delayFailure c newHeads = some g ↔ ¬ within ∧ gaining g ∧ ∃ d, s.heads[g].delay = some d ∧
      ∀ k e, gaining k → s.heads[k].delay = some e → e < d ∨ (e = d ∧ g ≤ k)) := by
  intro considered within gaining
  have within_iff : spread (s.consideredDelays c newHeads) ≤ 1023 ↔ within := by
    rw [spread_le_iff]
    simp only [mem_consideredDelays]
    exact ⟨fun h a b ha hb => h a ha b hb, fun h a ha b hb => h a b ha hb⟩
  have gaining_iff : ∀ g, g ∈ s.gainingHeads c newHeads ↔ gaining g := fun g => mem_gainingHeads
  have ascending : (s.gainingHeads c newHeads).Pairwise (· < ·) := order.filter _
  rw [delayFailure_eq]
  by_cases hw : within
  · rw [if_pos (within_iff.2 hw)]
    exact ⟨⟨fun _ => .inl hw, fun _ => rfl⟩, fun g => ⟨nofun, fun x => absurd hw x.1⟩⟩
  · rw [if_neg (within_iff.not.2 hw), farthest_eq_none s ascending, or_iff_right hw]
    simp only [gaining_iff]
    refine ⟨trivial, fun g => ?_⟩
    rw [farthest_eq_some s ascending, and_iff_right hw]
    constructor
    · rintro ⟨d, mem, delay, largest⟩
      exact ⟨(gaining_iff g).1 mem, d, delay, fun k e hk => largest k ((gaining_iff k).2 hk) e⟩
    · rintro ⟨mem, d, delay, largest⟩
      exact ⟨d, (gaining_iff g).2 mem, delay, fun k hk e => largest k e ((gaining_iff k).1 hk)⟩

theorem validation_part (s : State) (map : SectorMap) :
    (∀ layout, s.validateMap map = .valid layout ↔
      (layout.map (·.head)).Pairwise (· < ·) ∧
        (∀ h, h ∈ layout.map (·.head) ↔ s.departing map h ≠ [] ∨ s.newcomers map h ≠ []) ∧
        ∀ x ∈ layout, x.departing = s.departing map x.head ∧ s.admitMap map x.head = .admitted x.newcomers) ∧
    (∀ f, s.validateMap map = .invalid f → ∃ h c, f.head = some h ∧ f.carrier = some c ∧
      (s.departing map h ≠ [] ∨ s.newcomers map h ≠ []) ∧ s.admitMap map h = .failed f.reason c ∧
      ∀ g, g < h → (s.departing map g ≠ [] ∨ s.newcomers map g ≠ []) → ∃ starts, s.admitMap map g = .admitted starts) := by
  simp only [← mem_changedHeads]
  refine ⟨fun layout => ?_, fun f e => ?_⟩
  · rw [validateMap_eq_valid, heads_eq_changedHeads, and_assoc]
  · obtain ⟨h, hh, c, head, carrier, verdict, below⟩ := validateMap_invalid e
    exact ⟨h, c, head, carrier, hh, verdict, fun g lt hg => below g hg lt⟩

/-- Settles O14: admission is a run over the newcomers in their order, the delay check a search for the lowest head of largest
delay, and validation a pass over the changed heads. -/
theorem admissionAndValidationFollowTheirRules : Obligations.AdmissionAndValidationFollowTheirRules := by
  unfold Obligations.AdmissionAndValidationFollowTheirRules
  refine ⟨fun s h departing newcomers newHeads => ?_, fun s c newHeads order => delayCheck_part s c newHeads order,
    fun s map => ?_⟩
  · intro width order free fits able passes
    have free_iff : ∀ placed i, free placed i = true ↔ _ := copy_free_iff s h departing
    have fits_iff : ∀ placed c u, fits placed c u ↔ s.fitsIn _ c u := fun placed c u =>
      and_congr_right fun _ => forall_congr' fun i => imp_congr_right fun _ => free_iff placed i
    have passes_iff : ∀ placed n, passes placed n ↔ s.passesIn h newHeads _ n := fun placed n => by
      simp only [passes, fits_iff]
      rfl
    have room : ∀ placed, (List.finRange 8).countP (free placed) = freeUnits _ := fun placed => by
      rw [freeUnits_eq]
      exact List.countP_congr fun i _ => (free_iff placed i).trans decide_eq_true_iff.symm
    simp only [passes_iff, fits_iff, room]
    exact admission_part s h departing newcomers newHeads
  · exact ⟨(validation_part s map).1, (validation_part s map).2, mem_affectedSet s map⟩

end Sys2Proof.Machine
end

section
/-!
SUPPORT. What the laws of exclusion and of power look at, and the operations that leave all of it alone, in the order of the
model's files.
-/

namespace Sys2Proof.Machine

open Sys2Proof

/-! ## The outline of a state -/

/-- What the laws of exclusion and of power look at of a placement. -/
def Placement.mark (p : Placement) : Head × Carrier × Exclusion × Nat := (p.head, p.carrier, p.exclusion, p.grant)

/-- The last report of a head carries the PA-off flag. -/
def HeadLink.paOff (x : HeadLink) : Bool :=
  match x.report with
  | none => false
  | some r => r.paOff

/-- The head is in service with its power amplifiers on. -/
def HeadLink.radiates (x : HeadLink) : Bool := x.state.inService && !x.paOff

/-- What the laws of exclusion and of power look at of a head link. -/
def HeadLink.service (x : HeadLink) : Option Nat × Bool := (x.delay, x.radiates)

/-- What the laws of exclusion and of power look at. -/
structure Outline where
  mode   : Mode
  marks  : List (Head × Carrier × Exclusion × Nat)
  heads  : Vector (Option Nat × Bool) 16
  up     : Vector Bool 4
  widths : Vector WidthClass 16
  power  : Vector (Nat × Option Snapshot) 16

def State.outline (s : State) : Outline :=
  { mode := s.mode, marks := s.placements.map Placement.mark, heads := s.heads.map HeadLink.service
    up := s.links.map LinkRecord.up, widths := s.carriers.map CarrierRecord.width
    power := s.power.map fun q => (q.effective, q.running) }

theorem paOff_eq (s : State) (h : Head) : s.paOff h = s.heads[h].paOff := by
  unfold State.paOff HeadLink.paOff
  rfl

section
variable {s t : State} (e : t.outline = s.outline)
include e

theorem mode_of_outline : t.mode = s.mode := congrArg Outline.mode e

theorem marks_of_outline : t.placements.map Placement.mark = s.placements.map Placement.mark := congrArg Outline.marks e

theorem service_of_outline (h : Head) : t.heads[h].service = s.heads[h].service := by
  have := congrArg (fun x : Outline => x.heads[h]) e
  simpa [State.outline] using this

theorem up_of_outline (l : Link) : t.linkUp l = s.linkUp l := by
  have := congrArg (fun x : Outline => x.up[l]) e
  simpa [State.outline, State.linkUp] using this

theorem width_of_outline (c : Carrier) : t.carriers[c].width = s.carriers[c].width := by
  have := congrArg (fun x : Outline => x.widths[c]) e
  simpa [State.outline] using this

theorem power_of_outline (h : Head) :
    t.power[h].effective = s.power[h].effective ∧ t.power[h].running = s.power[h].running := by
  have := congrArg (fun x : Outline => x.power[h]) e
  simpa [State.outline] using this

theorem delay_of_outline (h : Head) : t.heads[h].delay = s.heads[h].delay :=
  congrArg Prod.fst (service_of_outline e h)

end

theorem outline_ite {P : Prop} [Decidable P] {t u : State} {a : Outline} (ht : t.outline = a) (hu : u.outline = a) :
    (if P then t else u).outline = a := by
  split <;> assumption

section
variable (s : State)

theorem forAll_outline {α : Type} {g : α → State → State} (h : ∀ a t, (g a t).outline = t.outline) (l : List α) :
    (forAll l g s).outline = s.outline :=
  forAll_keeps State.outline g h l s

/-! ## Updates of one record -/

/-- A vector with an entry set to one that looks the same, looked at throughout. -/
theorem map_set_of_same {α β : Type} {n : Nat} (f : α → β) (v : Vector α n) (i : Fin n) {x : α} (h : f x = f v[i]) :
    (v.set i x).map f = v.map f := by
  apply Vector.ext
  intro j hj
  simp only [Vector.getElem_map, Vector.getElem_set]
  split
  · next e =>
    subst e
    exact h
  · rfl

theorem setPlacements_map_outline {f : Placement → Placement} (hf : ∀ p, (f p).mark = p.mark) :
    (s.setPlacements (s.placements.map f)).outline = s.outline := by
  have : (s.placements.map f).map Placement.mark = s.placements.map Placement.mark := by
    rw [List.map_map]
    exact List.map_congr_left fun p _ => hf p
  simp only [State.outline, State.setPlacements_placements, this]
  rfl

theorem modHead_outline (h : Head) {f : HeadLink → HeadLink} (hf : (f s.heads[h]).service = s.heads[h].service) :
    (s.modHead h f).outline = s.outline :=
  congrArg (fun v => { s.outline with heads := v }) (map_set_of_same HeadLink.service s.heads h hf)

theorem modPower_outline (h : Head) {f : PowerHead → PowerHead}
    (hf : ((f s.power[h]).effective, (f s.power[h]).running) = (s.power[h].effective, s.power[h].running)) :
    (s.modPower h f).outline = s.outline :=
  congrArg (fun v => { s.outline with power := v }) (map_set_of_same (fun q : PowerHead => (q.effective, q.running)) s.power h hf)

theorem modLink_outline (l : Link) {f : LinkRecord → LinkRecord} (hf : (f s.links[l]).up = s.links[l].up) :
    (s.modLink l f).outline = s.outline :=
  congrArg (fun v => { s.outline with up := v }) (map_set_of_same LinkRecord.up s.links l hf)

theorem modCarrier_outline (c : Carrier) {f : CarrierRecord → CarrierRecord} (hf : (f s.carriers[c]).width = s.carriers[c].width) :
    (s.modCarrier c f).outline = s.outline :=
  congrArg (fun v => { s.outline with widths := v }) (map_set_of_same CarrierRecord.width s.carriers c hf)

theorem modMonitor_outline (c : Carrier) (f : SaturationMonitor → SaturationMonitor) : (s.modMonitor c f).outline = s.outline := rfl

theorem setSatFrames_outline (n : Nat) : (s.setSatFrames n).outline = s.outline := rfl

theorem setWires_outline (w : Wires) : (s.setWires w).outline = s.outline := rfl

theorem addDue_outline (d : Due) : (s.addDue d).outline = s.outline := outline_ite rfl rfl

/-! ## Messages, the alarm log and orphan flags -/

theorem outline_of_sansLog {s t : State} (h : t.sansLog = s.sansLog) : t.outline = s.outline := (congrArg State.outline h :)

theorem sendUnsolicited_outline (p : Port) (m : Message) : (s.sendUnsolicited p m).outline = s.outline :=
  outline_of_sansLog (sendUnsolicited_sansLog s p m)

theorem withLog_outline (log : AlarmLog) (quiet : Option Link) : (s.withLog log quiet).outline = s.outline :=
  outline_of_sansLog (withLog_sansLog s log quiet)

theorem raise_outline (k : AlarmKind) (x : Subject) (d : Nat) : (s.raise k x d).outline = s.outline :=
  outline_of_sansLog (raise_sansLog s k x d)

theorem clear_outline (k : AlarmKind) (x : Subject) (quiet : Option Link) : (s.clear k x quiet).outline = s.outline :=
  outline_of_sansLog (clear_sansLog s k x quiet)

theorem evalOrphan_outline (c : Carrier) : (s.evalOrphan c).outline = s.outline := by
  have flag : ∀ b, (s.modCarrier c fun r => { r with orphan := b }).outline = s.outline := fun b => modCarrier_outline s c rfl
  exact outline_ite rfl (outline_ite ((raise_outline _ _ _ _).trans (flag _)) ((clear_outline _ _ _ _).trans (flag _)))

/-! ## Ports -/

theorem arrive_outline (p : Port) (m : Message) : (s.arrive p m).outline = s.outline := outline_ite rfl (outline_ite rfl rfl)

theorem deliver_outline (p : Port) (a : Answer) : (s.deliver p a).outline = s.outline := by
  rw [deliver_eq]
  rfl

theorem spiTransaction_outline (bytes : List Byte) : (s.spiTransaction bytes).outline = s.outline := by
  have write : ∀ l, (s.spiWrite l).outline = s.outline := fun l => by
    unfold State.spiWrite
    split
    · rfl
    · exact arrive_outline s _ _
  have read : ∀ n, (s.spiRead n).outline = s.outline := fun n => by
    unfold State.spiRead
    split
    · rfl
    · exact outline_ite rfl rfl
  unfold State.spiTransaction
  split
  · rfl
  · exact outline_ite rfl (outline_ite (write _) (outline_ite (read _) rfl))

/-! ## Load monitor -/

theorem loadBoundary_outline : s.loadBoundary.outline = s.outline := by
  have count : ∀ (p : Placement) (t : State), (t.countPlacement p).outline = t.outline := fun p t => outline_ite rfl rfl
  have counted := forAll_outline s count s.placements
  unfold State.loadBoundary
  exact Eq.trans rfl (outline_ite (P := s.elapsed s.load.windowStart < s.elapsed (s.frame - 1)) rfl
    (outline_ite ((addDue_outline _ _).trans counted) counted))

/-! ## Plans and triggers -/

theorem recordOutcome_outline (o : Outcome) (x : PlanSlot) : (s.recordOutcome o x).outline = s.outline :=
  (forAll_outline _ (fun p u => sendUnsolicited_outline u p _) _).trans rfl

theorem endPlan_outline (k : SlotIndex) (map : SectorMap) (o : Offer) (r : PlanResult) (refusing : Option Link)
    (f : Option Failure) : (s.endPlan k map o r refusing f).outline = s.outline := recordOutcome_outline s _ _

theorem offerSlot_outline (k : SlotIndex) (map : SectorMap) (layout : List HeadLayout) (source : PlanSource) :
    (s.offerSlot k map layout source).outline = s.outline :=
  outline_ite rfl ((forAll_outline _ (fun _ u => sendUnsolicited_outline u _ _) _).trans rfl)

theorem propose_outline (k : SlotIndex) (source : PlanSource) : (s.propose k source).outline = s.outline := by
  unfold State.propose
  split
  · exact recordOutcome_outline s _ _
  · split
    · exact offerSlot_outline s _ _ _ _
    · exact recordOutcome_outline s _ _

theorem expire_outline : s.expire.outline = s.outline :=
  forAll_outline s (fun k t => by
    unfold State.expireSlot
    split
    · exact outline_ite (endPlan_outline t _ _ _ _ _ _) rfl
    · rfl) _

theorem fireTrigger_outline (loads : Vector Load 12) (t : TriggerIndex) : (s.fireTrigger loads t).outline = s.outline :=
  Eq.trans rfl (outline_ite (P := s.defersTrigger = true) (t := s.modTrigger t fun x => { x with awaiting := true }) rfl
    (propose_outline _ _ _))

theorem evalTriggers_outline (loads : Vector Load 12) (l : List TriggerIndex) : ∀ s : State,
    (s.evalTriggers loads l).outline = s.outline := by
  induction l with
  | nil => exact fun _ => rfl
  | cons t l ih =>
    intro s
    unfold State.evalTriggers
    exact outline_ite (ih s) (outline_ite (outline_ite (fireTrigger_outline _ _ _) (ih _)) (ih _))

theorem endWindow_outline : s.endWindow.outline = s.outline := outline_ite (evalTriggers_outline _ _ _) rfl

theorem answerTrigger_outline (t : TriggerIndex) (d : Bool) (loads : Vector Load 12) :
    (s.answerTrigger t d loads).outline = s.outline :=
  (evalTriggers_outline _ _ _).trans (outline_ite rfl rfl)

theorem answerNext_outline : s.answerNext.outline = s.outline := by
  unfold State.answerNext
  split
  · exact answerTrigger_outline _ _ _ _
  · rfl

theorem answerAll_outline : s.answerAll.outline = s.outline := forAll_outline s (fun _ t => answerNext_outline t) _

theorem takeWindowEnd_outline : s.takeWindowEnd.outline = s.outline := outline_ite (endWindow_outline _) rfl

/-! ## Head links -/

theorem raiseHeld_outline (h : Head) (k : AlarmKind) (d : Nat) : (s.raiseHeld h k d).outline = s.outline :=
  (raise_outline _ _ _ _).trans (modHead_outline s h rfl)

theorem clearHeld_outline (h : Head) (k : AlarmKind) : (s.clearHeld h k).outline = s.outline :=
  outline_ite ((clear_outline _ _ _ _).trans (modHead_outline s h rfl)) rfl

theorem resetGuard_outline (h : Head) : (s.resetGuard h).outline = s.outline := clear_outline _ _ _ _

theorem breakService_outline (h : Head) : (s.breakService h).outline = s.outline := rfl

theorem breakLink_outline (l : Link) : (s.breakLink l).outline = s.outline := rfl

theorem breakRun_outline : s.breakRun.outline = s.outline := rfl

theorem setDue_outline (l : List Due) : (s.setDue l).outline = s.outline := rfl

theorem restartPorts_outline (p : Port) : (s.restartPorts p).outline = s.outline := rfl

theorem setLoad_outline (x : LoadMonitor) : (s.setLoad x).outline = s.outline := rfl

theorem setWeight_outline (l : Link) (n : Nat) : (s.setWeight l n).outline = s.outline := rfl

theorem setLog_outline (x : AlarmLog) : (s.setLog x).outline = s.outline := rfl

theorem setArbiter_outline (x : Arbiter) : (s.setArbiter x).outline = s.outline := rfl

theorem takeUp_outline (p : Port) (m : Message) (rest : List Message) : (s.takeUp p m rest).outline = s.outline := rfl

theorem setTiming_outline (x : Timing) : (s.setTiming x).outline = s.outline := rfl

theorem restartWindow_outline (f : Frame) : (s.restartWindow f).outline = s.outline := rfl

theorem seekEntry_outline (h : Head) : (s.seekEntry h).outline = s.outline := modHead_outline s h rfl

theorem inService_of_seekDone {x : HeadLink} (h : x.seekDone = true) : x.state = .seek := by
  simp only [HeadLink.seekDone, Bool.and_eq_true, decide_eq_true_eq] at h
  exact h.1.1

theorem completeSeek_outline (h : Head) (m : Nat) : (s.completeSeek h m).outline = s.outline := by
  unfold State.completeSeek
  split
  · next done =>
    refine modHead_outline s h ?_
    rw [HeadLink.service, HeadLink.service, HeadLink.radiates, HeadLink.radiates, inService_of_seekDone done]
    rfl
  · rfl

theorem followFault_outline (h : Head) (b : Option ReportRecord) (n : ReportRecord) :
    (s.followFault h b n).outline = s.outline :=
  outline_ite (clearHeld_outline s h _) (outline_ite (raiseHeld_outline s h _ _) rfl)

theorem judgePeriod_outline (h : Head) : (s.judgePeriod h).outline = s.outline := by
  unfold State.judgePeriod
  dsimp only
  split
  · rfl
  · exact outline_ite rfl (outline_ite (raise_outline _ _ _ _) (outline_ite (clearHeld_outline s h _) rfl))

theorem seekFallsDue_outline (h : Head) (m : Nat) : (s.seekFallsDue h m).outline = s.outline := by
  unfold State.seekFallsDue
  dsimp only
  split <;> rfl

theorem reportArrived_outline (h : Head) : (s.reportArrived h).outline = s.outline := by
  have judged := (modHead_outline (s.judgePeriod h) h (f := fun x =>
    { x with reportTimer := some s.timing.now, latePassed := false, watched := true }) rfl).trans (judgePeriod_outline s h)
  have seen : (s.modHead h fun x => { x with reportSeen := true }).outline = s.outline := modHead_outline s h rfl
  exact outline_ite judged
    (outline_ite ((seekFallsDue_outline _ h _).trans seen) seen)

theorem passMaximum_outline (h : Head) : (s.passMaximum h).outline = s.outline :=
  (raiseHeld_outline _ h _ _).trans (modHead_outline s h rfl)

theorem watchMaximum_outline (h : Head) : (s.watchMaximum h).outline = s.outline := by
  obtain e | ⟨_, _, _, _, e⟩ := watchMaximum_cases s h <;> rw [e]
  exact passMaximum_outline s h

theorem beginAttempt_outline (h : Head) : (s.beginAttempt h).outline = s.outline := outline_ite (modHead_outline s h rfl) rfl

theorem beginRemeasure_outline (h : Head) : (s.beginRemeasure h).outline = s.outline :=
  outline_ite (modHead_outline s h rfl) rfl

theorem endBlipWindow_outline (h : Head) : (s.endBlipWindow h).outline = s.outline :=
  outline_ite rfl ((modHead_outline _ h rfl).trans (outline_ite (raise_outline _ _ _ _) rfl))

theorem expireHoldOff_outline (h : Head) : (s.expireHoldOff h).outline = s.outline := by
  unfold State.expireHoldOff
  split
  · next failed =>
    refine modHead_outline s h ?_
    rw [HeadLink.service, HeadLink.service, HeadLink.radiates, HeadLink.radiates, failed]
    rfl
  · rfl

/-! ## Sample switch -/

theorem slipCheck_outline (h : Head) : (s.slipCheck h).outline = s.outline := outline_ite (raise_outline _ _ _ _) rfl

theorem appendGroup_outline (h : Head) (g : Group) : (s.appendGroup h g).outline = s.outline :=
  outline_ite ((slipCheck_outline _ h).trans rfl) rfl

theorem readGroup_outline (h : Head) : (s.readGroup h).outline = s.outline := outline_ite ((slipCheck_outline _ h).trans rfl) rfl

theorem modTest_outline (h : Head) (f : TestState → TestState) : (s.modTest h f).outline = s.outline := modHead_outline s h rfl

theorem samplePeriod_outline (streams : Streams) : (s.samplePeriod streams).outline = s.outline := by
  unfold State.samplePeriod
  extract_lets transmission wires t u v
  have ht : t.outline = s.outline := setPlacements_map_outline (s.setWires wires) fun p => rfl
  have hu : u.outline = s.outline := outline_ite ((forAll_outline t (fun c v => modMonitor_outline v c _) allCarriers).trans ht) ht
  have hv : v.outline = s.outline :=
    (forAll_outline u (fun h w => outline_ite (modTest_outline w h _) rfl) allHeads).trans hu
  exact (forAll_outline v (fun h w => readGroup_outline w h) allHeads).trans hv

theorem endSatWindow_outline : s.endSatWindow.outline = s.outline := by
  have judged := forAll_outline s (g := fun c t => t.judgeMonitor c) (fun c t => outline_ite (raise_outline t _ _ _) rfl) allCarriers
  have cleared := forAll_outline (forAll allCarriers (fun c t => t.judgeMonitor c) s)
    (g := fun c t => t.modMonitor c fun m => { m with last := m.count, count := 0 }) (fun c t => modMonitor_outline t c _) allCarriers
  exact outline_ite ((setSatFrames_outline _ 0).trans (cleared.trans judged)) rfl

theorem muteHead_outline (h : Head) (n : Nat) : (s.muteHead h n).outline = s.outline :=
  outline_ite ((raise_outline _ _ _ _).trans rfl) rfl

theorem unmuteHead_outline (h : Head) : (s.unmuteHead h).outline = s.outline := outline_ite ((clear_outline _ _ _ _).trans rfl) rfl

theorem openGate_outline (h : Head) : (s.openGate h).outline = s.outline := outline_ite rfl rfl

theorem restartSwitch_outline : s.restartSwitch.outline = s.outline := by
  unfold State.restartSwitch
  dsimp only
  rw [setSatFrames_outline, forAll_outline _ fun c u => modMonitor_outline u c _, forAll_outline _ fun h u => resetGuard_outline u h]

/-! ## The boundary's parts -/

theorem realign_outline : s.realign.outline = s.outline := setPlacements_map_outline s fun _ => rfl

theorem closeMeters_outline : s.closeMeters.outline = s.outline := setPlacements_map_outline s fun _ => rfl

theorem slotBoundary_outline (k : SlotIndex) : (s.slotBoundary k).outline = s.outline := by
  unfold State.slotBoundary
  split
  · exact outline_ite (addDue_outline _ _) rfl
  · exact addDue_outline s _
  · rfl

theorem planBoundary_outline : s.planBoundary.outline = s.outline :=
  (forAll_outline _ (fun k t => slotBoundary_outline t k) _).trans (outline_ite rfl (addDue_outline _ _))

theorem guardBoundary_outline (h : Head) : (s.guardBoundary h).outline = s.outline :=
  outline_ite (resetGuard_outline s h) (outline_ite rfl
    (outline_ite (outline_ite (outline_ite (addDue_outline _ _) rfl) rfl)
      (outline_ite rfl (outline_ite (addDue_outline _ _) rfl))))

theorem gateBoundary_outline (h : Head) : (s.gateBoundary h).outline = s.outline := outline_ite (addDue_outline _ _) rfl

theorem satBoundary_outline : s.satBoundary.outline = s.outline := outline_ite (addDue_outline _ _) rfl

theorem markerBoundary_outline (h : Head) : (s.markerBoundary h).outline = s.outline := by
  unfold State.markerBoundary
  split
  · exact outline_ite (addDue_outline _ _) rfl
  · exact outline_ite (addDue_outline _ _) (modHead_outline s h rfl)

theorem remeasureBoundary_outline (h : Head) : (s.remeasureBoundary h).outline = s.outline := by
  have counted : (s.modHead h fun y => { y with remeasureCount := y.remeasureCount - 1 }).outline = s.outline :=
    modHead_outline s h rfl
  exact outline_ite (outline_ite ((addDue_outline _ _).trans counted) counted) rfl

theorem lockBoundary_outline (h : Head) : (s.lockBoundary h).outline = s.outline := by
  unfold State.lockBoundary
  extract_lets x t
  have counted : t.outline = s.outline := modHead_outline s h rfl
  exact outline_ite ((seekFallsDue_outline _ _ _).trans counted) counted

theorem blipBoundary_outline (h : Head) : (s.blipBoundary h).outline = s.outline :=
  outline_ite rfl (outline_ite (addDue_outline _ _) (modHead_outline s h rfl))

theorem errorBoundary_outline (h : Head) : (s.errorBoundary h).outline = s.outline :=
  outline_ite rfl (outline_ite (addDue_outline _ _) (modHead_outline s h rfl))

theorem holdOffBoundary_outline (h : Head) : (s.holdOffBoundary h).outline = s.outline := by
  have counted : (s.modHead h fun x => { x with holdOffCount := min 65535 (x.holdOffCount + 1) }).outline = s.outline :=
    modHead_outline s h rfl
  exact outline_ite (outline_ite ((addDue_outline _ _).trans counted) counted) rfl

theorem headBoundary_outline (h : Head) : (s.headBoundary h).outline = s.outline := by
  rw [State.headBoundary, holdOffBoundary_outline, errorBoundary_outline, blipBoundary_outline, lockBoundary_outline,
    remeasureBoundary_outline, markerBoundary_outline]

theorem handBoundary_outline : s.handBoundary.outline = s.outline := by
  unfold State.handBoundary
  dsimp only
  rw [forAll_outline _ (fun h v => headBoundary_outline v h), satBoundary_outline,
    forAll_outline _ (fun h v => (gateBoundary_outline _ h).trans (guardBoundary_outline v h)), loadBoundary_outline,
    planBoundary_outline, closeMeters_outline, realign_outline]

/-! ## Operator links -/

theorem reoffer_outline (l : Link) : (s.reoffer l).outline = s.outline := by
  unfold State.reoffer
  split
  · rfl
  · split
    · exact outline_ite (sendUnsolicited_outline s _ _) rfl
    · rfl

theorem remail_outline (l : Link) : (s.remail l).outline = s.outline := by
  unfold State.remail
  split
  · rfl
  · exact sendUnsolicited_outline s _ _

theorem reattend_outline (l : Link) : (s.reattend l).outline = s.outline := outline_ite (sendUnsolicited_outline s _ _) rfl

end

end Sys2Proof.Machine
end

section
/-!
SUPPORT. What a step can do to placements, exclusions, delays and grants: the elementary moves it is made of, and the
operations of the exclusion, of the head links and of the operator links as runs of such moves.
-/

namespace Sys2Proof.Machine

open Sys2Proof

/-! ## The moves -/

/-- No exclusion for its delay is owed at a pair of head and carrier. -/
def State.judgedAt (s : State) (h : Head) (c : Carrier) : Prop :=
  s.heads[h].delay = none ∨ s.windowTest h c ≠ .window ∨ ∀ p, s.placement h c = some p → p.exclusion ≠ .none

/-- What an event that `settle` follows leaves as it is. -/
structure State.sameHoldings (s t : State) : Prop where
  placements : t.placements = s.placements
  power : t.power = s.power
  widths : ∀ c : Carrier, t.carriers[c].width = s.carriers[c].width
  asleep : t.mode = .reset ↔ s.mode = .reset

/-- State t comes of state s by the moves that steps are made of, up to pairs of head and carrier in U, whose placements
have yet to be judged for their delays. -/
inductive State.Reaches (s : State) : Set (Head × Carrier) → State → Prop
  | start : s.Reaches ∅ s
  | silent {U : Set (Head × Carrier)} {t u : State} : s.Reaches U t → u.outline = t.outline → s.Reaches U u
  | spared {U U' : Set (Head × Carrier)} {t : State} : s.Reaches U t → (∀ p ∈ U, p ∈ U' ∨ t.judgedAt p.1 p.2) → s.Reaches U' t
  | delayed {U : Set (Head × Carrier)} {t : State} (h : Head) (f : HeadLink → HeadLink) : s.Reaches U t →
      (f t.heads[h]).radiates = t.heads[h].radiates → ((f t.heads[h]).delay = none ∨ ∀ c, (h, c) ∈ U) →
      s.Reaches U (t.modHead h f)
  | settled {U : Set (Head × Carrier)} {t u : State} : s.Reaches U t → t.sameHoldings u →
      (∀ h : Head, u.heads[h].delay = t.heads[h].delay ∨ u.heads[h].delay = none ∨ ∀ c, (h, c) ∈ U) → s.Reaches U (settle t u)
  | judged {U U' : Set (Head × Carrier)} {t : State} (h : Head) (c : Carrier) (x : Exclusion) : s.Reaches U t →
      (x = .incapable → t.carriers[c].width = .wide) → (x = .none → t.windowTest h c ≠ .window) → U ⊆ insert (h, c) U' →
      s.Reaches U' (t.setExclusion h c x)
  | recast {U : Set (Head × Carrier)} {t : State} (c : Carrier) (f : CarrierRecord → CarrierRecord) : s.Reaches U t →
      (∀ p ∈ t.placements, p.carrier ≠ c) → s.Reaches U (t.modCarrier c f)
  | requested {U : Set (Head × Carrier)} {t : State} (h : Head) : s.Reaches U t → s.Reaches U (t.requestRecompute h)
  | completed {U : Set (Head × Carrier)} {t : State} (h : Head) : s.Reaches U t → t.mode ≠ .reset →
      s.Reaches U (t.completeRecompute h)
  | abandoned {U : Set (Head × Carrier)} {t : State} (h : Head) (f : PowerHead → PowerHead) : s.Reaches U t →
      (f t.power[h]).effective = t.power[h].effective → (f t.power[h]).running = none → s.Reaches U (t.modPower h f)
  | removed {U : Set (Head × Carrier)} {t : State} (h : Head) (c : Carrier) : s.Reaches U t → s.Reaches U (t.removePlacement h c)
  | created {U : Set (Head × Carrier)} {t : State} (h : Head) (c : Carrier) (u : LaneIndex) : s.Reaches U t → ¬ t.stands h c →
      (h, c) ∈ U → s.Reaches U (t.createPlacement h c u)

section
variable {s t : State} {U U' : Set (Head × Carrier)}

namespace State.Reaches

/-- More pairs may be left to judge. -/
theorem mono (r : s.Reaches U t) (h : U ⊆ U') : s.Reaches U' t := r.spared fun _ hp => .inl (h hp)

theorem ite {P : Prop} [Decidable P] {t u : State} (ht : s.Reaches U t) (hu : s.Reaches U u) :
    s.Reaches U (if P then t else u) := by
  split <;> assumption

/-- A list of operations that each take only moves. -/
theorem forAll {α : Type} {g : α → State → State} (r : s.Reaches U t) (h : ∀ a u, s.Reaches U u → s.Reaches U (g a u)) (l : List α) :
    s.Reaches U (forAll l g t) :=
  forAll_preserves (s.Reaches U) g h l t r

/-- A list of operations that each judge a set of pairs. -/
theorem judgeAll {α : Type} {K : α → Set (Head × Carrier)} {g : α → State → State}
    (h : ∀ a (U U' : Set (Head × Carrier)) u, s.Reaches U u → U ⊆ K a ∪ U' → s.Reaches U' (g a u)) (l : List α) :
    ∀ {U : Set (Head × Carrier)} {t : State}, s.Reaches U t → U ⊆ {p | ∃ a ∈ l, p ∈ K a} ∪ U' →
      s.Reaches U' (Machine.forAll l g t) := by
  induction l with
  | nil => exact fun r hU => r.mono fun p hp => (hU hp).resolve_left fun ⟨_, ha, _⟩ => List.not_mem_nil ha
  | cons a l ih =>
    refine fun r hU => ih (h a _ ({p | ∃ a ∈ l, p ∈ K a} ∪ U') _ r fun p hp => ?_) (subset_refl _)
    obtain ⟨b, hb, hk⟩ | hp := hU hp
    · obtain rfl | hb := List.mem_cons.1 hb
      · exact .inl hk
      · exact .inr (.inl ⟨b, hb, hk⟩)
    · exact .inr (.inr hp)

/-! ## Recomputes -/

theorem requestOnce (r : s.Reaches U t) (s0 : State) (h : Head) : s.Reaches U (t.requestOnce s0 h) := ite r (r.requested h)

theorem handPower (r : s.Reaches U t) (s0 : State) (h : Head) (d : Nat) (b : Bool) : s.Reaches U (t.handPower s0 h d b) :=
  ite r ((r.silent (modPower_outline t h (f := fun q => { q with handedDerate := d, handedPaOff := b }) rfl)).requestOnce s0 h)

/-! ## Exclusion -/

/-- A placement is given the reason that the spread test answers (R39, R40, R41). -/
theorem windowTested (r : s.Reaches U t) {h : Head} {c : Carrier} (hU : U ⊆ insert (h, c) U') :
    s.Reaches U' (t.setExclusion h c (t.windowTest h c)) :=
  r.judged h c _ (fun e => absurd e (windowTest_ne_incapable t h c)) (fun e => by rw [e]; decide) hU

theorem testDelay (r : s.Reaches U t) {h : Head} {c : Carrier} (hU : U ⊆ insert (h, c) U') : s.Reaches U' (t.testDelay h c) := by
  have unowed : t.judgedAt h c → s.Reaches U' t := fun j => r.spared fun p hp => (hU hp).symm.imp_right fun e => by rw [e]; exact j
  unfold State.testDelay
  split
  · next none => exact unowed (.inr (.inr fun p e => by rw [none] at e; cases e))
  · next p here =>
    split
    · next incapable =>
      refine unowed (.inr (.inr fun q e => ?_))
      obtain rfl := Option.some.inj (here.symm.trans e)
      rw [incapable]
      decide
    · split
      · exact r.judged h c .window nofun nofun hU
      · next fits => exact unowed (.inr (.inl fits))

theorem retryPlacement (r : s.Reaches U t) (h : Head) (c : Carrier) : s.Reaches U (t.retryPlacement h c) := by
  unfold State.retryPlacement
  split
  · exact r
  · exact ite (r.windowTested (Set.subset_insert _ _)) r

theorem retryPass (r : s.Reaches U t) : s.Reaches U t.retryPass := r.forAll (fun p _ r => r.retryPlacement p.head p.carrier) _

/-- Where the delay of one head may have changed, all its placements are judged (R39, R40). -/
theorem delayChanged {h : Head} (r : s.Reaches U t) (hU : ∀ p ∈ U, p.1 = h) : s.Reaches ∅ (t.delayChanged h) := by
  refine retryPass ?_
  split
  · refine judgeAll (K := fun p : Placement => {(h, p.carrier)}) (fun p U U' u r hU => r.testDelay hU) (t.placementsOn h)
      (U := {p | ∃ a ∈ t.placementsOn h, p = (h, a.carrier)}) (r.spared fun p hp => or_iff_not_imp_left.2 fun ha => ?_)
      fun p hp => .inl hp
    refine .inr (.inr fun q e => absurd ?_ ha)
    have key := List.find?_some (p := fun q : Placement => decide (q.head = p.1 ∧ q.carrier = p.2)) e
    obtain ⟨head, carrier⟩ := of_decide_eq_true key
    exact ⟨q, List.mem_filter.2 ⟨List.mem_of_find?_eq_some e, by rw [head, hU p hp]; simp⟩, by rw [carrier, ← hU p hp]⟩
  · next unknown =>
    exact r.spared fun p hp => .inr (.inl (by rw [hU p hp]; simpa using unknown))

theorem testCapability (r : s.Reaches U t) (h : Head) (c : Carrier) : s.Reaches U (t.testCapability h c) := by
  unfold State.testCapability
  split
  · exact r
  · split
    · exact r
    · next wide =>
      have wide : t.carriers[c].width = .wide := not_not.1 wide
      exact ite (r.judged h c .incapable (fun _ => wide) nofun (Set.subset_insert _ _))
        (ite (r.windowTested (Set.subset_insert _ _)) r)

theorem capabilityChanged (r : s.Reaches U t) (h : Head) : s.Reaches U (t.capabilityChanged h) :=
  r.forAll (fun p _ r => r.testCapability h p.carrier) _

theorem evalCreated (r : s.Reaches U t) {h : Head} {c : Carrier} (hU : U ⊆ insert (h, c) U') : s.Reaches U' (t.evalCreated h c) := by
  unfold State.evalCreated
  split
  · next wide => exact r.judged h c .incapable (fun _ => wide.1) nofun hU
  · split
    · exact r.windowTested hU
    · next unknown =>
      exact r.spared fun p hp => (hU hp).symm.imp_right fun e => .inl (by rw [e]; simpa using unknown)

end State.Reaches

/-! ## Events that leave the holdings -/

namespace State.sameHoldings

theorem refl (s : State) : s.sameHoldings s := ⟨rfl, rfl, fun _ => rfl, Iff.rfl⟩

theorem modHead {s t : State} (e : s.sameHoldings t) (h : Head) (f : HeadLink → HeadLink) : s.sameHoldings (t.modHead h f) :=
  ⟨e.placements, e.power, e.widths, e.asleep⟩

theorem modPort {s t : State} (e : s.sameHoldings t) (p : Port) (f : PortRecord → PortRecord) : s.sameHoldings (t.modPort p f) :=
  ⟨e.placements, e.power, e.widths, e.asleep⟩

theorem modLink {s t : State} (e : s.sameHoldings t) (l : Link) (f : LinkRecord → LinkRecord) : s.sameHoldings (t.modLink l f) :=
  ⟨e.placements, e.power, e.widths, e.asleep⟩

theorem clearHeld {s t : State} (e : s.sameHoldings t) (h : Head) (k : AlarmKind) : s.sameHoldings (t.clearHeld h k) := by
  unfold State.clearHeld
  split
  · have changed := e.modHead h fun x => { x with held := x.held.filter fun j => j ≠ k }
    have frame := clear_sansLog (t.modHead h fun x => { x with held := x.held.filter fun j => j ≠ k }) k (.head h) none
    exact ⟨(congrArg State.placements frame).trans changed.placements, (congrArg State.power frame).trans changed.power,
      fun c => (congrArg (fun u : State => u.carriers[c].width) frame).trans (changed.widths c),
      (congrArg State.mode frame).symm ▸ changed.asleep⟩
  · exact e

end State.sameHoldings

namespace State.Reaches

/-! ## Entering and leaving service -/

theorem clearHeld (r : s.Reaches U t) (h : Head) (k : AlarmKind) : s.Reaches U (t.clearHeld h k) :=
  r.silent (clearHeld_outline t h k)

/-- A head's record changes, where only its delay may become unknown among what the laws look at. -/
theorem modHead (r : s.Reaches U t) (h : Head) (f : HeadLink → HeadLink) (on : (f t.heads[h]).radiates = t.heads[h].radiates)
    (delay : (f t.heads[h]).delay = t.heads[h].delay ∨ (f t.heads[h]).delay = none) : s.Reaches U (t.modHead h f) := by
  obtain same | unknown := delay
  · exact r.silent (modHead_outline t h (Prod.ext same on))
  · exact r.delayed h f on (.inl unknown)

/-- A departure is handed on, in which delays can become unknown (R99). -/
theorem handOnLeave {u : State} (r : s.Reaches ∅ t) (e : t.sameHoldings u) (h : Head)
    (delays : ∀ g : Head, u.heads[g].delay = t.heads[g].delay ∨ u.heads[g].delay = none) : s.Reaches ∅ (u.handOnLeave t h) := by
  have settled : s.Reaches ∅ (settle t u) := r.settled e fun g => (delays g).imp_right .inl
  have changed : s.Reaches ∅ ((settle t u).delayChanged h) := settled.delayChanged fun _ hp => hp.elim
  exact (changed.requestOnce t h).silent rfl

theorem clearHeld_delay (t : State) (h : Head) (k : AlarmKind) (g : Head) : (t.clearHeld h k).heads[g].delay = t.heads[g].delay :=
  delay_of_outline (clearHeld_outline t h k) g

theorem modHead_delay (u : State) {h : Head} {f : HeadLink → HeadLink}
    (hf : (f u.heads[h]).delay = u.heads[h].delay ∨ (f u.heads[h]).delay = none) (g : Head) :
    (u.modHead h f).heads[g].delay = u.heads[g].delay ∨ (u.modHead h f).heads[g].delay = none := by
  simp only [State.modHead, get_set]
  split
  · next e => exact e ▸ hf
  · exact .inl rfl

theorem leaveService (r : s.Reaches ∅ t) (h : Head) (x : LinkState) : s.Reaches ∅ (t.leaveService h x) := by
  unfold State.leaveService
  extract_lets u v
  have forgets : ∀ {w : State} (g : Head), (w.modHead h fun y => { y with state := x, markers := none, delay := none, fibre := none }).heads[g].delay = w.heads[g].delay ∨ _ :=
    fun {w} => modHead_delay w (.inr rfl)
  have holdings : t.sameHoldings u ∧ ∀ g : Head, u.heads[g].delay = t.heads[g].delay := by
    by_cases e : t.heads[h].state = .degraded
    · rw [show u = t.clearHeld h .headDegraded from if_pos e]
      exact ⟨(State.sameHoldings.refl t).clearHeld h _, clearHeld_delay t h _⟩
    · rw [show u = t from if_neg e]
      exact ⟨.refl t, fun _ => rfl⟩
  obtain ⟨same, delays⟩ := holdings
  exact r.handOnLeave (same.modHead h _) h fun g => (forgets g).imp_left fun e => e.trans (delays g)

/-- A head out of service takes another state that is out of service. -/
theorem modHead_idle (r : s.Reaches U t) {h : Head} (f : HeadLink → HeadLink) (out : t.inService h = false)
    (hf : (f t.heads[h]).state.inService = false) (delay : (f t.heads[h]).delay = t.heads[h].delay ∨ (f t.heads[h]).delay = none) :
    s.Reaches U (t.modHead h f) := by
  have out : t.heads[h].state.inService = false := out
  exact r.modHead h f (by rw [HeadLink.radiates, HeadLink.radiates, out, hf]; rfl) delay

theorem leaveFor (r : s.Reaches ∅ t) (h : Head) {x : LinkState} (hx : x.inService = false) : s.Reaches ∅ (t.leaveFor h x) := by
  unfold State.leaveFor
  split
  · exact r.leaveService h x
  · next out => exact r.modHead_idle _ (Bool.eq_false_iff.2 out) hx (.inl rfl)

theorem enterService (r : s.Reaches ∅ t) (h : Head) (delay : Nat) : s.Reaches ∅ (t.enterService h delay) := by
  unfold State.enterService
  extract_lets u v
  have settled : s.Reaches {p | p.1 = h} (settle t u) :=
    (r.mono (Set.empty_subset _)).settled ((State.sameHoldings.refl t).modHead h _) fun g => by
      by_cases e : g = h
      · exact .inr (.inr fun _ => e)
      · left
        simp only [u, State.modHead, get_set, if_neg (Ne.symm e)]
  have entered : s.Reaches ∅ v := ((settled.delayChanged fun _ hp => hp).requestOnce t h).silent rfl
  exact ((entered.silent (breakService_outline v h)).clearHeld h _).clearHeld h _

/-! ## Losing a head link -/

theorem loseLink (r : s.Reaches ∅ t) (h : Head) (cause : Nat) : s.Reaches ∅ (t.loseLink h cause) :=
  ((r.leaveService h .seek).silent (raiseHeld_outline _ h _ _)).silent (seekEntry_outline _ h)

theorem leaveMeasure (r : s.Reaches ∅ t) (h : Head) : s.Reaches ∅ (t.leaveMeasure h) :=
  (r.leaveFor h rfl).silent (seekEntry_outline _ h)

theorem enterFailed (r : s.Reaches ∅ t) (h : Head) (cause : Nat) : s.Reaches ∅ (t.enterFailed h cause) := by
  have raised := r.silent (raiseHeld_outline t h .headFailed cause)
  exact (raised.silent (modHead_outline _ h (f := fun x => { x with holdOffCount := 0, reportTimer := none }) rfl)).leaveFor h rfl

theorem enterTest (r : s.Reaches ∅ t) (h : Head) : s.Reaches ∅ (t.enterTest h) := by
  unfold State.enterTest
  extract_lets u
  have cleared : s.Reaches ∅ u := r.silent (modHead_outline t h rfl)
  exact cleared.leaveFor h rfl

theorem enterOff (r : s.Reaches ∅ t) (h : Head) : s.Reaches ∅ (t.enterOff h) := by
  unfold State.enterOff
  extract_lets u v w
  have off : t.sameHoldings u ∧ ∀ g : Head, u.heads[g].delay = t.heads[g].delay ∨ u.heads[g].delay = none := by
    have forgotten := fun g => modHead_delay t (h := h) (f := HeadLink.toOff) (.inr rfl) g
    have cleared := forAll_outline (t.modHead h HeadLink.toOff) (g := fun k u => u.clearHeld h k)
      (fun k u => clearHeld_outline u h k) headConditions
    refine ⟨forAll_preserves t.sameHoldings _ (fun k _ e => e.clearHeld h k) headConditions _
      ((State.sameHoldings.refl t).modHead h _), fun g => ?_⟩
    rw [show u.heads[g].delay = _ from delay_of_outline cleared g]
    exact forgotten g
  obtain ⟨same, delays⟩ := off
  have left : s.Reaches ∅ v := by
    by_cases inService : t.inService h = true
    · rw [show v = u.handOnLeave t h from if_pos inService]
      exact r.handOnLeave same h delays
    · rw [show v = u from if_neg inService]
      exact (r.modHead_idle _ (Bool.eq_false_iff.2 inService) rfl (.inr rfl)).forAll (fun k u r => r.clearHeld h k) headConditions
  have stopped : s.Reaches ∅ w := ((left.handPower t h 0 false).silent rfl).silent (resetGuard_outline _ h)
  exact (stopped.delayChanged fun _ hp => hp.elim).capabilityChanged h

theorem loseLight (r : s.Reaches ∅ t) (h : Head) : s.Reaches ∅ (t.loseLight h) := by
  have dark := r.silent (modHead_outline t h (f := fun x => { x with lightTimer := none }) rfl)
  unfold State.loseLight
  dsimp only
  split
  · exact dark.leaveMeasure h
  · exact dark.loseLink h 1
  · exact dark.loseLink h 1
  · exact dark.silent (modHead_outline _ h rfl)
  all_goals exact dark

theorem loseLock (r : s.Reaches ∅ t) (h : Head) : s.Reaches ∅ (t.loseLock h) := by
  have unlocked := r.silent (modHead_outline t h (f := fun x => { x with framerLock := false, lockWhole := false }) rfl)
  unfold State.loseLock
  dsimp only
  split
  · exact unlocked.leaveMeasure h
  · exact unlocked.loseLink h 2
  · exact unlocked.loseLink h 2
  · exact unlocked.silent (modHead_outline _ h rfl)
  all_goals exact unlocked

theorem loseReports (r : s.Reaches ∅ t) (h : Head) : s.Reaches ∅ (t.loseReports h) := by
  unfold State.loseReports
  split
  · exact r.loseLink h 3
  · exact r.loseLink h 3
  · exact r.leaveMeasure h
  all_goals exact r

theorem watchLost (r : s.Reaches ∅ t) (h : Head) : s.Reaches ∅ (t.watchLost h) := by
  unfold State.watchLost
  split
  · exact r
  · exact ite (r.loseReports h) r

theorem watchLight (r : s.Reaches ∅ t) (h : Head) : s.Reaches ∅ (t.watchLight h) := by
  unfold State.watchLight
  split
  · exact r
  · exact ite (r.loseLight h) r

theorem compareLimits (r : s.Reaches ∅ t) (h : Head) (old : HeadSettings) : s.Reaches ∅ (t.compareLimits h old) := by
  unfold State.compareLimits
  extract_lets y u v w
  have hu : s.Reaches ∅ u := ite (r.silent (completeSeek_outline t h _)) r
  have hv : s.Reaches ∅ v := ite ((hu.silent (modHead_outline u h rfl)).silent (watchMaximum_outline _ h)) hu
  have hw : s.Reaches ∅ w := ite (hv.watchLost h) hv
  exact ite (hw.watchLight h) hw

/-! ## Reports -/

theorem takeCapability (r : s.Reaches U t) (h : Head) (x : HeadReport) : s.Reaches U (t.takeCapability h x) := by
  have taken := r.silent (modHead_outline t h
    (f := fun y => { y with capability := if x.wide then .yes else .no, latency := some x.latency.val }) rfl)
  exact ite taken (taken.capabilityChanged h)

theorem takeReport (r : s.Reaches U t) (h : Head) (x : HeadReport) : s.Reaches U (t.takeReport h x) := by
  unfold State.takeReport
  extract_lets now u v
  have taken : s.Reaches U v := by
    by_cases same : t.paOff h = x.paOff
    · rw [show v = u from if_pos same]
      refine r.silent (modHead_outline t h (Prod.ext rfl ?_))
      show (t.heads[h].state.inService && !x.paOff) = (t.heads[h].state.inService && !t.heads[h].paOff)
      rw [← same, paOff_eq]
    · rw [show v = settle t u from if_neg same]
      exact r.settled ((State.sameHoldings.refl t).modHead h _) fun g => (modHead_delay t (.inl rfl) g).imp_right .inl
  exact (taken.handPower t h _ _).silent (followFault_outline _ h _ _)

/-! ## Delay measurement and windows -/

theorem failAttempt (r : s.Reaches ∅ t) (h : Head) (reason : Nat) : s.Reaches ∅ (t.failAttempt h reason) := by
  unfold State.failAttempt
  extract_lets x u
  have failed : s.Reaches ∅ u := (r.silent (modHead_outline t h rfl)).silent (raise_outline _ _ _ _)
  exact ite (ite (failed.enterFailed h 2) failed) (failed.silent (modHead_outline _ h rfl))

theorem acceptRemeasure (r : s.Reaches ∅ t) (h : Head) (delay : Nat) : s.Reaches ∅ (t.acceptRemeasure h delay) := by
  unfold State.acceptRemeasure
  extract_lets u d
  have kept : s.Reaches ∅ u := r.silent (modHead_outline t h rfl)
  have installed := (kept.mono (Set.empty_subset {p : Head × Carrier | p.1 = h})).delayed h
    (fun y => { y with delay := some delay, fibre := some (fibreLength y.settings.fibreCode delay) }) rfl (.inr fun _ => rfl)
  exact ite kept ((installed.silent (raise_outline _ _ _ _)).delayChanged fun _ hp => hp)

theorem completeAttempt (r : s.Reaches ∅ t) (h : Head) (trips : List Nat) : s.Reaches ∅ (t.completeAttempt h trips) := by
  unfold State.completeAttempt
  split
  · exact r.failAttempt h _
  · exact ite (r.enterService h _) (r.acceptRemeasure h _)

theorem returnMarker (r : s.Reaches ∅ t) (h : Head) (frame : Frame) (trip : Nat) : s.Reaches ∅ (t.returnMarker h frame trip) := by
  unfold State.returnMarker
  split
  · exact r
  · have recorded : ∀ ms, s.Reaches ∅ (t.modHead h fun x => { x with markers := some ms }) := fun ms =>
      r.silent (modHead_outline t h rfl)
    exact ite r (ite ((recorded _).completeAttempt h _) (recorded _))

theorem loseMarker (r : s.Reaches ∅ t) (h : Head) : s.Reaches ∅ (t.loseMarker h) := ite (r.failAttempt h 4) r

theorem endErrorWindow (r : s.Reaches ∅ t) (h : Head) : s.Reaches ∅ (t.endErrorWindow h) := by
  unfold State.endErrorWindow
  extract_lets x u n v
  have counted : s.Reaches ∅ u := r.silent (modHead_outline t h rfl)
  have judged : x.state.inService = true → ∀ f : HeadLink → HeadLink, (f u.heads[h]).state.inService = true →
      (f u.heads[h]).paOff = u.heads[h].paOff → (f u.heads[h]).delay = u.heads[h].delay → s.Reaches ∅ (u.modHead h f) := by
    intro serving f still paOff delay
    have serving : u.heads[h].state.inService = true := by
      simp only [u, State.modHead, get_set, if_true]
      exact serving
    exact counted.silent (modHead_outline u h (Prod.ext delay (by
      show (_ && !_) = (_ && !_)
      rw [still, serving, paOff])))
  split
  · next up =>
    exact ite ((judged (by rw [up]; rfl) _ rfl rfl rfl).silent (raiseHeld_outline _ h _ _)) counted
  · next degraded =>
    have more : s.Reaches ∅ v := counted.silent (modHead_outline u h rfl)
    exact ite ((judged (by rw [degraded]; rfl) _ rfl rfl rfl).clearHeld h _) (ite ((more.clearHeld h _).enterFailed h 1) more)
  all_goals exact r

end State.Reaches

end

end Sys2Proof.Machine
end

section
/-!
SUPPORT. Operator links, changes of mode, boundaries, bindings and plans as runs of the moves.
-/

namespace Sys2Proof.Machine

open Sys2Proof

section
variable {s t : State} {U U' : Set (Head × Carrier)}

theorem removePlacement_mode (t : State) (h : Head) (c : Carrier) : (t.removePlacement h c).mode = t.mode := by
  simp [State.removePlacement, State.withdrawWritable]

namespace State.Reaches

/-! ## The device reset stays away -/

/-- The moves of a step do not lead into the device reset. -/
theorem awake (r : s.Reaches U t) (h : s.mode ≠ .reset) : t.mode ≠ .reset := by
  induction r with
  | start => exact h
  | silent _ e ih => exact mode_of_outline e ▸ ih
  | spared _ _ ih => exact ih
  | delayed _ _ _ _ _ ih => exact ih
  | settled _ e _ ih => exact fun x => ih (e.asleep.1 ((mode_of_sansConfig (settle_sansConfig _ _)).symm.trans x))
  | @judged _ _ t h c x _ _ _ _ ih => exact fun e => ih ((mode_of_sansConfig (setExclusion_sansConfig t h c x)).symm.trans e)
  | recast _ _ _ _ ih => exact ih
  | requested h _ ih => exact fun e => ih ((congrArg State.mode (requestRecompute_sansPower _ h) :).symm.trans e)
  | completed h _ _ ih => exact fun e => ih ((congrArg State.mode (completeRecompute_framed _ h) :).symm.trans e)
  | abandoned _ _ _ _ _ ih => exact ih
  | removed h c _ ih => exact fun e => ih ((removePlacement_mode _ h c).symm.trans e)
  | created _ _ _ _ _ _ ih => exact ih

/-! ## Operator links and changes of mode -/

theorem linkDown (r : s.Reaches U t) (l : Link) (cause : LinkCause) : s.Reaches U (t.linkDown l cause) := by
  unfold State.linkDown
  extract_lets v u
  have settled : s.Reaches U (settle t u) := r.settled (((State.sameHoldings.refl t).modPort _ _).modLink l _) fun _ => .inl rfl
  exact (settled.silent (breakLink_outline _ l)).silent (raise_outline _ _ _ _)

theorem linkCameUp (r : s.Reaches U t) (l : Link) : s.Reaches U (t.linkCameUp l) := by
  unfold State.linkCameUp
  extract_lets u v
  have settled : s.Reaches U (settle t u) := r.settled ((State.sameHoldings.refl t).modLink l _) fun _ => .inl rfl
  have cleared : s.Reaches U v := (settled.silent (breakLink_outline _ l)).silent (clear_outline _ _ _ _)
  exact ((cleared.silent (reoffer_outline _ l)).silent (remail_outline _ l)).silent (reattend_outline _ l)

theorem followLink (r : s.Reaches U t) (l : Link) (a : Option Int) : s.Reaches U (t.followLink l a) := by
  have seen := r.silent (modLink_outline t l (f := fun x => { x with alignment := a }) rfl)
  obtain ⟨-, e⟩ | ⟨-, -, e⟩ | ⟨-, -, e⟩ := followLink_cases t l a <;> rw [e]
  · exact seen
  · exact seen.linkCameUp l
  · exact seen.linkDown l _

theorem jumpLinks (r : s.Reaches U t) (period gap : Nat) : s.Reaches U (t.jumpLinks period gap) :=
  r.forAll (fun l _ r => r.followLink l _) _

theorem changeMode (r : s.Reaches U t) (ht : t.mode ≠ .reset) {m : Mode} (hm : m ≠ .reset) : s.Reaches U (t.changeMode m) := by
  have settled : s.Reaches U (settle t (t.setMode m)) :=
    r.settled ⟨rfl, rfl, fun _ => rfl, iff_of_false hm ht⟩ fun _ => .inl rfl
  exact (settled.forAll (fun h _ r => r.requestOnce t h) allHeads).silent rfl

/-! ## Bindings -/

theorem evalOrphan (r : s.Reaches U t) (c : Carrier) : s.Reaches U (t.evalOrphan c) := r.silent (evalOrphan_outline t c)

theorem leaveHeads (r : s.Reaches U t) (c : Carrier) (heads : List Head) : s.Reaches U (t.leaveHeads c heads) :=
  r.forAll (fun h _ r => r.removed h c) heads

/-- A carrier takes up its reservations on heads where it has no placement. -/
theorem takeUpRuns {c : Carrier} (l : List Reservation) : ∀ {t : State}, s.Reaches U t → (l.map (·.head)).Nodup →
    (∀ r ∈ l, ¬ t.stands r.head c) → (∀ r ∈ l, (r.head, c) ∈ U) → s.Reaches U (t.takeUpRuns c l) := by
  induction l with
  | nil => exact fun r _ _ _ => r
  | cons x l ih =>
    intro t r hn none hU
    obtain ⟨hx, hn⟩ := List.nodup_cons.1 hn
    have freed : s.Reaches U (t.modLanes x.head fun lanes => replaceLanes lanes (.reserved c) .free) := r.silent rfl
    refine ih (freed.created x.head c x.first (none x List.mem_cons_self) (hU x List.mem_cons_self)) hn (fun y hy => ?_)
      fun y hy => hU y (List.mem_cons_of_mem x hy)
    rw [stands_createPlacement]
    rintro (h | h)
    · exact none y (List.mem_cons_of_mem x hy) h
    · exact hx (List.mem_map.2 ⟨y, hy, h.1⟩)

/-- A pending binding is applied, its new placements left to judge (R18). -/
theorem applyOne (r : s.Reaches U t) (ht : t.lanesAgree) {c : Carrier} {b : PendingBinding} (hb : t.carriers[c].pending = some b)
    (hU : ∀ x ∈ b.reserved, (x.head, c) ∈ U) : s.Reaches U (t.applyOne c b) := by
  obtain ⟨-, sets, pending, -⟩ := (lanesAgree_iff t).1 ht
  have heads := pending c b hb
  rw [applyOne_eq]
  refine (takeUpRuns b.reserved (r.leaveHeads c _) (heads ▸ (headSetUnder_nodup _ _).filter _) (fun x hx => ?_) hU).silent
    (modCarrier_outline _ c rfl)
  have gaining : x.head ∈ t.gainingHeads c (headSetUnder t.sectorMap b.sectors) := heads ▸ List.mem_map_of_mem hx
  rw [stands_leaveHeads, sets]
  exact fun h => (mem_gainingHeads.1 gaining).2 h.1

/-- An applied binding is handed on, which judges its new placements (R19). -/
theorem handOnBinding (r : s.Reaches U t) (s0 : State) {c : Carrier} (losing : List Head) {gaining : List Head}
    (hU : U ⊆ {p | ∃ h ∈ gaining, p = (h, c)} ∪ U') : s.Reaches U' (t.handOnBinding s0 c losing gaining) := by
  unfold State.handOnBinding
  extract_lets v w x p
  have evaluated : s.Reaches U' v := judgeAll (K := fun h => {(h, c)}) (fun h U U' u r hU => r.evalCreated hU) gaining r hU
  have asked : s.Reaches U' w := evaluated.forAll (fun h _ r => r.requestOnce s0 h) _
  have flagged : s.Reaches U' x := asked.evalOrphan c
  split
  · exact flagged
  · exact ite (flagged.silent (deliver_outline x _ _)) flagged

/-- The pending bindings of several carriers are applied and handed on (R18, R19). -/
theorem applyBindings (r : s.Reaches ∅ t) (ht : t.agrees) {carriers : List Carrier} (hn : carriers.Nodup) :
    s.Reaches ∅ (t.applyBindings carriers) := by
  unfold State.applyBindings
  extract_lets work v
  have applied : ∀ (l : List Carrier) (u : State) (U : Set (Head × Carrier)), s.Reaches U u → u.agrees → l.Nodup →
      (∀ c ∈ l, u.carriers[c].pending = t.carriers[c].pending) →
      (∀ c ∈ l, ∀ b, t.carriers[c].pending = some b → ∀ x ∈ b.reserved, (x.head, c) ∈ U) →
      s.Reaches U (Machine.forAll (l.filterMap fun c => t.carriers[c].pending.map fun b =>
        (c, b, t.losingHeads c (headSetUnder t.sectorMap b.sectors), b.reserved.map (·.head)))
        (fun w u => u.applyOne w.1 w.2.1) u) := by
    intro l
    induction l with
    | nil => exact fun u U r _ _ _ _ => r
    | cons c l ih =>
      intro u U r hu hn hp hU
      obtain ⟨hc, hn⟩ := List.nodup_cons.1 hn
      have later : ∀ d ∈ l, ∀ b, t.carriers[d].pending = some b → ∀ x ∈ b.reserved, (x.head, d) ∈ U :=
        fun d hd => hU d (List.mem_cons_of_mem c hd)
      cases hb : t.carriers[c].pending with
      | none =>
        rw [List.filterMap_cons_none (by rw [hb]; rfl)]
        exact ih u U r hu hn (fun d hd => hp d (List.mem_cons_of_mem c hd)) later
      | some b =>
        rw [List.filterMap_cons_some (by rw [hb]; rfl)]
        have hb' : u.carriers[c].pending = some b := (hp c List.mem_cons_self).trans hb
        refine ih (u.applyOne c b) U (r.applyOne hu.1 hb' (hU c List.mem_cons_self b hb))
          ⟨applyOne_lanesAgree hu.1 hb', applyOne_plansAgree hu.2 c b⟩ hn (fun d hd => ?_) later
        have ne : d ≠ c := fun e => hc (e ▸ hd)
        rw [applyOne_carrier_other u b ne]
        exact hp d (List.mem_cons_of_mem c hd)
  have reached : s.Reaches {p | ∃ w ∈ work, ∃ h ∈ w.2.2.2, p = (h, w.1)} v := by
    refine applied carriers t _ (r.mono (Set.empty_subset _)) ht hn (fun _ _ => rfl) fun c hc b hb x hx => ?_
    exact ⟨_, List.mem_filterMap.2 ⟨c, hc, by rw [hb]; rfl⟩, x.head, List.mem_map_of_mem hx, rfl⟩
  exact judgeAll (fun w U U' u r hU => r.handOnBinding t w.2.2.1 hU) work reached fun p hp => .inl hp

/-! ## Plans -/

theorem departAll (r : s.Reaches U t) (h : Head) (l : List Carrier) : s.Reaches U (t.departAll h l) :=
  r.forAll (fun c _ r => r.removed h c) l

/-- Newcomers come onto a head where they have no placement. -/
theorem arriveAll {h : Head} (l : List (Carrier × LaneIndex)) : ∀ {t : State}, s.Reaches U t → (l.map Prod.fst).Nodup →
    (∀ n ∈ l, ¬ t.stands h n.1) → (∀ n ∈ l, (h, n.1) ∈ U) → s.Reaches U (t.arriveAll h l) := by
  induction l with
  | nil => exact fun r _ _ _ => r
  | cons n l ih =>
    intro t r hn none hU
    obtain ⟨hx, hn⟩ := List.nodup_cons.1 hn
    refine ih (r.created h n.1 n.2 (none n List.mem_cons_self) (hU n List.mem_cons_self)) hn (fun m hm => ?_)
      fun m hm => hU m (List.mem_cons_of_mem n hm)
    rw [stands_createPlacement]
    rintro (standing | same)
    · exact none m (List.mem_cons_of_mem n hm) standing
    · exact hx (same.2 ▸ List.mem_map_of_mem hm)

/-- The newcomers of a validated layout are the new carriers of its head, each once. -/
theorem newcomers_of_admitted {s : State} {map : SectorMap} {x : HeadLayout} (ha : s.admitMap map x.head = .admitted x.newcomers) :
    (x.newcomers.map Prod.fst).Nodup ∧ ∀ n ∈ x.newcomers, ¬ s.stands x.head n.1 := by
  have order := ((admitInOrder_admitted_iff s x.head (s.newHeadSet map) _ _ _).1 ha).1
  refine ⟨by rw [order]; exact newcomerOrder_nodup ((List.nodup_finRange 16).filter _), fun n hn => ?_⟩
  have came : n.1 ∈ s.newcomerOrder (s.newcomers map x.head) := by
    rw [← order]
    exact List.mem_map_of_mem hn
  rw [mem_newcomerOrder, mem_newcomers] at came
  exact came.1

/-- A validated layout is applied, its new placements left to judge (R156). -/
theorem applyLayouts {v : State} {map : SectorMap} (l : List HeadLayout) : ∀ {t : State}, s.Reaches U t → (l.map (·.head)).Nodup →
    (∀ x ∈ l, v.admitMap map x.head = .admitted x.newcomers) → (∀ x ∈ l, ∀ c, t.stands x.head c → v.stands x.head c) →
    (∀ x ∈ l, ∀ n ∈ x.newcomers, (x.head, n.1) ∈ U) → s.Reaches U (Machine.forAll l (fun x u => u.applyLayout x) t) := by
  induction l with
  | nil => exact fun r _ _ _ _ => r
  | cons x l ih =>
    intro t r hn ha hs hU
    obtain ⟨hx, hn⟩ := List.nodup_cons.1 hn
    obtain ⟨nodup, absent⟩ := newcomers_of_admitted (ha x List.mem_cons_self)
    have applied : s.Reaches U (t.applyLayout x) :=
      (r.departAll x.head x.departing).arriveAll x.newcomers nodup (fun n hn standing => absent n hn
        (hs x List.mem_cons_self n.1 ((stands_departAll _ _ _).1 standing).1)) (hU x List.mem_cons_self)
    refine ih applied hn (fun y hy => ha y (List.mem_cons_of_mem x hy)) (fun y hy c standing => ?_)
      fun y hy => hU y (List.mem_cons_of_mem x hy)
    have other : y.head ≠ x.head := fun e => hx (List.mem_map.2 ⟨y, hy, e⟩)
    have standing := (stands_arriveAll (t.departAll x.head x.departing) x.head x.newcomers).1 standing
    rw [stands_departAll] at standing
    exact hs y (List.mem_cons_of_mem x hy) c (standing.resolve_right fun e => other e.1).1

theorem endPlan (r : s.Reaches U t) (k : SlotIndex) (map : SectorMap) (o : Offer) (x : PlanResult) (l : Option Link)
    (f : Option Failure) : s.Reaches U (t.endPlan k map o x l f) := r.silent (endPlan_outline t k map o x l f)

/-- A validated map commits (R156, R157). -/
theorem commitPlan (r : s.Reaches ∅ t) (k : SlotIndex) {map : SectorMap} (o : Offer) {layout : List HeadLayout}
    (hv : t.validateMap map = .valid layout) : s.Reaches ∅ (t.commitPlan k map o layout) := by
  obtain ⟨heads, admitted⟩ := validateMap_valid hv
  unfold State.commitPlan
  extract_lets changed u v w x
  have mapped : s.Reaches {p | ∃ y ∈ layout, ∃ n ∈ y.newcomers, p = (y.head, n.1)} (t.setSectorMap map) :=
    (r.mono (Set.empty_subset _)).silent rfl
  have applied : s.Reaches {p | ∃ y ∈ layout, ∃ n ∈ y.newcomers, p = (y.head, n.1)} u :=
    mapped.applyLayouts layout (heads ▸ (List.nodup_finRange 16).filter _) (fun y hy => (admitted y hy).2) (fun _ _ _ => id)
      fun y hy n hn => ⟨y, hy, n, hn, rfl⟩
  have evaluated : s.Reaches ∅ v :=
    judgeAll (K := fun y : HeadLayout => {p | ∃ n ∈ y.newcomers, p = (y.head, n.1)}) (fun y U U' u r hU =>
      judgeAll (K := fun n : Carrier × LaneIndex => {(y.head, n.1)}) (fun n U U' u r hU => r.evalCreated hU) y.newcomers r hU)
      layout applied fun p hp => .inl hp
  have asked : s.Reaches ∅ w := evaluated.forAll (fun y _ r => r.requestOnce t y.head) layout
  have flagged : s.Reaches ∅ x := asked.forAll (fun c _ r => r.evalOrphan c) changed
  exact (flagged.silent (restartWindow_outline x _)).endPlan k map o .committed none none

theorem revalidate (r : s.Reaches ∅ t) (k : SlotIndex) (n : Nat) : s.Reaches ∅ (t.revalidate k n) := by
  unfold State.revalidate
  split
  · split
    · split
      · next valid => exact r.commitPlan k _ valid
      · exact r.endPlan k _ _ _ _ _
    · exact r
  · exact r

/-! ## What is due -/

theorem revalidateDue (r : s.Reaches ∅ t) (k : SlotIndex) (n : Nat) : s.Reaches ∅ (t.revalidateDue k n) :=
  (r.silent (answerAll_outline t)).revalidate k n

theorem perform (r : s.Reaches ∅ t) (ht : t.agrees) {d : Due} (hd : ∀ l, d = .bindingApply l → l.Nodup) :
    s.Reaches ∅ (t.perform d) := by
  cases d with
  | bindingApply l => exact r.applyBindings ht (hd l rfl)
  | consentExpiry => exact r.silent (expire_outline t)
  | planRevalidate k n => exact r.revalidateDue k n
  | seekLock h m => exact r.silent (completeSeek_outline t h m)
  | attemptBegin h => exact r.silent (beginAttempt_outline t h)
  | remeasureBegin h => exact r.silent (beginRemeasure_outline t h)
  | markerLost h => exact r.loseMarker h
  | blipWindow h => exact ite (r.silent (endBlipWindow_outline t h)) r
  | errorWindow h => exact ite (r.endErrorWindow h) r
  | holdOff h => exact ite (r.silent (expireHoldOff_outline t h)) r
  | slipGate h => exact r.silent (openGate_outline t h)
  | mute h n => exact r.silent (muteHead_outline t h n)
  | unmute h => exact r.silent (unmuteHead_outline t h)
  | saturationWindow => exact r.silent (endSatWindow_outline t)
  | loadWindow => exact r.silent (endWindow_outline t)
  | triggerAnswer x b loads => exact r.silent (answerTrigger_outline t x b loads)

/-- What is due of a state that agrees is done in one that agrees. -/
theorem perform_mem {u : State} (r : s.Reaches ∅ t) (ht : t.agrees) (hu : u.agrees) {d : Due} (hd : d ∈ u.due) :
    s.Reaches ∅ (t.perform d) := r.perform ht fun l e => hu.2.2.2.2 l (e ▸ hd)

theorem takeDue (r : s.Reaches ∅ t) (ht : t.agrees) (wanted : Due → Bool) : s.Reaches ∅ (t.takeDue wanted) := by
  obtain ⟨-, e⟩ | ⟨d, hd, e⟩ := takeDue_cases t wanted <;> rw [e]
  · exact r
  · have taken : s.Reaches ∅ (t.setDue (t.due.erase d)) := r.silent rfl
    exact taken.perform_mem (setDue_subset_agrees ht List.erase_subset) ht (List.mem_of_find?_eq_some hd)

theorem performAll (n : Nat) : ∀ {t : State}, s.Reaches ∅ t → t.agrees → s.Reaches ∅ (t.performAll n) := by
  induction n with
  | zero => exact fun r _ => r
  | succ n ih =>
    intro t r ht
    obtain ⟨reached, agrees⟩ := forAll_preserves_mem (fun u => s.Reaches ∅ u ∧ u.agrees) (fun d u => u.perform d) t.due
      (fun d hd u hu => ⟨hu.1.perform_mem hu.2 ht hd, perform_mem_agrees ht hu.2 hd⟩) (t.setDue [])
      ⟨r.silent rfl, setDue_agrees ht fun x hx => by cases hx⟩
    exact ih reached agrees

theorem flushDue (r : s.Reaches ∅ t) (ht : t.agrees) : s.Reaches ∅ t.flushDue := performAll 9 r ht

/-! ## Boundaries and timing marks -/

theorem completeAged (r : s.Reaches U t) (ht : s.mode ≠ .reset) : s.Reaches U t.completeAged :=
  r.forAll (fun h u r => ite (r.completed h (r.awake ht)) (ite (r.silent (modPower_outline u h rfl)) r)) _

theorem boundary (r : s.Reaches ∅ t) (hs : s.mode ≠ .reset) (ht : t.agrees) (moment : Nat) : s.Reaches ∅ (t.boundary moment) := by
  unfold State.boundary
  extract_lets u
  have completed : s.Reaches ∅ u := (r.flushDue ht).completeAged hs
  exact (completed.silent (setTiming_outline u _)).silent (handBoundary_outline _)

theorem timeOut (r : s.Reaches ∅ t) (hs : s.mode ≠ .reset) (ht : t.agrees) : s.Reaches ∅ t.timeOut :=
  (r.boundary hs ht _).silent (setTiming_outline _ _)

theorem lockMark (r : s.Reaches ∅ t) (hs : s.mode ≠ .reset) (ht : t.agrees) (moment interval : Nat) :
    s.Reaches ∅ (t.lockMark moment interval) :=
  (ite r (r.boundary hs ht moment)).silent (setTiming_outline _ _)

theorem heldMark (r : s.Reaches ∅ t) (hs : s.mode ≠ .reset) (ht : t.agrees) (moment : Nat) : s.Reaches ∅ (t.heldMark moment) := by
  unfold State.heldMark
  split
  · exact r.silent (setTiming_outline t _)
  · exact ite ((r.lockMark hs ht _ _).jumpLinks _ _) (r.silent (setTiming_outline t _))

theorem lockedMark (r : s.Reaches ∅ t) (hs : s.mode ≠ .reset) (ht : t.agrees) (moment : Nat) : s.Reaches ∅ (t.lockedMark moment) :=
  ite (r.lockMark hs ht _ _) (ite r ((r.timeOut hs ht).heldMark hs (timeOut_agrees ht) _))

theorem mark (r : s.Reaches ∅ t) (hs : s.mode ≠ .reset) (ht : t.agrees) (moment : Nat) : s.Reaches ∅ (t.mark moment) := by
  unfold State.mark
  split
  · exact r.lockedMark hs ht moment
  · exact r.heldMark hs ht moment

/-! ## RESTART -/

theorem restartConfiguration (r : s.Reaches U t) : s.Reaches U t.restartConfiguration := by
  unfold State.restartConfiguration
  extract_lets u v
  have removed : s.Reaches U u := r.forAll (fun p _ r => r.removed p.head p.carrier) t.placements
  have empty : u.placements = [] := by
    rw [show u.placements = _ from removals_placements t.placements t, List.filter_eq_nil_iff]
    intro q hq h
    simpa using List.all_eq_true.1 h q hq
  have reset : s.Reaches U v ∧ v.placements = [] :=
    forAll_preserves (fun w => s.Reaches U w ∧ w.placements = []) _ (fun c w hw =>
      ⟨(hw.1.recast c _ fun p hp => by rw [hw.2] at hp; cases hp).silent (clear_outline _ _ _ _),
        (clear_placements _ _ _ _).trans hw.2⟩) allCarriers u ⟨removed, empty⟩
  clear_value v
  exact reset.1.silent rfl

theorem restartPower (r : s.Reaches U t) : s.Reaches U t.restartPower :=
  r.forAll (g := fun h u => (u.modPower h fun q => { q with running := none, again := false, aged := false }).requestRecompute h)
    (fun h _ r => (r.abandoned h (fun q => { q with running := none, again := false, aged := false }) rfl rfl).requested h) _

theorem restartAll (r : s.Reaches ∅ t) (hs : s.mode ≠ .reset) (ht : t.agrees) (p : Port) : s.Reaches ∅ (t.restartAll p) := by
  unfold State.restartAll
  extract_lets b u
  have voided : s.Reaches ∅ t.voidAnswers := r.silent rfl
  have flushed : s.Reaches ∅ b := (voided.flushDue (setDue_subset_agrees ht (List.filter_subset_self _))).silent (setDue_outline _ _)
  have held : s.Reaches ∅ u := ite (flushed.changeMode (flushed.awake hs) (by decide)) flushed
  clear_value u
  have dropped : s.Reaches ∅ u.restartPlans := held.silent rfl
  have emptied : s.Reaches ∅ u.restartPlans.restartLoad := dropped.silent rfl
  have configured : s.Reaches ∅ u.restartPlans.restartLoad.restartConfiguration := emptied.restartConfiguration
  have switched := configured.restartPower.silent (restartSwitch_outline _)
  exact switched.silent (restartPorts_outline _ p)

end State.Reaches

end

end Sys2Proof.Machine
end

section
/-!
SUPPORT. Every request, every command and so every step is a run of the moves, apart from the device reset.
-/

namespace Sys2Proof.Machine

open Sys2Proof

/-! ## Requests that change nothing the laws look at -/

section
variable (s : State) (p : Port)

theorem serveSetUplink_outline (f : UplinkFields) : (serveSetUplink p f s).1.outline = s.outline := by
  unfold serveSetUplink
  split
  · rfl
  · split
    · rfl
    · exact (slipCheck_outline _ _).trans rfl

theorem serveSetSaturation_outline (c : Byte) (n : Half) : (serveSetSaturation p c n s).1.outline = s.outline := by
  unfold serveSetSaturation
  split
  · rfl
  · split <;> rfl

theorem serveHeadEnable_outline (h : Byte) : (serveHeadEnable p h s).1.outline = s.outline := by
  unfold serveHeadEnable
  split
  · rfl
  · split
    · rfl
    · split
      · next off =>
        refine modHead_outline s _ ?_
        rw [HeadLink.service, HeadLink.service, HeadLink.radiates, HeadLink.radiates, off]
        rfl
      · rfl

theorem serveTestSnapshot_outline (h c : Byte) : (serveTestSnapshot p h c s).1.outline = s.outline := by
  unfold serveTestSnapshot
  split
  · split
    · rfl
    · split
      · rfl
      · exact modTest_outline s _ _
  · rfl

theorem serveTestStop_outline (h : Byte) : (serveTestStop p h s).1.outline = s.outline := by
  unfold serveTestStop
  split
  · rfl
  · split
    · rfl
    · split
      · rfl
      · next test =>
        refine modHead_outline s _ ?_
        rw [HeadLink.service, HeadLink.service, HeadLink.radiates, HeadLink.radiates, not_not.1 test]
        rfl

theorem serveSetActivity_outline (h : Byte) (n : Word) : (serveSetActivity p h n s).1.outline = s.outline := by
  unfold serveSetActivity
  split
  · rfl
  · split <;> rfl

theorem serveTriggerSet_outline (f : TriggerFields) : (serveTriggerSet p f s).1.outline = s.outline := by
  unfold serveTriggerSet
  split
  · rfl
  · split <;> rfl

theorem serveSetLoadWindow_outline (n : Half) : (serveSetLoadWindow p n s).1.outline = s.outline := by
  unfold serveSetLoadWindow
  split
  · rfl
  · exact outline_ite rfl ((restartWindow_outline _ _).trans ((setLoad_outline _ _).trans (takeWindowEnd_outline s)))

theorem servePlanEdit_outline (k b : Byte) (l : List (Byte × Byte)) : (servePlanEdit p k b l s).1.outline = s.outline := by
  unfold servePlanEdit
  split
  · split
    · rfl
    · split <;> rfl
  · rfl

theorem servePlanValidate_outline (k : Byte) : (servePlanValidate p k s).1.outline = s.outline := by
  unfold servePlanValidate
  split
  · rfl
  · split
    · rfl
    · split
      · rfl
      · split
        · rfl
        · split
          · rfl
          · dsimp only
            split <;> rfl

theorem servePlanPropose_outline (k : Byte) : (servePlanPropose p k s).1.outline = s.outline := by
  unfold servePlanPropose
  split
  · rfl
  · split
    · rfl
    · split
      · rfl
      · split
        · rfl
        · exact propose_outline s _ _

theorem serveConsent_outline (n a : Byte) : (serveConsent p n a s).1.outline = s.outline := by
  unfold serveConsent
  split
  · rfl
  · split
    · rfl
    · split
      · rfl
      · split
        · split
          · rfl
          · split
            · rfl
            · split
              · rfl
              · dsimp only
                split
                · exact endPlan_outline s _ _ _ _ _ _
                · split <;> rfl
        · rfl

theorem servePlanCancel_outline (n : Byte) : (servePlanCancel p n s).1.outline = s.outline := by
  unfold servePlanCancel
  split
  · rfl
  · split
    · rfl
    · split
      · rfl
      · split
        · rfl
        · split
          · rfl
          · exact endPlan_outline s _ _ _ _ _ _

theorem serveSetConsent_outline (t : Half) (m : Vector Byte 4) : (serveSetConsent p t m s).1.outline = s.outline := by
  unfold serveSetConsent
  split
  · split <;> rfl
  · rfl

theorem serveAlarmRead_outline (k : Byte) : (serveAlarmRead p k s).1.outline = s.outline := by
  unfold serveAlarmRead
  split
  · rfl
  · split
    · rfl
    · split
      · exact withLog_outline s _ _
      · rfl

theorem servePost_outline (d : Byte) (l : List Byte) : (servePost p d l s).1.outline = s.outline := by
  unfold servePost
  split
  · rfl
  · split
    · rfl
    · split
      · rfl
      · exact outline_ite rfl ((sendUnsolicited_outline _ _ _).trans rfl)

theorem serveTake_outline : (serveTake p s).1.outline = s.outline := by
  unfold serveTake
  split <;> rfl

theorem serveBind_outline (c : Byte) (l : List Byte) : (serveBind p c l s).1.outline = s.outline := by
  unfold serveBind
  split
  · dsimp only
    split
    · rfl
    · split
      · rfl
      · split
        · rfl
        · split
          · rfl
          · split
            · rfl
            · split
              · rfl
              · rw [acceptBinding_eq, reserveAll_eq]
                exact (modCarrier_outline _ _ rfl).trans rfl
  · rfl

end

/-! ## Requests that the laws follow -/

section
variable {s t : State} {U : Set (Head × Carrier)}

/-- Where lanes agree, a carrier that is not bound has no placement (R5). -/
theorem carrier_ne_of_unbound (ht : t.lanesAgree) {c : Carrier} (hc : t.carriers[c].bound = false) :
    ∀ p ∈ t.placements, p.carrier ≠ c := by
  obtain ⟨-, sets, -, -⟩ := (lanesAgree_iff t).1 ht
  rintro p hp rfl
  have standing := (sets p.head p.carrier).1 ⟨p, hp, rfl, rfl⟩
  rw [headSet_of_inactive ((bound_eq_false_iff _).1 hc).1] at standing
  exact List.not_mem_nil standing

namespace State.Reaches

theorem serveDeclare (r : s.Reaches U t) (ht : t.agrees) (p : Port) (c w : Byte) (pw : Half) (k : Byte) :
    s.Reaches U (serveDeclare p c w pw k t).1 := by
  unfold Machine.serveDeclare
  split
  · next c w _ _ =>
    dsimp only
    split
    · exact r
    · split
      · exact r
      · next bound =>
        split
        · exact r
        · have stored : s.Reaches U (t.modCarrier c fun x =>
              { x with declared := true, width := w, power := clamp 1 8000 pw.toNat, shift := min 4 k.toNat }) := by
            by_cases same : w = t.carriers[c].width
            · exact r.silent (modCarrier_outline t c same)
            · refine r.recast c _ (carrier_ne_of_unbound ht.1 ?_)
              cases hr : t.carriers[c].declared with
              | false => exact ((lanesAgree_iff t).1 ht.1).2.2.2 c hr
              | true =>
                simp only [hr, Bool.true_and, Bool.and_eq_true, decide_eq_true_eq, not_and, Bool.not_eq_true] at bound
                exact bound same
          exact ite (stored.forAll (fun q _ r => r.requested q.head) _) stored
  · exact r

theorem serveWithdraw (r : s.Reaches U t) (ht : t.agrees) (p : Port) (c : Byte) : s.Reaches U (serveWithdraw p c t).1 := by
  unfold Machine.serveWithdraw
  split
  · exact r
  · dsimp only
    split
    · exact r
    · split
      · exact r
      · split
        · exact r
        · next bound =>
          split
          · exact r
          · exact r.recast _ (fun _ => CarrierRecord.reset) (carrier_ne_of_unbound ht.1 (Bool.eq_false_iff.2 bound))

theorem serveSetBudget (r : s.Reaches U t) (p : Port) (h : Byte) (b : Half) : s.Reaches U (serveSetBudget p h b t).1 := by
  unfold Machine.serveSetBudget
  split
  · exact r
  · next h _ =>
    split
    · exact r
    · exact ite r ((r.silent (modPower_outline t h rfl)).requested h)

theorem serveSetWeight (r : s.Reaches U t) (p : Port) (l w : Byte) : s.Reaches U (serveSetWeight p l w t).1 := by
  unfold Machine.serveSetWeight
  split
  · exact r
  · split
    · exact r
    · exact ite r ((r.silent (setWeight_outline t _ _)).forAll (fun h _ r => r.requested h) _)

theorem serveSetHeadLink (r : s.Reaches ∅ t) (p : Port) (f : HeadLinkFields) : s.Reaches ∅ (serveSetHeadLink p f t).1 := by
  unfold Machine.serveSetHeadLink
  split
  · exact r
  · next h _ =>
    split
    · exact r
    · exact (r.silent (modHead_outline t h rfl)).compareLimits h _

theorem serveHeadDisable (r : s.Reaches ∅ t) (p : Port) (h : Byte) : s.Reaches ∅ (serveHeadDisable p h t).1 := by
  unfold Machine.serveHeadDisable
  split
  · exact r
  · next h _ =>
    split
    · exact r
    · split
      · exact r
      · dsimp only
        exact r.enterOff h

theorem serveTestStart (r : s.Reaches ∅ t) (p : Port) (h m : Byte) : s.Reaches ∅ (serveTestStart p h m t).1 := by
  unfold Machine.serveTestStart
  split
  · next h m _ _ =>
    split
    · exact r
    · split
      · exact r
      · have started := r.silent (modTest_outline t h fun _ => TestState.started m)
        dsimp only
        split
        · exact started
        · exact started.enterTest h
  · exact r

theorem serveStart (r : s.Reaches U t) (p : Port) : s.Reaches U (serveStart p t).1 := by
  unfold Machine.serveStart
  split
  · exact r
  · split
    · next held => exact r.changeMode (by rw [held]; decide) (by decide)
    · exact r

theorem serveHold (r : s.Reaches U t) (p : Port) : s.Reaches U (serveHold p t).1 := by
  unfold Machine.serveHold
  split
  · exact r
  · split
    · next run => exact r.changeMode (by rw [run]; decide) (by decide)
    · exact r

theorem serveRestart (r : s.Reaches ∅ t) (hs : s.mode ≠ .reset) (ht : t.agrees) (p : Port) :
    s.Reaches ∅ (serveRestart p t).1 := by
  unfold Machine.serveRestart
  split
  · exact r
  · exact r.restartAll hs ht p

/-! ## Carrying out a request -/

/-- Every request is a run of the moves. -/
theorem carryOut (r : s.Reaches ∅ t) (hs : s.mode ≠ .reset) (ht : t.agrees) (p : Port) (q : Request) :
    s.Reaches ∅ (carryOut p q t).1 := by
  have read : ∀ {u : State}, u = t → s.Reaches ∅ u := fun e => e ▸ r
  cases q with
  | declare c w pw k => exact r.serveDeclare ht p c w pw k
  | withdraw c => exact r.serveWithdraw ht p c
  | bind c l => exact r.silent (serveBind_outline t p c l)
  | status x n => exact read (serveStatus_fst t p x n)
  | setBudget h b => exact r.serveSetBudget p h b
  | setWeight l w => exact r.serveSetWeight p l w
  | setUplink f => exact r.silent (serveSetUplink_outline t p f)
  | setSaturation c n => exact r.silent (serveSetSaturation_outline t p c n)
  | setHeadLink f => exact r.serveSetHeadLink p f
  | headEnable h => exact r.silent (serveHeadEnable_outline t p h)
  | headDisable h => exact r.serveHeadDisable p h
  | testStart h m => exact r.serveTestStart p h m
  | testSnapshot h c => exact r.silent (serveTestSnapshot_outline t p h c)
  | testRead h => exact read (serveTestRead_fst t p h)
  | testStop h => exact r.silent (serveTestStop_outline t p h)
  | setLoadWindow n => exact r.silent (serveSetLoadWindow_outline t p n)
  | setActivity h n => exact r.silent (serveSetActivity_outline t p h n)
  | triggerSet f => exact r.silent (serveTriggerSet_outline t p f)
  | triggerRead x => exact read (serveTriggerRead_fst t p x)
  | loadReport => exact read (serveLoadReport_fst t p)
  | planEdit k b l => exact r.silent (servePlanEdit_outline t p k b l)
  | planValidate k => exact r.silent (servePlanValidate_outline t p k)
  | planPropose k => exact r.silent (servePlanPropose_outline t p k)
  | planCancel n => exact r.silent (servePlanCancel_outline t p n)
  | consent n a => exact r.silent (serveConsent_outline t p n a)
  | planQuery => exact read (servePlanQuery_fst t p)
  | planRead k => exact read (servePlanRead_fst t p k)
  | setConsent x m => exact r.silent (serveSetConsent_outline t p x m)
  | alarmSummary => exact r.silent (setLog_outline t _)
  | alarmRead k => exact r.silent (serveAlarmRead_outline t p k)
  | alarmMask e => exact r.silent (withLog_outline t _ _)
  | post d l => exact r.silent (servePost_outline t p d l)
  | take => exact r.silent (serveTake_outline t p)
  | start => exact r.serveStart p
  | hold => exact r.serveHold p
  | restart => exact r.serveRestart hs ht p
  | misfit n => exact r

theorem serve (r : s.Reaches ∅ t) (hs : s.mode ≠ .reset) (ht : t.agrees) (p : Port) (q : Request) : s.Reaches ∅ (t.serve p q) :=
  (r.carryOut hs ht p q).silent (deliver_outline _ p _)

theorem dispatch (r : s.Reaches ∅ t) (hs : s.mode ≠ .reset) (ht : t.agrees) (p : Port) (m : Message) :
    s.Reaches ∅ (t.dispatch p m) := ite (r.silent (deliver_outline t p _)) (ite r (r.serve hs ht p _))

theorem enterRequest (r : s.Reaches ∅ t) (hs : s.mode ≠ .reset) (ht : t.agrees) (p : Port) : s.Reaches ∅ (t.enterRequest p) := by
  unfold State.enterRequest
  split
  · next m rest _ _ =>
    exact (r.silent (takeUp_outline t p m rest)).dispatch hs (agrees_of_agreement (t := t.takeUp p m rest) (s := t) rfl ht) p m
  · exact r

theorem grant (r : s.Reaches ∅ t) (hs : s.mode ≠ .reset) (ht : t.agrees) (p : Port) : s.Reaches ∅ (t.grant p) := by
  unfold State.grant
  split
  · exact r
  · have carried := (r.silent (setArbiter_outline t { t.arbiter with granted := some p })).carryOut hs
      (agrees_of_agreement (s := t) rfl ht) p
    exact ((carried _).silent (setArbiter_outline _ _)).silent (deliver_outline _ p _)

theorem arbiterGrant (r : s.Reaches ∅ t) (hs : s.mode ≠ .reset) (ht : t.agrees) : s.Reaches ∅ t.arbiterGrant := by
  unfold State.arbiterGrant
  split
  · exact r.grant hs ht _
  · exact r

theorem request (r : s.Reaches ∅ t) (hs : s.mode ≠ .reset) (ht : t.agrees) (p : Port) (q : Request) :
    s.Reaches ∅ (t.request p q) := by
  unfold State.request
  dsimp only
  have arrived := r.silent (arrive_outline t p q.toMessage)
  have agrees : (t.arrive p q.toMessage).agrees := agrees_of_agreement (arrive_agreement t p _) ht
  have entered := arrived.enterRequest hs agrees p
  exact ite r (ite arrived (ite (entered.arbiterGrant hs (enterRequest_agrees agrees p)) entered))

end State.Reaches

end

/-! ## Every command -/

/-- Where the reset is asserted, no request is taken (R194). -/
theorem request_of_reset {s : State} (h : s.mode = .reset) (p : Port) (q : Request) : s.request p q = s :=
  if_pos (by simp [State.portOpen, h])

theorem replyEnqueue_outline (s : State) (p : Port) {t : State} (e : execReplyEnqueue p s = .next t) : t.outline = s.outline := by
  unfold execReplyEnqueue at e
  injection e with e
  subst e
  split
  · rfl
  · rfl
  · split
    · exact outline_ite rfl rfl
    · rfl
    · rfl

theorem outgoingMessageSent_outline (s : State) (l : Link) {t : State} (e : execOutgoingMessageSent l s = .next t) :
    t.outline = s.outline := by
  unfold execOutgoingMessageSent at e
  injection e with e
  subst e
  refine outline_ite ?_ rfl
  split <;> rfl

theorem next_inj {t u : State} (e : (Host.Outcome.next u : Host.Outcome State Fault Refusal) = .next t) : u = t := by
  injection e

/-- The device reset is asserted: placements, delays, widths and recomputes stay (R194). -/
structure State.halts (s t : State) : Prop extends s.sameHoldings { t with mode := s.mode } where
  mode : t.mode = .reset
  heads : t.heads = s.heads

/-- The end of a blip leaves delay and service as they are (R105). -/
theorem restored_service (x : HeadLink) :
    (if x.lightAbsent then
        { x with lightAbsent := false, lightTimer := none,
                 blips := if x.lightTimer.isSome then min 255 (x.blips + 1) else x.blips }
      else x).service = x.service := by
  split <;> rfl

/-- An event that is taken while the reset is not asserted. -/
theorem reaches_of_event {s t v : State} (hr : s.mode ≠ .reset)
    (e : (Host.Outcome.next (if s.mode = .reset then s else v) : Host.Outcome State Fault Refusal) = .next t)
    (r : s.Reaches ∅ v) : s.Reaches ∅ t ∨ s.halts t := by
  rw [if_neg hr] at e
  exact .inl (next_inj e ▸ r)

/-- Every command is a run of the moves, but for the assertion of the device reset. -/
theorem exec_reaches {s t : State} (hr : s.mode ≠ .reset) (hs : s.agrees) (i : Instr) (e : exec i s = .next t) :
    s.Reaches ∅ t ∨ s.halts t := by
  have here : s.Reaches ∅ s := .start
  have requested : ∀ {p : Port} {q : Request}, Host.Outcome.next (s.request p q) = Host.Outcome.next t →
      s.Reaches ∅ t ∨ s.halts t :=
    fun e => .inl (next_inj e ▸ here.request hr hs _ _)
  have taken : ∀ {wanted : Due → Bool}, headEvent s (fun s => s.takeDue wanted) = .next t → s.Reaches ∅ t ∨ s.halts t :=
    fun e => reaches_of_event hr e (here.takeDue hs _)
  have moment : ∀ m, s.Reaches ∅ (s.atMoment m) := fun m => here.silent (setTiming_outline s _)
  cases i with
  | declare | withdraw | bind | status | setBudget | setWeight | setUplink | setSaturation | setHeadLink | headEnable
  | headDisable | testStart | testSnapshot | testRead | testStop | setLoadWindow | setActivity | triggerSet | triggerRead
  | loadReport | planEdit | planValidate | planPropose | planCancel | consent | planQuery | planRead | setConsent
  | alarmSummary | alarmRead | alarmMask | post | take | start | hold | restart => exact requested e
  | bindingApply | consentExpiry | planRevalidate | noiseGuardMute | noiseGuardUnmute | slipGateOpen | saturationWindowEnd
  | loadWindowEnd | blipWindowEnd | seekLockComplete | measureAttemptBegin | remeasureCountdownEnd | markerLost
  | errorWindowEnd | holdOffExpiry => exact taken e
  | requestArrival p m intact => exact .inl (next_inj e ▸ here.silent (outline_ite (arrive_outline s p m) rfl))
  | spiMessageWrite bytes => exact .inl (next_inj e ▸ here.silent (spiTransaction_outline s bytes))
  | spiMessageRead bytes => exact .inl (next_inj e ▸ here.silent (spiTransaction_outline s bytes))
  | requestEnterService p => exact reaches_of_event hr e (here.enterRequest hr hs p)
  | arbiterGrant => exact reaches_of_event hr e (here.arbiterGrant hr hs)
  | replyEnqueue p => exact .inl (here.silent (replyEnqueue_outline s p e))
  | outgoingMessageSent l => exact .inl (here.silent (outgoingMessageSent_outline s l e))
  | operatorLinkDown l loss =>
    cases loss with
    | framing => exact reaches_of_event hr e (here.followLink l none)
    | alignment offset => exact reaches_of_event hr e (here.followLink l (s.links[l].alignment.map fun _ => offset))
  | operatorLinkUp x => exact reaches_of_event hr e (here.followLink x.link (some x.offset))
  | resetAssert =>
    obtain rfl := next_inj e
    exact .inr ⟨⟨rfl, rfl, fun _ => rfl, Iff.rfl⟩, rfl, rfl⟩
  | resetRelease =>
    obtain rfl := next_inj e
    rw [if_neg hr]
    exact .inl here
  | timingMark m => exact reaches_of_event hr e ((moment m).mark hr (agrees_of_agreement (atMoment_agreement s m) hs) _)
  | markTimeout => exact reaches_of_event hr e (.ite (here.timeOut hr hs) here)
  | heldBoundary => exact reaches_of_event hr e (.ite (here.boundary hr hs _) here)
  | samplePeriod streams => exact reaches_of_event hr e ((here.flushDue hs).silent (samplePeriod_outline _ streams))
  | uplinkGroupComplete h words =>
    have counted : s.Reaches ∅ (s.modHead h fun x => { x with errors := min 10240000 (x.errors + parityErrors words) }) :=
      here.silent (modHead_outline s h rfl)
    exact reaches_of_event hr e ((State.Reaches.ite counted here).silent (appendGroup_outline _ h _))
  | lightLost h m => exact reaches_of_event hr e (.ite (moment m) ((moment m).silent (modHead_outline _ h rfl)))
  | lightRestored h m => exact reaches_of_event hr e ((moment m).silent (modHead_outline _ h (restored_service _)))
  | blipLimitReached h m => exact reaches_of_event hr e ((moment m).watchLight h)
  | lockFound h => exact reaches_of_event hr e (.ite here (here.silent (modHead_outline s h rfl)))
  | lockLost h => exact reaches_of_event hr e (.ite here (here.loseLock h))
  | headReport h m r intact =>
    exact reaches_of_event hr e (.ite (((moment m).takeCapability h r |>.takeReport h r).silent (reportArrived_outline _ h)) (moment m))
  | reportLate h m => exact reaches_of_event hr e ((moment m).silent (watchMaximum_outline _ h))
  | reportLostLimit h m => exact reaches_of_event hr e ((moment m).watchLost h)
  | markerReturn h f n => exact reaches_of_event hr e (here.returnMarker h f n)
  | testWordReturned h w parity => exact reaches_of_event hr e (.ite (here.silent (modTest_outline s h _)) here)
  | recomputeComplete h => exact reaches_of_event hr e (here.completed h hr)

/-- A run of the moves goes on from where another ends with nothing left to judge. -/
theorem State.Reaches.after {s t u : State} {U : Set (Head × Carrier)} (r : t.Reaches U u) (before : s.Reaches ∅ t) :
    s.Reaches U u := by
  induction r with
  | start => exact before
  | silent _ e ih => exact ih.silent e
  | spared _ h ih => exact ih.spared h
  | delayed h f _ on d ih => exact ih.delayed h f on d
  | settled _ e d ih => exact ih.settled e d
  | judged h c x _ w p hU ih => exact ih.judged h c x w p hU
  | recast c f _ h ih => exact ih.recast c f h
  | requested h _ ih => exact ih.requested h
  | completed h _ m ih => exact ih.completed h m
  | abandoned h f _ e i ih => exact ih.abandoned h f e i
  | removed h c _ ih => exact ih.removed h c
  | created h c i _ a mem ih => exact ih.created h c i a mem

/-- Where the reset is asserted, a command changes nothing of what the laws look at, or asserts the reset again, or releases
it (R194). -/
theorem exec_of_reset {s t : State} (hr : s.mode = .reset) (i : Instr) (e : exec i s = .next t) :
    s.Reaches ∅ t ∨ s.halts t ∨ t.outline = State.reset.outline := by
  have here : s.Reaches ∅ s := .start
  have idle : ∀ {v : State}, (Host.Outcome.next (if s.mode = .reset then s else v) : Host.Outcome State Fault Refusal) = .next t →
      s.Reaches ∅ t ∨ s.halts t ∨ t.outline = State.reset.outline := fun e => by
    rw [if_pos hr] at e
    exact .inl (next_inj e ▸ here)
  have refused : ∀ {p : Port} {q : Request}, Host.Outcome.next (s.request p q) = Host.Outcome.next t →
      s.Reaches ∅ t ∨ s.halts t ∨ t.outline = State.reset.outline := fun e => by
    rw [request_of_reset hr] at e
    exact .inl (next_inj e ▸ here)
  cases i with
  | declare | withdraw | bind | status | setBudget | setWeight | setUplink | setSaturation | setHeadLink | headEnable
  | headDisable | testStart | testSnapshot | testRead | testStop | setLoadWindow | setActivity | triggerSet | triggerRead
  | loadReport | planEdit | planValidate | planPropose | planCancel | consent | planQuery | planRead | setConsent
  | alarmSummary | alarmRead | alarmMask | post | take | start | hold | restart => exact refused e
  | requestArrival p m intact => exact .inl (next_inj e ▸ here.silent (outline_ite (arrive_outline s p m) rfl))
  | spiMessageWrite bytes => exact .inl (next_inj e ▸ here.silent (spiTransaction_outline s bytes))
  | spiMessageRead bytes => exact .inl (next_inj e ▸ here.silent (spiTransaction_outline s bytes))
  | replyEnqueue p => exact .inl (here.silent (replyEnqueue_outline s p e))
  | outgoingMessageSent l => exact .inl (here.silent (outgoingMessageSent_outline s l e))
  | resetAssert =>
    obtain rfl := next_inj e
    exact .inr (.inl ⟨⟨rfl, rfl, fun _ => rfl, Iff.rfl⟩, rfl, rfl⟩)
  | resetRelease =>
    obtain rfl := next_inj e
    rw [if_pos hr]
    exact .inr (.inr rfl)
  | bindingApply | consentExpiry | planRevalidate | noiseGuardMute | noiseGuardUnmute | slipGateOpen | saturationWindowEnd
  | loadWindowEnd | blipWindowEnd | seekLockComplete | measureAttemptBegin | remeasureCountdownEnd | markerLost
  | errorWindowEnd | holdOffExpiry | requestEnterService | arbiterGrant | operatorLinkDown | operatorLinkUp | timingMark
  | markTimeout | heldBoundary | samplePeriod | uplinkGroupComplete | lightLost | lightRestored | blipLimitReached | lockFound
  | lockLost | headReport | reportLate | reportLostLimit | markerReturn | testWordReturned | recomputeComplete => exact idle e

/-- Every step of a part whose lanes and plans agree is a run of the moves, or the assertion or the release of the device
reset. -/
theorem step_reaches {s t : State} (hs : s.agrees) (e : step s = .next t) :
    s.Reaches ∅ t ∨ s.halts t ∨ t.outline = State.reset.outline := by
  unfold step at e
  split at e
  · exact .inl (next_inj e ▸ .start)
  · next i rest _ =>
    have agrees : ({ s with pending := rest } : State).agrees := agrees_of_agreement (s := s) rfl hs
    have moves : ∀ {u : State} {U : Set (Head × Carrier)}, ({ s with pending := rest } : State).Reaches U u → s.Reaches U u :=
      fun r => r.after (.silent .start rfl)
    by_cases hr : s.mode = .reset
    · exact (exec_of_reset (s := { s with pending := rest }) hr i e).imp moves
        (Or.imp_left fun h => ⟨⟨h.placements, h.power, h.widths, h.asleep⟩, h.mode, h.heads⟩)
    · exact (exec_reaches (s := { s with pending := rest }) hr agrees i e).imp moves
        fun h => .inl ⟨⟨h.placements, h.power, h.widths, h.asleep⟩, h.mode, h.heads⟩

theorem State.halts.placements_eq {s t : State} (h : s.halts t) : t.placements = s.placements := h.placements

theorem State.halts.power_eq {s t : State} (h : s.halts t) : t.power = s.power := h.power

/-- The release of the device reset leaves no placement (R28). -/
theorem placements_of_reset {t : State} (e : t.outline = State.reset.outline) : t.placements = [] :=
  List.map_eq_nil_iff.1 (marks_of_outline e)

end Sys2Proof.Machine
end

section
/-!
PROOF of O7: the moves of a step keep the law of section 2.5, and so does every step.
-/

namespace Sys2Proof.Machine

open Sys2Proof

/-! ## Keys and verdicts of the placements -/

/-- What the law of section 2.5 looks at of a placement. -/
def Placement.verdict (p : Placement) : Head × Carrier × Exclusion := (p.head, p.carrier, p.exclusion)

def State.verdicts (s : State) : List (Head × Carrier × Exclusion) := s.placements.map Placement.verdict

/-- The pairs of head and carrier that have a placement. -/
def State.keys (s : State) : List (Head × Carrier) := s.placements.map fun p => (p.head, p.carrier)

theorem keys_eq_verdicts (s : State) : s.keys = s.verdicts.map fun v => (v.1, v.2.1) := by
  rw [State.verdicts, List.map_map]
  rfl

/-- A placement stands with its verdict where the verdicts are the same. -/
theorem verdict_of_mem {s t : State} (e : t.verdicts = s.verdicts) {p : Placement} (hp : p ∈ t.placements) :
    ∃ q ∈ s.placements, q.verdict = p.verdict := by
  have : p.verdict ∈ s.verdicts := e ▸ List.mem_map_of_mem hp
  simpa [State.verdicts] using this

theorem verdicts_of_outline {s t : State} (e : t.outline = s.outline) : t.verdicts = s.verdicts := by
  have marks := congrArg (List.map fun m => (m.1, m.2.1, m.2.2.1)) (marks_of_outline e)
  rw [List.map_map, List.map_map] at marks
  exact marks

theorem settle_verdicts (s t : State) : (settle s t).verdicts = t.verdicts := by
  have lasting := congrArg (List.map Placement.verdict) (idled_lasting t s)
  rw [List.map_map, List.map_map] at lasting
  rw [State.verdicts, settle_placements]
  exact lasting

theorem requestRecompute_verdicts (s : State) (h : Head) : (s.requestRecompute h).verdicts = s.verdicts :=
  congrArg (List.map Placement.verdict) (placements_of_sansPower (requestRecompute_sansPower s h))

theorem completeRecompute_verdicts (s : State) (h : Head) : (s.completeRecompute h).verdicts = s.verdicts := by
  have framed := congrArg (List.map fun m => (m.1, m.2.1, m.2.2.2.2)) (placements_of_framed (completeRecompute_framed s h))
  rw [List.map_map, List.map_map] at framed
  exact framed

theorem setExclusion_keys (s : State) (h : Head) (c : Carrier) (x : Exclusion) : (s.setExclusion h c x).keys = s.keys := by
  have places := congrArg (List.map fun m => (m.1, m.2.1)) (places_of_agreement (setExclusion_agreement s h c x))
  rw [List.map_map, List.map_map] at places
  exact places

/-- Where each pair has one placement, that of one pair takes a reason and the others keep theirs (R42). -/
theorem mem_setExclusion {s : State} (unique : s.keys.Nodup) (h : Head) (c : Carrier) (x : Exclusion) {p : Placement}
    (hp : p ∈ (s.setExclusion h c x).placements) :
    (p.head = h ∧ p.carrier = c ∧ p.exclusion = x) ∨
      (¬ (p.head = h ∧ p.carrier = c) ∧ ∃ q ∈ s.placements, q.verdict = p.verdict) := by
  have kept : (∀ q, s.placement h c = some q → q.exclusion = x) → p ∈ s.placements →
      (p.head = h ∧ p.carrier = c ∧ p.exclusion = x) ∨
        (¬ (p.head = h ∧ p.carrier = c) ∧ ∃ q ∈ s.placements, q.verdict = p.verdict) := by
    intro same mem
    by_cases key : p.head = h ∧ p.carrier = c
    · exact .inl ⟨key.1, key.2, same p ((placement_eq_some_iff unique).2 ⟨mem, key⟩)⟩
    · exact .inr ⟨key, p, mem, rfl⟩
  unfold State.setExclusion at hp
  split at hp
  · next none => exact kept (fun q e => by rw [none] at e; cases e) hp
  · next q found =>
    split at hp
    · next same => exact kept (fun r e => by rw [← Option.some.inj (found.symm.trans e)]; exact same) hp
    · have moved : p ∈ (settle s (s.modPlacement h c fun q => { q with exclusion := x })).placements := by
        dsimp only at hp
        split at hp
        · exact clear_placements _ _ _ _ ▸ hp
        · exact raise_placements _ _ _ _ ▸ hp
      obtain ⟨r, hr, e⟩ := verdict_of_mem (settle_verdicts _ _) moved
      obtain ⟨r, mem, rfl⟩ := List.mem_map.1 hr
      simp only [Placement.verdict, Prod.mk.injEq] at e
      obtain ⟨head, carrier, exclusion⟩ := e
      by_cases key : r.head = h ∧ r.carrier = c
      · rw [if_pos key] at head carrier exclusion
        exact .inl ⟨head ▸ key.1, carrier ▸ key.2, exclusion.symm⟩
      · rw [if_neg key] at head carrier exclusion
        exact .inr ⟨by rw [← head, ← carrier]; exact key, r, mem, by simp only [Placement.verdict, exclusion, head, carrier]⟩

/-! ## One placement for each pair, in ascending order -/

theorem removePlacement_keys (s : State) (h : Head) (c : Carrier) : (s.removePlacement h c).keys.Sublist s.keys := by
  rw [State.keys, removePlacement_placements]
  exact List.filter_sublist.map _

theorem createPlacement_keys (s : State) (h : Head) (c : Carrier) (u : LaneIndex) :
    (s.createPlacement h c u).keys.Perm ((h, c) :: s.keys) :=
  (insertPlacement_perm (newPlacement h c u s.carriers[c].width.units) s.placements).map _

theorem mem_keys {s : State} {h : Head} {c : Carrier} : (h, c) ∈ s.keys ↔ s.stands h c := by
  simp [State.keys, State.stands]

theorem keys_of_verdicts {s t : State} (e : t.verdicts = s.verdicts) : t.keys = s.keys := by
  rw [keys_eq_verdicts, keys_eq_verdicts, e]

/-- A property of the keys alone that the removal and the creation of a placement keep is kept by all moves. -/
theorem State.Reaches.keys_induction {P : List (Head × Carrier) → Prop} {s t : State} {U : Set (Head × Carrier)}
    (r : s.Reaches U t) (removed : ∀ (u : State) h c, P u.keys → P (u.removePlacement h c).keys)
    (created : ∀ (u : State) h c i, P u.keys → ¬ u.stands h c → P (u.createPlacement h c i).keys) (hs : P s.keys) : P t.keys := by
  induction r with
  | start => exact hs
  | silent _ e ih => exact keys_of_verdicts (verdicts_of_outline e) ▸ ih
  | spared _ _ ih => exact ih
  | delayed _ _ _ _ _ ih => exact ih
  | settled _ e _ ih =>
    rw [keys_of_verdicts (settle_verdicts _ _), State.keys, e.placements]
    exact ih
  | @judged _ _ u h c x _ _ _ _ ih => exact setExclusion_keys u h c x ▸ ih
  | recast _ _ _ _ ih => exact ih
  | @requested _ u h _ ih => exact keys_of_verdicts (requestRecompute_verdicts u h) ▸ ih
  | @completed _ u h _ _ ih => exact keys_of_verdicts (completeRecompute_verdicts u h) ▸ ih
  | abandoned _ _ _ _ _ ih => exact ih
  | removed h c _ ih => exact removed _ h c ih
  | created h c i _ absent _ ih => exact created _ h c i ih absent

theorem State.Reaches.unique {s t : State} {U : Set (Head × Carrier)} (r : s.Reaches U t) (hs : s.keys.Nodup) : t.keys.Nodup :=
  r.keys_induction (P := List.Nodup) (fun u h c hu => hu.sublist (removePlacement_keys u h c))
    (fun u h c i hu absent => (createPlacement_keys u h c i).nodup_iff.2
      (List.nodup_cons.2 ⟨fun mem => absent (mem_keys.1 mem), hu⟩)) hs

/-- A pair of head and carrier stands ahead of another. -/
def ahead (x y : Head × Carrier) : Prop := x.1 < y.1 ∨ (x.1 = y.1 ∧ x.2 < y.2)

theorem placementsInOrder_iff (s : State) : s.placementsInOrder ↔ s.keys.Pairwise ahead := by
  rw [State.keys, List.pairwise_map]
  rfl

theorem ahead_trans {x y z : Head × Carrier} (hxy : ahead x y) (hyz : ahead y z) : ahead x z := by
  unfold ahead at *
  grind

theorem ahead_of_not {x y : Head × Carrier} (h : ¬ ahead x y) (ne : y ≠ x) : ahead y x := by
  have : ¬ (y.1 = x.1 ∧ y.2 = x.2) := fun e => ne (Prod.ext e.1 e.2)
  unfold ahead at *
  grind

/-- A placement of a new pair is inserted where the order wants it (R28). -/
theorem insertPlacement_ordered {p : Placement} {l : List Placement}
    (hl : l.Pairwise fun q r => ahead (q.head, q.carrier) (r.head, r.carrier)) (hp : ∀ q ∈ l, (q.head, q.carrier) ≠ (p.head, p.carrier)) :
    (insertPlacement p l).Pairwise fun q r => ahead (q.head, q.carrier) (r.head, r.carrier) := by
  induction l with
  | nil => exact List.pairwise_singleton _ _
  | cons q l ih =>
    obtain ⟨first, rest⟩ := List.pairwise_cons.1 hl
    unfold insertPlacement
    split
    · next lt =>
      have lt : ahead (p.head, p.carrier) (q.head, q.carrier) := lt
      refine List.pairwise_cons.2 ⟨fun r hr => ?_, hl⟩
      obtain rfl | hr := List.mem_cons.1 hr
      · exact lt
      · exact ahead_trans lt (first r hr)
    · next ge =>
      refine List.pairwise_cons.2 ⟨fun r hr => ?_, ih rest fun r hr => hp r (List.mem_cons_of_mem q hr)⟩
      obtain rfl | hr := mem_insertPlacement.1 hr
      · exact ahead_of_not ge (hp q List.mem_cons_self)
      · exact first r hr

/-- The moves keep the placements in ascending order. -/
theorem State.Reaches.inOrder {s t : State} {U : Set (Head × Carrier)} (r : s.Reaches U t) (hs : s.placementsInOrder) :
    t.placementsInOrder := by
  rw [placementsInOrder_iff] at *
  refine r.keys_induction (P := List.Pairwise ahead) (fun u h c hu => hu.sublist (removePlacement_keys u h c))
    (fun u h c i hu absent => ?_) hs
  rw [State.keys, List.pairwise_map] at *
  refine insertPlacement_ordered hu fun q hq e => absent ?_
  obtain ⟨rfl, rfl⟩ := Prod.mk.inj e
  exact ⟨q, hq, rfl, rfl⟩

/-! ## Only WIDE placements are INCAPABLE -/

theorem width_congr (s : State) {c d : Carrier} (e : c = d) : s.carriers[c].width = s.carriers[d].width := by rw [e]

theorem incapableAreWide_congr {s t : State} (hs : s.incapableAreWide)
    (h : ∀ p ∈ t.placements, p.exclusion = .incapable → t.carriers[p.carrier].width = .wide ∨
      ∃ q ∈ s.placements, q.verdict = p.verdict ∧ t.carriers[q.carrier].width = s.carriers[q.carrier].width) :
    t.incapableAreWide := by
  intro p hp incapable
  obtain wide | ⟨q, hq, e, width⟩ := h p hp incapable
  · exact wide
  · simp only [Placement.verdict, Prod.mk.injEq] at e
    obtain ⟨-, carrier, exclusion⟩ := e
    rw [width_congr t carrier.symm, width]
    exact hs q hq (exclusion.trans incapable)

/-- Where placements and widths stay, so does the law. -/
theorem incapableAreWide_of_verdicts {s t : State} (hs : s.incapableAreWide) (e : t.verdicts = s.verdicts)
    (width : ∀ c : Carrier, t.carriers[c].width = s.carriers[c].width) : t.incapableAreWide :=
  incapableAreWide_congr hs fun _ hp _ => .inr (by
    obtain ⟨q, hq, e⟩ := verdict_of_mem e hp
    exact ⟨q, hq, e, width _⟩)

theorem width_of_sansPower {s t : State} (e : t.sansPower = s.sansPower) (c : Carrier) :
    t.carriers[c].width = s.carriers[c].width := by rw [carriers_of_sansPower e]

theorem settle_width (s t : State) (c : Carrier) : (settle s t).carriers[c].width = t.carriers[c].width :=
  width_of_agreement (settle_agreement t s) c

/-- The moves keep INCAPABLE to WIDE placements (R38). -/
theorem State.Reaches.incapable {s t : State} {U : Set (Head × Carrier)} (r : s.Reaches U t) (unique : s.keys.Nodup)
    (hs : s.incapableAreWide) : t.incapableAreWide := by
  induction r with
  | start => exact hs
  | silent _ e ih => exact incapableAreWide_of_verdicts ih (verdicts_of_outline e) (width_of_outline e)
  | spared _ _ ih => exact ih
  | delayed _ _ _ _ _ ih => exact ih
  | settled _ e _ ih =>
    refine incapableAreWide_of_verdicts ih ?_ fun c => (settle_width _ _ c).trans (e.widths c)
    rw [settle_verdicts, State.verdicts, e.placements]
    rfl
  | @judged _ _ u h c x r wide _ _ ih =>
    have width := width_of_agreement (setExclusion_agreement u h c x)
    refine incapableAreWide_congr ih fun p hp incapable => ?_
    obtain ⟨-, carrier, exclusion⟩ | ⟨-, q, hq, e⟩ := mem_setExclusion (r.unique unique) h c x hp
    · left
      rw [width_congr _ carrier, width]
      exact wide (exclusion.symm.trans incapable)
    · exact .inr ⟨q, hq, e, width _⟩
  | recast c f _ none ih =>
    refine incapableAreWide_congr ih fun p hp _ => .inr ⟨p, hp, rfl, ?_⟩
    rw [modCarrier_get_other _ _ (none p hp)]
  | requested h _ ih =>
    exact incapableAreWide_of_verdicts ih (requestRecompute_verdicts _ h) (width_of_sansPower (requestRecompute_sansPower _ h))
  | completed h _ _ ih =>
    exact incapableAreWide_of_verdicts ih (completeRecompute_verdicts _ h)
      (width_of_agreement (completeRecompute_agreement _ h))
  | abandoned _ _ _ _ _ ih => exact ih
  | removed h c _ ih =>
    exact incapableAreWide_congr ih fun p hp _ => .inr ⟨p, (mem_removePlacement.1 hp).1, rfl, by rw [removePlacement_carriers]⟩
  | created h c i _ _ _ ih =>
    refine incapableAreWide_congr ih fun p hp incapable => ?_
    obtain rfl | hp := mem_createPlacement.1 hp
    · cases incapable
    · exact .inr ⟨p, hp, rfl, rfl⟩

/-! ## The spread of the delays -/

theorem delay_congr (s : State) {g h : Head} (e : g = h) : s.heads[g].delay = s.heads[h].delay := by rw [e]

/-- The law of section 2.5, but for the pairs in U. -/
def State.spreadBeside (s : State) (U : Set (Head × Carrier)) : Prop :=
  ∀ p ∈ s.placements, ∀ q ∈ s.placements, p.carrier = q.carrier → p.exclusion = .none → q.exclusion = .none →
    (p.head, p.carrier) ∉ U → (q.head, q.carrier) ∉ U →
    ∀ d e, s.heads[p.head].delay = some d → s.heads[q.head].delay = some e → d ≤ e + Config.spreadLimit

theorem spreadBeside_empty (s : State) : s.spreadBeside ∅ ↔ s.spreadWithinLimit := by
  simp [State.spreadBeside, State.spreadWithinLimit]

/-- Where placements that are not EXCLUDED and known delays only become fewer beside the pairs in U, the law stays. -/
theorem spreadBeside_mono {s t : State} {U : Set (Head × Carrier)} (hs : s.spreadBeside U)
    (placed : ∀ p ∈ t.placements, p.exclusion = .none → (p.head, p.carrier) ∉ U → ∃ q ∈ s.placements, q.verdict = p.verdict)
    (delay : ∀ h : Head, t.heads[h].delay = s.heads[h].delay ∨ t.heads[h].delay = none ∨ ∀ c, (h, c) ∈ U) : t.spreadBeside U := by
  have known : ∀ {h : Head} {c : Carrier} {d : Nat}, (h, c) ∉ U → t.heads[h].delay = some d → s.heads[h].delay = some d := by
    intro h c d out hd
    obtain same | unknown | all := delay h
    · exact same ▸ hd
    · rw [unknown] at hd
      cases hd
    · exact absurd (all c) out
  intro p hp q hq carriers hpn hqn hpU hqU d e hd he
  obtain ⟨p', hp', ep⟩ := placed p hp hpn hpU
  obtain ⟨q', hq', eq⟩ := placed q hq hqn hqU
  simp only [Placement.verdict, Prod.mk.injEq] at ep eq
  obtain ⟨phead, pcarrier, pexclusion⟩ := ep
  obtain ⟨qhead, qcarrier, qexclusion⟩ := eq
  refine hs p' hp' q' hq' (by rw [pcarrier, qcarrier, carriers]) (pexclusion.trans hpn) (qexclusion.trans hqn)
    (by rw [phead, pcarrier]; exact hpU) (by rw [qhead, qcarrier]; exact hqU) d e
    ((delay_congr s phead).trans (known hpU hd)) ((delay_congr s qhead).trans (known hqU he))

theorem spreadBeside_of_verdicts {s t : State} {U : Set (Head × Carrier)} (hs : s.spreadBeside U) (e : t.verdicts = s.verdicts)
    (delay : ∀ h : Head, t.heads[h].delay = s.heads[h].delay ∨ t.heads[h].delay = none ∨ ∀ c, (h, c) ∈ U) : t.spreadBeside U :=
  spreadBeside_mono hs (fun _ hp _ _ => verdict_of_mem e hp) delay

/-- Where the spread test of a placement passes, the delays of its carrier lie close, its own among them (R40). -/
theorem within_of_windowTest {s : State} {h : Head} {c : Carrier} (passes : s.windowTest h c ≠ .window) {p q : Placement}
    (hp : p ∈ s.placements) (hq : q ∈ s.placements) (pc : p.carrier = c) (qc : q.carrier = c) (hpn : p.head = h ∨ p.exclusion = .none)
    (hqn : q.head = h ∨ q.exclusion = .none) {d e : Nat} (hd : s.heads[p.head].delay = some d)
    (he : s.heads[q.head].delay = some e) : d ≤ e + Config.spreadLimit := by
  by_contra far
  exact passes ((windowTest_eq_window_iff s h c).2
    ⟨q.head, p.head, e, d, ⟨q, hq, qc, rfl, hqn⟩, ⟨p, hp, pc, rfl, hpn⟩, he, hd, by omega⟩)

/-- Pairs to which no exclusion is owed are judged. -/
theorem spreadBeside_spared {s : State} {U U' : Set (Head × Carrier)} (unique : s.keys.Nodup) (hs : s.spreadBeside U)
    (judged : ∀ p ∈ U, p ∈ U' ∨ s.judgedAt p.1 p.2) : s.spreadBeside U' := by
  intro p hp q hq carriers hpn hqn hpU hqU d e hd he
  have owed : ∀ {r : Placement} {n : Nat}, r ∈ s.placements → r.exclusion = .none → (r.head, r.carrier) ∉ U' →
      s.heads[r.head].delay = some n → (r.head, r.carrier) ∉ U ∨ s.windowTest r.head r.carrier ≠ .window := by
    intro r n hr hrn hrU hn
    by_cases mem : (r.head, r.carrier) ∈ U
    · obtain mem | unknown | passes | excluded := judged _ mem
      · exact absurd mem hrU
      · exact absurd (unknown.symm.trans hn) nofun
      · exact .inr passes
      · exact absurd hrn (excluded r (placement_of_mem unique hr))
    · exact .inl mem
  obtain hpU | passes := owed hp hpn hpU hd
  · obtain hqU | passes := owed hq hqn hqU he
    · exact hs p hp q hq carriers hpn hqn hpU hqU d e hd he
    · exact within_of_windowTest passes hp hq carriers rfl (.inr hpn) (.inl rfl) hd he
  · exact within_of_windowTest passes hp hq rfl carriers.symm (.inl rfl) (.inr hqn) hd he

/-- A placement is given a reason, none only where its spread test passes (R38, R40, R41). -/
theorem spreadBeside_judged {s : State} {U U' : Set (Head × Carrier)} (unique : s.keys.Nodup) (hs : s.spreadBeside U) (h : Head)
    (c : Carrier) (x : Exclusion) (passes : x = .none → s.windowTest h c ≠ .window) (hU : U ⊆ insert (h, c) U') :
    (s.setExclusion h c x).spreadBeside U' := by
  intro p hp q hq carriers hpn hqn hpU hqU d e hd he
  have delays : ∀ g : Head, (s.setExclusion h c x).heads[g].delay = s.heads[g].delay := fun g => by
    rw [heads_of_sansConfig (setExclusion_sansConfig s h c x)]
  rw [delays] at hd he
  have stood : ∀ {r : Placement}, r ∈ (s.setExclusion h c x).placements → r.exclusion = .none →
      ∃ r' ∈ s.placements, r'.head = r.head ∧ r'.carrier = r.carrier ∧
        ((r.head = h ∧ r.carrier = c ∧ s.windowTest h c ≠ .window) ∨ (¬ (r.head = h ∧ r.carrier = c) ∧ r'.exclusion = .none)) := by
    intro r hr hrn
    obtain ⟨head, carrier, exclusion⟩ | ⟨other, r', hr', e⟩ := mem_setExclusion unique h c x hr
    · have key : (r.head, r.carrier) ∈ s.keys := setExclusion_keys s h c x ▸ List.mem_map.2 ⟨r, hr, rfl⟩
      obtain ⟨r', hr', rhead, rcarrier⟩ := mem_keys.1 key
      exact ⟨r', hr', rhead, rcarrier, .inl ⟨head, carrier, passes (exclusion.symm.trans hrn)⟩⟩
    · simp only [Placement.verdict, Prod.mk.injEq] at e
      exact ⟨r', hr', e.1, e.2.1, .inr ⟨other, e.2.2.trans hrn⟩⟩
  obtain ⟨p', hp', phead, pcarrier, pcase⟩ := stood hp hpn
  obtain ⟨q', hq', qhead, qcarrier, qcase⟩ := stood hq hqn
  have hd := (delay_congr s phead).trans hd
  have he := (delay_congr s qhead).trans he
  have same : p'.carrier = q'.carrier := by rw [pcarrier, qcarrier, carriers]
  obtain ⟨ph, pc, passes⟩ | ⟨pother, pnone⟩ := pcase
  · refine within_of_windowTest passes hp' hq' (pcarrier.trans pc) (same ▸ pcarrier.trans pc) (.inl (phead.trans ph)) ?_ hd he
    exact qcase.imp (fun y => qhead.trans y.1) fun y => y.2
  · obtain ⟨qh, qc, passes⟩ | ⟨qother, qnone⟩ := qcase
    · exact within_of_windowTest passes hp' hq' (same.trans (qcarrier.trans qc)) (qcarrier.trans qc) (.inr pnone)
        (.inl (qhead.trans qh)) hd he
    · have outside : ∀ {r : Placement}, ¬ (r.head = h ∧ r.carrier = c) → (r.head, r.carrier) ∉ U' → (r.head, r.carrier) ∉ U :=
        fun other hr mem => (hU mem).elim (fun e => other (Prod.mk.inj e)) hr
      refine hs p' hp' q' hq' same pnone qnone ?_ ?_ d e hd he
      · rw [phead, pcarrier]
        exact outside pother hpU
      · rw [qhead, qcarrier]
        exact outside qother hqU

theorem heads_of_sansPower {s t : State} (e : t.sansPower = s.sansPower) : t.heads = s.heads :=
  heads_of_sansConfig (sansConfig_of_sansPower e)

theorem removePlacement_heads (s : State) (h : Head) (c : Carrier) : (s.removePlacement h c).heads = s.heads := by
  simp [State.removePlacement, State.withdrawWritable]

/-- The moves keep the law of section 2.5 beside the pairs that are left to judge (R39, R40, R41). -/
theorem State.Reaches.spread {s t : State} {U : Set (Head × Carrier)} (r : s.Reaches U t) (unique : s.keys.Nodup)
    (hs : s.spreadWithinLimit) : t.spreadBeside U := by
  induction r with
  | start => exact (spreadBeside_empty s).2 hs
  | silent _ e ih => exact spreadBeside_of_verdicts ih (verdicts_of_outline e) fun h => .inl (delay_of_outline e h)
  | spared r judged ih => exact spreadBeside_spared (r.unique unique) ih judged
  | @delayed U u h f _ _ delay ih =>
    refine spreadBeside_of_verdicts ih rfl fun g => ?_
    simp only [State.modHead, get_set]
    split
    · next e => exact e ▸ .inr delay
    · exact .inl rfl
  | @settled U u v _ e delay ih =>
    have heads : (settle u v).heads = v.heads := heads_of_sansConfig (settle_sansConfig u v)
    refine spreadBeside_of_verdicts ih ?_ fun h => by rw [heads]; exact delay h
    rw [settle_verdicts, State.verdicts, e.placements]
    rfl
  | judged h c x r _ passes hU ih => exact spreadBeside_judged (r.unique unique) ih h c x passes hU
  | recast _ _ _ _ ih => exact ih
  | @requested U u h _ ih =>
    have heads := heads_of_sansPower (requestRecompute_sansPower u h)
    exact spreadBeside_of_verdicts ih (requestRecompute_verdicts u h) fun g => .inl (by rw [heads])
  | @completed U u h _ _ ih =>
    have delays : ∀ g : Head, (u.completeRecompute h).heads[g].delay = u.heads[g].delay := fun g =>
      (congrArg HeadLink.delay (head_of_framed (completeRecompute_framed u h) g) :)
    exact spreadBeside_of_verdicts ih (completeRecompute_verdicts u h) fun g => .inl (delays g)
  | abandoned _ _ _ _ _ ih => exact ih
  | @removed U u h c _ ih =>
    exact spreadBeside_mono ih (fun p hp _ _ => ⟨p, (mem_removePlacement.1 hp).1, rfl⟩) fun g => .inl (by rw [removePlacement_heads])
  | created h c i _ _ mem ih =>
    refine spreadBeside_mono ih (fun p hp _ out => ?_) fun g => .inl rfl
    obtain rfl | hp := mem_createPlacement.1 hp
    · exact absurd mem out
    · exact ⟨p, hp, rfl⟩

/-! ## Every step -/

/-- Settles O7: every step is made of moves that judge what they change, and the moves keep placements in order, INCAPABLE to
WIDE placements, and the delays of what is not EXCLUDED close. -/
theorem everyStepKeepsTheSpreadWithinTheLimit : Obligations.EveryStepKeepsTheSpreadWithinTheLimit := by
  unfold Obligations.EveryStepKeepsTheSpreadWithinTheLimit
  refine ⟨fun s t lanes plans spread e => ?_, fun s t lanes plans wide e => ?_, fun s t lanes plans order e => ?_⟩
  · obtain r | halts | reset := step_reaches ⟨lanes, plans⟩ e
    · exact (spreadBeside_empty t).1 (r.spread lanes.1 spread)
    · rw [State.spreadWithinLimit, halts.heads, halts.placements_eq]
      exact spread
    · intro p hp
      rw [placements_of_reset reset] at hp
      cases hp
  · obtain r | halts | reset := step_reaches ⟨lanes, plans⟩ e
    · exact r.incapable lanes.1 wide
    · intro p hp incapable
      rw [halts.placements_eq] at hp
      exact (halts.widths p.carrier).trans (wide p hp incapable)
    · intro p hp
      rw [placements_of_reset reset] at hp
      cases hp
  · obtain r | halts | reset := step_reaches ⟨lanes, plans⟩ e
    · exact r.inOrder order
    · rw [State.placementsInOrder, halts.placements_eq]
      exact order
    · rw [State.placementsInOrder, placements_of_reset reset]
      exact List.Pairwise.nil

end Sys2Proof.Machine
end

section
/-!
SUPPORT. The division of a budget does not exceed it (R56 to R58).
-/

namespace Sys2Proof.Machine

open Sys2Proof

/-! ## Sums over lists -/

/-- Shares rounded down add up to at most the share of the whole. -/
theorem sum_share_le {α : Type} (f : α → Nat) (k d : Nat) (l : List α) :
    (l.map fun a => k * f a / d).sum ≤ k * (l.map f).sum / d := by
  induction l with
  | nil => simp
  | cons a l ih =>
    simp only [List.map_cons, List.sum_cons, Nat.mul_add]
    exact (Nat.add_le_add_left ih _).trans (Nat.div_add_div_le_add_div)

/-- Where the whole is the divisor, the shares add up to at most what is shared. -/
theorem sum_share_le_whole {α : Type} (f : α → Nat) (k : Nat) (l : List α) :
    (l.map fun a => k * f a / (l.map f).sum).sum ≤ k := by
  refine (sum_share_le f k _ l).trans ?_
  obtain zero | pos := Nat.eq_zero_or_pos (l.map f).sum
  · rw [zero]
    simp
  · exact (Nat.mul_div_cancel k pos).le

/-- A sum taken group by group. -/
theorem sum_by_key {α κ : Type} [DecidableEq κ] (key : α → κ) (f : α → Nat) {L : List κ} (hL : L.Nodup) (l : List α) :
    (L.map fun k => ((l.filter fun a => decide (key a = k)).map f).sum).sum =
      ((l.filter fun a => decide (key a ∈ L)).map f).sum := by
  induction L with
  | nil => simp
  | cons k L ih =>
    obtain ⟨hk, hL⟩ := List.nodup_cons.1 hL
    rw [List.map_cons, List.sum_cons, ih hL]
    clear ih
    induction l with
    | nil => rfl
    | cons a l ih =>
      simp only [List.mem_cons, Bool.decide_or] at ih ⊢
      by_cases same : key a = k
      · subst same
        simp [hk, ← ih, Nat.add_assoc]
      · by_cases mem : key a ∈ L
        · simp [same, mem, ← ih, Nat.add_left_comm]
        · simp [same, mem, ← ih]

/-- Numbers bounded term by term have bounded sums. -/
theorem sum_map_le {α : Type} {f g : α → Nat} (l : List α) (h : ∀ a ∈ l, f a ≤ g a) : (l.map f).sum ≤ (l.map g).sum :=
  List.sum_le_sum h

/-! ## The division -/

variable (budget : Nat) (entries : List (Carrier × Nat)) (weights : Vector Nat 4)

theorem presentOperators_nodup : (presentOperators entries).Nodup := (List.nodup_finRange 4).filter _

/-- The guaranteed portions do not exceed the budget (R57). -/
theorem guaranteed_sum_le : ((presentOperators entries).map fun l => guaranteed budget entries weights l).sum ≤ budget := by
  have shares := sum_share_le_whole (fun l : Link => weights[l]) budget (presentOperators entries)
  refine (sum_map_le _ fun l _ => ?_).trans shares
  unfold guaranteed
  dsimp only
  split
  · exact Nat.zero_le _
  · exact le_rfl

/-- The allotments do not exceed the budget (R57, R58). -/
theorem allotment_sum_le : ((presentOperators entries).map fun l => allotment budget entries weights l).sum ≤ budget := by
  have first : ((presentOperators entries).map fun l => firstPass budget entries weights l).sum ≤ budget :=
    (sum_map_le _ fun _ _ => Nat.min_le_right _ _).trans (guaranteed_sum_le budget entries weights)
  have second := sum_share_le_whole (fun l => excess budget entries weights l) (surplus budget entries weights) (presentOperators entries)
  have both : ((presentOperators entries).map fun l => allotment budget entries weights l).sum =
      ((presentOperators entries).map fun l => firstPass budget entries weights l).sum + _ := List.sum_map_add
  have surplus_eq : surplus budget entries weights =
      budget - ((presentOperators entries).map fun l => firstPass budget entries weights l).sum := rfl
  omega

/-- The grants that a recompute installs do not exceed its budget (R56). -/
theorem grantOf_sum_le : (entries.map (grantOf budget entries weights)).sum ≤ budget := by
  by_cases fits : (entries.map (·.2)).sum ≤ budget
  · refine (sum_map_le entries fun e _ => ?_).trans fits
    rw [grantOf, if_pos fits]
  · have owned : ∀ e ∈ entries, e.1.owner ∈ presentOperators entries := fun e he =>
      List.mem_filter.2 ⟨List.mem_finRange _, List.any_eq_true.2 ⟨e, he, by simp⟩⟩
    have grouped := sum_by_key (fun e : Carrier × Nat => e.1.owner) (grantOf budget entries weights)
      (presentOperators_nodup entries) entries
    rw [List.filter_eq_self.2 fun e he => decide_eq_true (owned e he)] at grouped
    rw [← grouped]
    refine (sum_map_le _ fun l _ => ?_).trans (allotment_sum_le budget entries weights)
    have shares := sum_share_le_whole (fun e : Carrier × Nat => e.2) (allotment budget entries weights l)
      (entries.filter fun e => decide (e.1.owner = l))
    refine (sum_map_le _ fun e he => ?_).trans shares
    have owner : e.1.owner = l := of_decide_eq_true (List.mem_filter.1 he).2
    rw [grantOf, if_neg fits, owner, Nat.mul_comm]
    exact le_rfl

end Sys2Proof.Machine
end

section
/-!
PROOF of O8: the moves of a step keep the grants of every head within its effective budget, and so does every step.
-/

namespace Sys2Proof.Machine

open Sys2Proof

/-! ## Eligibility -/

/-- A placement takes part in the division in RUN, while it is not EXCLUDED, its head radiates and its operator link is UP
(R29). -/
theorem eligible_eq (s : State) (p : Placement) :
    s.eligible p =
      (decide (p.exclusion = .none) && decide (s.mode = .run) && s.heads[p.head].radiates && s.linkUp p.carrier.owner) := by
  unfold State.eligible State.downlinkState
  by_cases excluded : p.exclusion = .none
  · by_cases run : s.mode = .run
    · have out : (!s.inService p.head || s.paOff p.head) = !s.heads[p.head].radiates := by
        simp [HeadLink.radiates, paOff_eq, State.inService]
      rw [out]
      cases s.heads[p.head].radiates <;> cases s.linkUp p.carrier.owner <;> cases p.outcome <;>
        simp [excluded, run, DownlinkState.eligible]
    · simp [excluded, run, DownlinkState.eligible]
  · simp [excluded, DownlinkState.eligible]

/-- Eligibility looks at exclusion, mode, service and links alone. -/
theorem eligible_of_outline {s t : State} (e : t.outline = s.outline) (p : Placement) : t.eligible p = s.eligible p := by
  rw [eligible_eq, eligible_eq, mode_of_outline e, up_of_outline e,
    show t.heads[p.head].radiates = s.heads[p.head].radiates from congrArg Prod.snd (service_of_outline e p.head)]

theorem eligible_of_verdict (s : State) {p q : Placement} (e : q.verdict = p.verdict) : s.eligible q = s.eligible p := by
  simp only [Placement.verdict, Prod.mk.injEq] at e
  obtain ⟨head, carrier, exclusion⟩ := e
  have radiates : s.heads[q.head].radiates = s.heads[p.head].radiates := congrArg (fun h : Head => s.heads[h].radiates) head
  rw [eligible_eq, eligible_eq, radiates, carrier, exclusion]

theorem eligible_of_sansConfig {s t : State} (e : t.sansConfig = s.sansConfig) : t.eligible = s.eligible :=
  eligible_congr (mode_of_sansConfig e) (heads_of_sansConfig e) (links_of_sansConfig e)

/-! ## The law, head by head -/

/-- The grants of a head, added up. -/
def State.granted (s : State) (h : Head) : Nat := ((s.placementsOn h).map (·.grant)).sum

/-- A running recompute may write a placement. -/
def Snapshot.mayWrite (x : Snapshot) (c : Carrier) : Prop := c ∈ x.writable ∧ c ∈ x.entries.map (·.1)

theorem grantsWithinBudget_iff (s : State) :
    s.grantsWithinBudget ↔
      (∀ h : Head, s.granted h ≤ s.power[h].effective) ∧
      (s.mode ≠ .reset → ∀ p ∈ s.placements, p.grant ≠ 0 → s.eligible p = true ∧
        ∀ x, s.power[p.head].running = some x → x.mayWrite p.carrier) ∧
      ∀ (h : Head) (x : Snapshot), s.power[h].running = some x → (x.entries.map (·.1)).Nodup := Iff.rfl

/-- What the sums of the grants look at of a placement. -/
def Placement.holding (p : Placement) : Head × Carrier × Nat := (p.head, p.carrier, p.grant)

theorem granted_of_holdings {s t : State} (e : t.placements.map Placement.holding = s.placements.map Placement.holding) (h : Head) :
    t.granted h = s.granted h := by
  have sums : ∀ u : State, u.granted h =
      (((u.placements.map Placement.holding).filter fun x => decide (x.1 = h)).map fun x => x.2.2).sum := fun u => by
    rw [List.filter_map, List.map_map]
    rfl
  rw [sums, sums, e]

theorem keys_of_holdings {s t : State} (e : t.placements.map Placement.holding = s.placements.map Placement.holding) :
    t.keys = s.keys := by
  have keys := congrArg (List.map fun x => (x.1, x.2.1)) e
  rw [List.map_map, List.map_map] at keys
  exact keys

/-- Where placements keep their heads and give grants up, the grants of a head only fall. -/
theorem granted_map_le {s t : State} {f : Placement → Placement} (e : t.placements = s.placements.map f)
    (hf : ∀ p, (f p).head = p.head ∧ (f p).grant ≤ p.grant) (h : Head) : t.granted h ≤ s.granted h := by
  unfold State.granted State.placementsOn
  rw [e]
  induction s.placements with
  | nil => exact le_rfl
  | cons p l ih =>
    obtain ⟨head, grant⟩ := hf p
    by_cases same : p.head = h
    · simp only [List.map_cons, List.filter_cons, head, same, decide_true, if_true, List.sum_cons]
      exact Nat.add_le_add grant ih
    · simpa [List.filter_cons, head, same] using ih

/-- Where fewer placements stand, the grants of a head only fall. -/
theorem granted_sublist_le {s t : State} (e : t.placements.Sublist s.placements) (h : Head) : t.granted h ≤ s.granted h :=
  ((e.filter _).map _).sum_le_sum fun _ _ => Nat.zero_le _

/-- The carriers of a head's placements, each once. -/
theorem carriersOn_nodup {s : State} (unique : s.keys.Nodup) (h : Head) : ((s.placementsOn h).map (·.carrier)).Nodup := by
  have here : ((s.placementsOn h).map fun p => (p.head, p.carrier)).Nodup := unique.sublist (List.filter_sublist.map _)
  refine List.Nodup.of_map (fun c => (h, c)) ?_
  rw [List.map_map]
  refine (List.map_congr_left fun p hp => ?_) ▸ here
  exact Prod.ext (of_decide_eq_true (List.mem_filter.1 hp).2) rfl

/-- A placement stands with its mark where the marks are the same. -/
theorem mark_of_mem {s t : State} (e : t.outline = s.outline) {p : Placement} (hp : p ∈ t.placements) :
    ∃ q ∈ s.placements, q.mark = p.mark := by
  have : p.mark ∈ s.placements.map Placement.mark := marks_of_outline e ▸ List.mem_map_of_mem hp
  simpa using this

theorem holdings_of_outline {s t : State} (e : t.outline = s.outline) :
    t.placements.map Placement.holding = s.placements.map Placement.holding := by
  have marks := congrArg (List.map fun m => (m.1, m.2.1, m.2.2.2)) (marks_of_outline e)
  rw [List.map_map, List.map_map] at marks
  exact marks

/-- The law looks at mode, marks, eligibility and recomputes alone. -/
theorem within_congr {s t : State} (hs : s.grantsWithinBudget)
    (held : t.placements.map Placement.holding = s.placements.map Placement.holding)
    (placed : ∀ p ∈ t.placements, ∃ q ∈ s.placements, q.head = p.head ∧ q.carrier = p.carrier ∧ q.grant = p.grant ∧
      t.eligible p = s.eligible q)
    (power : ∀ h : Head, t.power[h].effective = s.power[h].effective ∧ t.power[h].running = s.power[h].running)
    (mode : t.mode = s.mode) : t.grantsWithinBudget := by
  rw [grantsWithinBudget_iff] at *
  obtain ⟨sums, holders, entries⟩ := hs
  refine ⟨fun h => ?_, fun awake p hp grant => ?_, fun h x hx => entries h x ((power h).2 ▸ hx)⟩
  · rw [granted_of_holdings held, (power h).1]
    exact sums h
  · obtain ⟨q, hq, head, carrier, grants, eligible⟩ := placed p hp
    obtain ⟨el, may⟩ := holders (mode ▸ awake) q hq (grants ▸ grant)
    refine ⟨eligible.trans el, fun x hx => ?_⟩
    rw [(power p.head).2] at hx
    exact carrier ▸ may x ((congrArg (fun h : Head => s.power[h].running) head).trans hx)

theorem within_of_outline {s t : State} (hs : s.grantsWithinBudget) (e : t.outline = s.outline) : t.grantsWithinBudget := by
  refine within_congr hs (holdings_of_outline e) (fun p hp => ?_) (power_of_outline e) (mode_of_outline e)
  obtain ⟨q, hq, mark⟩ := mark_of_mem e hp
  simp only [Placement.mark, Prod.mk.injEq] at mark
  obtain ⟨head, carrier, exclusion, grant⟩ := mark
  refine ⟨q, hq, head, carrier, grant, ?_⟩
  rw [eligible_of_outline e, eligible_of_verdict s (q := q) (p := p) (by rw [Placement.verdict, Placement.verdict, head, carrier, exclusion])]

/-! ## Snapshots and requests -/

theorem snapshot_entries (s : State) (h : Head) :
    (s.snapshot h).entries.map (·.1) = ((s.placementsOn h).filter s.eligible).map (·.carrier) := by
  rw [State.snapshot, List.map_map]
  rfl

/-- A snapshot may write the placements that take part in the division (R50). -/
theorem snapshot_mayWrite {s : State} {p : Placement} (hp : p ∈ s.placements) (eligible : s.eligible p = true) :
    (s.snapshot p.head).mayWrite p.carrier := by
  have mem : p.carrier ∈ (s.snapshot p.head).entries.map (·.1) := by
    rw [snapshot_entries]
    exact List.mem_map.2 ⟨p, List.mem_filter.2 ⟨List.mem_filter.2 ⟨hp, by simp⟩, eligible⟩, rfl⟩
  exact ⟨mem, mem⟩

theorem snapshot_nodup {s : State} (unique : s.keys.Nodup) (h : Head) : ((s.snapshot h).entries.map (·.1)).Nodup := by
  rw [snapshot_entries]
  exact (carriersOn_nodup unique h).sublist (List.filter_sublist.map _)

theorem requested_effective (q : PowerHead) (x : Snapshot) : (q.requested x).effective = q.effective := by
  unfold PowerHead.requested
  split <;> rfl

/-- A request leaves a running recompute, or starts one with the snapshot (R50, R51). -/
theorem requested_running {q : PowerHead} {x y : Snapshot} (h : (q.requested x).running = some y) :
    q.running = some y ∨ y = x := by
  unfold PowerHead.requested at h
  split at h
  · exact .inl h
  · exact .inr (Option.some.inj h).symm

/-- Requests for recomputes keep the law. -/
theorem within_of_asked {s t : State} (unique : s.keys.Nodup) (hs : s.grantsWithinBudget) (placements : t.placements = s.placements)
    (config : t.sansConfig = s.sansConfig)
    (asked : ∀ h : Head, t.power[h] = s.power[h] ∨ t.power[h] = s.power[h].requested (s.snapshot h)) : t.grantsWithinBudget := by
  rw [grantsWithinBudget_iff] at *
  obtain ⟨sums, holders, entries⟩ := hs
  have running : ∀ (h : Head) (x : Snapshot), t.power[h].running = some x → s.power[h].running = some x ∨ x = s.snapshot h := by
    intro h x hx
    obtain e | e := asked h <;> rw [e] at hx
    · exact .inl hx
    · exact requested_running hx
  refine ⟨fun h => ?_, fun mode p hp grant => ?_, fun h x hx => ?_⟩
  · have effective : t.power[h].effective = s.power[h].effective := by
      obtain e | e := asked h <;> rw [e]
      exact requested_effective _ _
    rw [State.granted, State.placementsOn, placements, effective]
    exact sums h
  · rw [placements] at hp
    rw [mode_of_sansConfig config] at mode
    obtain ⟨eligible, may⟩ := holders mode p hp grant
    refine ⟨by rw [eligible_of_sansConfig config]; exact eligible, fun x hx => ?_⟩
    obtain before | rfl := running p.head x hx
    · exact may x before
    · exact snapshot_mayWrite hp eligible
  · obtain before | rfl := running h x hx
    · exact entries h x before
    · exact snapshot_nodup unique h

/-! ## Losing eligibility -/

/-- Placements that leave eligibility are no longer written, and nothing else of the recomputes changes (R31, R52). -/
theorem loseAll_power (h : Head) (l : List Placement) : ∀ s : State,
    (forAll l (fun p t => t.loseEligibility p) s).power[h].effective = s.power[h].effective ∧
      ∀ x, (forAll l (fun p t => t.loseEligibility p) s).power[h].running = some x →
        ∃ y, s.power[h].running = some y ∧ x.entries = y.entries ∧
          ∀ c ∈ y.writable, (∀ p ∈ l, ¬ (p.head = h ∧ p.carrier = c)) → c ∈ x.writable := by
  induction l with
  | nil => exact fun s => ⟨rfl, fun x hx => ⟨x, hx, rfl, fun c hc _ => hc⟩⟩
  | cons p l ih =>
    intro s
    obtain ⟨effective, writable⟩ := ih (s.loseEligibility p)
    have one : (s.loseEligibility p).power[h] = (s.withdrawWritable p.head p.carrier).power[h] := by rw [loseEligibility_power]
    rw [State.withdrawWritable, modPower_power] at one
    rw [forAll_cons]
    refine ⟨effective.trans ?_, fun x hx => ?_⟩
    · rw [one]
      split
      · next e => rw [e]
      · rfl
    · obtain ⟨y, hy, hxy, kept⟩ := writable x hx
      rw [one] at hy
      split at hy
      · next e =>
        subst e
        obtain ⟨z, hz, rfl⟩ := Option.map_eq_some_iff.1 hy
        refine ⟨z, hz, hxy, fun c hc none => kept c ?_ fun q hq => none q (List.mem_cons_of_mem p hq)⟩
        exact List.mem_filter.2 ⟨hc, decide_eq_true fun e => none p List.mem_cons_self ⟨rfl, e.symm⟩⟩
      · exact ⟨y, hy, hxy, fun c hc none => kept c hc fun q hq => none q (List.mem_cons_of_mem p hq)⟩

/-- What follows a change of eligibility keeps the law: who holds a grant still takes part in the division, or gives the
grant up (R31). -/
theorem settle_within {u v : State} (unique : u.keys.Nodup) (hu : u.grantsWithinBudget)
    (held : v.placements.map Placement.holding = u.placements.map Placement.holding) (power : v.power = u.power)
    (awake : v.mode ≠ .reset → u.mode ≠ .reset) : (settle u v).grantsWithinBudget := by
  have unique' : v.keys.Nodup := keys_of_holdings held ▸ unique
  have idled : (v.idled u).placements = _ := loseAll_placements (leftEligibility u v) v
  have effective : ∀ h : Head, (v.idled u).power[h].effective = u.power[h].effective := fun h =>
    (loseAll_power h (leftEligibility u v) v).1.trans (by rw [power])
  have running : ∀ (h : Head) (x : Snapshot), (v.idled u).power[h].running = some x → ∃ y, u.power[h].running = some y ∧ _ :=
    fun h x hx => power ▸ (loseAll_power h (leftEligibility u v) v).2 x hx
  have config := idled_sansConfig v u
  refine within_of_asked (s := v.idled u) ?_ ?_ (settle_placements u v) ((settle_sansConfig u v).trans config.symm) fun h => ?_
  · rw [State.keys, idled, List.map_map]
    refine (List.map_congr_left fun q _ => ?_) ▸ unique'
    dsimp only [Function.comp]
    split <;> rfl
  · rw [grantsWithinBudget_iff] at *
    obtain ⟨sums, holders, entries⟩ := hu
    refine ⟨fun h => ?_, fun mode p hp grant => ?_, fun h x hx => ?_⟩
    · rw [effective]
      refine le_trans (granted_map_le idled (fun q => ?_) h) ((granted_of_holdings held h).trans_le (sums h))
      split
      · exact ⟨rfl, Nat.zero_le _⟩
      · exact ⟨rfl, le_rfl⟩
    · rw [idled] at hp
      obtain ⟨q, hq, rfl⟩ := List.mem_map.1 hp
      split at grant
      · exact absurd rfl grant
      · next stays =>
        rw [if_neg stays]
        rw [mode_of_sansConfig config] at mode
        have left : ∀ r ∈ leftEligibility u v, ¬ (r.head = q.head ∧ r.carrier = q.carrier) := fun r hr key =>
          stays (List.any_eq_true.2 ⟨r, hr, decide_eq_true ⟨key.1.symm, key.2.symm⟩⟩)
        have mem : q.holding ∈ u.placements.map Placement.holding := held ▸ List.mem_map_of_mem hq
        obtain ⟨q', hq', same⟩ := List.mem_map.1 mem
        simp only [Placement.holding, Prod.mk.injEq] at same
        obtain ⟨head, carrier, grants⟩ := same
        obtain ⟨eligible, may⟩ := holders (awake mode) q' hq' (grants ▸ grant)
        have found : u.placement q.head q.carrier = some q' := (placement_eq_some_iff unique).2 ⟨hq', head, carrier⟩
        refine ⟨?_, fun x hx => ?_⟩
        · rw [eligible_of_sansConfig config]
          by_contra out
          refine left q (List.mem_filter.2 ⟨List.mem_filter.2 ⟨hq, ?_⟩, by simpa using out⟩) ⟨rfl, rfl⟩
          rw [found]
          simpa [eligible] using out
        · obtain ⟨y, hy, same, kept⟩ := running q.head x hx
          have may := may y ((congrArg (fun h : Head => u.power[h].running) head).trans hy)
          rw [carrier] at may
          exact ⟨kept _ may.1 left, same ▸ may.2⟩
    · obtain ⟨y, hy, e, -⟩ := running h x hx
      rw [e]
      exact entries h y hy
  · rw [settle_power]
    split
    · exact .inr rfl
    · exact .inl rfl

/-! ## The completion of a recompute -/

/-- What the installation of an entry makes of a placement: one that takes part in the division and may be written is given the
entry's grant, any other keeps its own (R52). -/
def State.installs (s : State) (h : Head) (x : Snapshot) (e : Carrier × Nat) (p q : Placement) : Prop :=
  p.verdict = q.verdict ∧
    ((p.head = h ∧ p.carrier = e.1 ∧ s.eligible p = true ∧ q.grant = grantOf x.budget x.entries x.weights e) ∨
      (¬ (p.head = h ∧ p.carrier = e.1 ∧ e.1 ∈ x.writable ∧ s.eligible p = true) ∧ q.grant = p.grant))

theorem mem_installEntry {s : State} (unique : s.keys.Nodup) (h : Head) (x : Snapshot) (e : Carrier × Nat) {q : Placement}
    (hq : q ∈ (s.installEntry h x e).placements) : ∃ p ∈ s.placements, s.installs h x e p q := by
  have kept : (∀ p, s.placement h e.1 = some p → ¬ (e.1 ∈ x.writable ∧ s.eligible p = true)) → q ∈ s.placements →
      ∃ p ∈ s.placements, s.installs h x e p q := fun none mem =>
    ⟨q, mem, rfl, .inr ⟨fun ⟨head, carrier, may⟩ => none q ((placement_eq_some_iff unique).2 ⟨mem, head, carrier⟩) may, rfl⟩⟩
  unfold State.installEntry at hq
  split at hq
  · next none => exact kept (fun p e => by rw [none] at e; cases e) hq
  · next p found =>
    split at hq
    · next may =>
      simp only [Bool.and_eq_true, List.contains_iff_mem] at may
      extract_lets grant step outcome t at hq
      have mem : q ∈ t.placements := by
        split at hq
        · exact raise_placements _ _ _ _ ▸ hq
        · split at hq
          · exact clear_placements _ _ _ _ ▸ hq
          · exact hq
      obtain ⟨r, hr, rfl⟩ := List.mem_map.1 mem
      by_cases key : r.head = h ∧ r.carrier = e.1
      · obtain rfl : p = r := Option.some.inj (found.symm.trans ((placement_eq_some_iff unique).2 ⟨hr, key⟩))
        rw [if_pos key]
        exact ⟨p, hr, rfl, .inl ⟨key.1, key.2, may.2, rfl⟩⟩
      · rw [if_neg key]
        exact ⟨r, hr, rfl, .inr ⟨fun y => key ⟨y.1, y.2.1⟩, rfl⟩⟩
    · next not =>
      refine kept (fun r found' may => not ?_) hq
      rw [← Option.some.inj (found.symm.trans found')] at may
      simpa using may

theorem installEntry_verdicts (s : State) (h : Head) (x : Snapshot) (e : Carrier × Nat) :
    (s.installEntry h x e).verdicts = s.verdicts := by
  have framed := congrArg (List.map fun m => (m.1, m.2.1, m.2.2.2.2))
    (placements_of_framed (framed_of_lasting (installEntry_lasting s h x e)))
  rw [List.map_map, List.map_map] at framed
  exact framed

theorem eligible_of_sansLog {s t : State} (e : t.sansLog = s.sansLog) : t.eligible = s.eligible :=
  eligible_of_sansConfig (sansConfig_of_sansPower (sansPower_of_sansLog e))

theorem installEntry_eligible (s : State) (h : Head) (x : Snapshot) (e : Carrier × Nat) :
    (s.installEntry h x e).eligible = s.eligible := by
  unfold State.installEntry
  split
  · rfl
  · split
    · extract_lets grant step outcome t
      have marked : t.eligible = s.eligible := rfl
      split
      · exact (eligible_of_sansLog (raise_sansLog t _ _ _)).trans marked
      · split
        · exact (eligible_of_sansLog (clear_sansLog t _ _ _)).trans marked
        · exact marked
    · rfl

/-- What the installation of a list of entries makes of a placement (R52). -/
theorem mem_installAll (h : Head) (x : Snapshot) (l : List (Carrier × Nat)) : ∀ {s : State}, s.keys.Nodup → ∀ {q : Placement},
    q ∈ (forAll l (fun e u => u.installEntry h x e) s).placements → ∃ p ∈ s.placements, p.verdict = q.verdict ∧
      ((p.head = h ∧ s.eligible p = true ∧ ∃ e ∈ l, e.1 = p.carrier ∧ q.grant = grantOf x.budget x.entries x.weights e) ∨
        ((p.head = h → s.eligible p = true → p.carrier ∈ x.writable → p.carrier ∉ l.map (·.1)) ∧ q.grant = p.grant)) := by
  induction l with
  | nil => exact fun {s} _ {q} hq => ⟨q, hq, rfl, .inr ⟨fun _ _ _ => List.not_mem_nil, rfl⟩⟩
  | cons e l ih =>
    intro s unique q hq
    obtain ⟨r, hr, same, late⟩ := ih (keys_of_verdicts (installEntry_verdicts s h x e) ▸ unique) hq
    obtain ⟨p, hp, verdict, now⟩ := mem_installEntry unique h x e hr
    have eligible : (s.installEntry h x e).eligible r = s.eligible p := by
      rw [installEntry_eligible, eligible_of_verdict s verdict.symm]
    have verdicts := verdict
    simp only [Placement.verdict, Prod.mk.injEq] at verdicts
    obtain ⟨head, carrier, -⟩ := verdicts
    rw [eligible, ← head, ← carrier] at late
    refine ⟨p, hp, verdict.trans same, ?_⟩
    obtain ⟨at_h, el, e', he', key, grant⟩ | ⟨out, grant⟩ := late
    · exact .inl ⟨at_h, el, e', List.mem_cons_of_mem e he', key, grant⟩
    · obtain ⟨at_h, key, el, granted⟩ | ⟨other, granted⟩ := now
      · exact .inl ⟨at_h, el, e, List.mem_cons_self, key.symm, grant.trans granted⟩
      · refine .inr ⟨fun at_h el may mem => ?_, grant.trans granted⟩
        obtain key | mem := List.mem_cons.1 (List.map_cons ▸ mem)
        · exact other ⟨at_h, key, key ▸ may, el⟩
        · exact out at_h el may mem

theorem modPlacement_placementsOn (s : State) {g h : Head} (hg : g ≠ h) (c : Carrier) {f : Placement → Placement}
    (hf : ∀ p, (f p).head = p.head) : (s.modPlacement h c f).placementsOn g = s.placementsOn g := by
  have heads : ∀ p : Placement, (if p.head = h ∧ p.carrier = c then f p else p).head = p.head := fun p => by
    split
    · exact hf p
    · rfl
  rw [State.placementsOn, State.modPlacement, State.setPlacements_placements, List.filter_map]
  have same : (fun p : Placement => decide (p.head = g)) ∘ (fun p => if p.head = h ∧ p.carrier = c then f p else p) =
      fun p => decide (p.head = g) := funext fun p => by simp only [Function.comp, heads]
  rw [same]
  refine (List.map_congr_left fun p hp => ?_).trans (List.map_id _)
  have at_g : p.head = g := of_decide_eq_true (List.mem_filter.1 hp).2
  exact if_neg fun key => hg (at_g.symm.trans key.1)

theorem installEntry_placementsOn (s : State) {g h : Head} (hg : g ≠ h) (x : Snapshot) (e : Carrier × Nat) :
    (s.installEntry h x e).placementsOn g = s.placementsOn g := by
  have of_placements : ∀ {t u : State}, t.placements = u.placements → t.placementsOn g = u.placementsOn g := fun e => by
    rw [State.placementsOn, e, State.placementsOn]
  unfold State.installEntry
  split
  · rfl
  · split
    · extract_lets grant step outcome t
      have marked : t.placementsOn g = s.placementsOn g := modPlacement_placementsOn s hg e.1 fun _ => rfl
      split
      · exact (of_placements (raise_placements t _ _ _)).trans marked
      · split
        · exact (of_placements (clear_placements t _ _ _)).trans marked
        · exact marked
    · rfl

/-- Where each carrier of a head holds at most the grants of its entries, the head's grants are at most those of all. -/
theorem granted_le_sum {s : State} (unique : s.keys.Nodup) (h : Head) (f : Carrier × Nat → Nat) (entries : List (Carrier × Nat))
    (each : ∀ p ∈ s.placements, p.head = h → p.grant = 0 ∨ ∃ e ∈ entries, e.1 = p.carrier ∧ p.grant = f e) :
    s.granted h ≤ (entries.map f).sum := by
  have bound : ∀ p ∈ s.placementsOn h, p.grant ≤ ((entries.filter fun e => decide (e.1 = p.carrier)).map f).sum := by
    intro p hp
    obtain ⟨mem, head⟩ := List.mem_filter.1 hp
    obtain zero | ⟨e, he, carrier, grant⟩ := each p mem (of_decide_eq_true head)
    · exact zero ▸ Nat.zero_le _
    · rw [grant]
      exact List.single_le_sum (fun _ _ => Nat.zero_le _) _
        (List.mem_map_of_mem (List.mem_filter.2 ⟨he, decide_eq_true carrier⟩))
  have grouped := sum_by_key (fun e : Carrier × Nat => e.1) f (carriersOn_nodup unique h) entries
  rw [List.map_map] at grouped
  calc s.granted h ≤ _ := sum_map_le (s.placementsOn h) bound
    _ = _ := grouped
    _ ≤ _ := (List.filter_sublist.map f).sum_le_sum fun _ _ => Nat.zero_le _

/-- The results of a running recompute keep the law: they stay within the budget of its snapshot, and overwrite every grant
of the head (R52, R61). -/
theorem install_within {s : State} (unique : s.keys.Nodup) (hs : s.grantsWithinBudget) (awake : s.mode ≠ .reset) {h : Head}
    {x : Snapshot} (running : s.power[h].running = some x) :
    (forAll x.entries (fun e u => u.installEntry h x e)
      (s.modPower h fun q => { q with effective := x.budget, running := none })).grantsWithinBudget := by
  rw [grantsWithinBudget_iff] at *
  obtain ⟨sums, holders, entries⟩ := hs
  generalize hu : (s.modPower h fun q => { q with effective := x.budget, running := none }) = u
  generalize ht : forAll x.entries (fun e u => u.installEntry h x e) u = t
  have placed : ∀ q ∈ t.placements, ∃ p ∈ s.placements, p.verdict = q.verdict ∧
      ((p.head = h ∧ s.eligible p = true ∧ ∃ e ∈ x.entries, e.1 = p.carrier ∧ q.grant = grantOf x.budget x.entries x.weights e) ∨
        ((p.head = h → s.eligible p = true → p.carrier ∈ x.writable → p.carrier ∉ x.entries.map (·.1)) ∧ q.grant = p.grant)) := by
    subst hu ht
    exact fun q hq => mem_installAll h x x.entries (s := s.modPower h _) unique hq
  have power : ∀ g : Head, t.power[g] = if g = h then { s.power[h] with effective := x.budget, running := none } else s.power[g] := by
    intro g
    subst hu ht
    rw [forAll_keeps State.power _ (fun e u => installEntry_power u h x e), modPower_power]
  have eligible : t.eligible = s.eligible := by
    subst hu ht
    exact forAll_keeps State.eligible _ (fun e u => installEntry_eligible u h x e) x.entries _
  have keys : t.keys = s.keys := by
    subst hu ht
    exact keys_of_verdicts (forAll_keeps State.verdicts _ (fun e u => installEntry_verdicts u h x e) x.entries _)
  have running_other : ∀ (g : Head) (y : Snapshot), t.power[g].running = some y → g ≠ h ∧ s.power[g].running = some y := by
    intro g y hy
    rw [power] at hy
    split at hy
    · cases hy
    · next ne => exact ⟨ne, hy⟩
  refine ⟨fun g => ?_, fun _ q hq grant => ?_, fun g y hy => entries g y (running_other g y hy).2⟩
  · rw [power]
    split
    · next e =>
      subst e
      refine (granted_le_sum (keys ▸ unique) g _ x.entries fun q hq head => ?_).trans (grantOf_sum_le x.budget x.entries x.weights)
      obtain ⟨p, hp, verdict, ⟨-, -, e, he, key, grant⟩ | ⟨out, grant⟩⟩ := placed q hq
      · simp only [Placement.verdict, Prod.mk.injEq] at verdict
        exact .inr ⟨e, he, key.trans verdict.2.1, grant⟩
      · simp only [Placement.verdict, Prod.mk.injEq] at verdict
        have at_g : p.head = g := verdict.1.trans head
        rw [grant]
        by_contra holds
        obtain ⟨eligible, may⟩ := holders awake p hp fun zero => holds (.inl zero)
        obtain ⟨writable, entry⟩ := may x ((congrArg (fun k : Head => s.power[k].running) at_g).trans running)
        exact out at_g eligible writable entry
    · next ne =>
      have others : t.placementsOn g = s.placementsOn g := by
        subst hu ht
        exact forAll_keeps (fun u : State => u.placementsOn g) _ (fun e u => installEntry_placementsOn u ne x e) x.entries _
      rw [State.granted, others]
      exact sums g
  · obtain ⟨p, hp, verdict, change⟩ := placed q hq
    have same : t.eligible q = s.eligible p := by rw [eligible, eligible_of_verdict s verdict.symm]
    simp only [Placement.verdict, Prod.mk.injEq] at verdict
    rw [same]
    obtain ⟨at_h, el, -⟩ | ⟨-, kept⟩ := change
    · refine ⟨el, fun y hy => absurd (verdict.1.symm.trans at_h) (running_other q.head y hy).1⟩
    · obtain ⟨el, may⟩ := holders awake p hp (kept ▸ grant)
      refine ⟨el, fun y hy => ?_⟩
      rw [← verdict.2.1]
      exact may y ((congrArg (fun k : Head => s.power[k].running) verdict.1).trans (running_other q.head y hy).2)

/-- A completed recompute keeps the law (R52). -/
theorem completeRecompute_within {s : State} (unique : s.keys.Nodup) (hs : s.grantsWithinBudget) (awake : s.mode ≠ .reset) (h : Head) :
    (s.completeRecompute h).grantsWithinBudget := by
  unfold State.completeRecompute
  split
  · exact hs
  · next x running =>
    have installed := install_within unique hs awake running
    extract_lets t
    split
    · have idle : t.power[h].running = none := by
        rw [show t.power = _ from forAll_keeps State.power _ (fun e u => installEntry_power u h x e) x.entries _, modPower_power,
          if_pos rfl]
      have keys : t.keys = s.keys :=
        keys_of_verdicts (forAll_keeps State.verdicts _ (fun e u => installEntry_verdicts u h x e) x.entries _)
      have installed : t.grantsWithinBudget := installed
      clear_value t
      have cleared : (t.modPower h fun q => { q with again := false }).grantsWithinBudget :=
        within_of_outline installed (modPower_outline t h rfl)
      refine within_of_asked (keys ▸ unique) cleared rfl rfl fun g => ?_
      rw [State.startRecompute, modPower_power]
      split
      · next e =>
        subst e
        have still : (t.modPower g fun q => { q with again := false }).power[g].running = none := by
          rw [modPower_power, if_pos rfl]
          exact idle
        exact .inr (requested_of_idle still _).symm
      · exact .inl rfl
    · exact installed

/-! ## Every move -/

theorem setExclusion_within {s : State} (unique : s.keys.Nodup) (hs : s.grantsWithinBudget) (h : Head) (c : Carrier) (x : Exclusion) :
    (s.setExclusion h c x).grantsWithinBudget := by
  unfold State.setExclusion
  split
  · exact hs
  · split
    · exact hs
    · have held : (s.modPlacement h c fun q => { q with exclusion := x }).placements.map Placement.holding =
          s.placements.map Placement.holding := by
        rw [State.modPlacement, State.setPlacements_placements, List.map_map]
        refine List.map_congr_left fun q _ => ?_
        dsimp only [Function.comp]
        split <;> rfl
      have settled := settle_within unique hs held rfl id
      dsimp only
      split
      · exact within_of_outline settled (clear_outline _ _ _ _)
      · exact within_of_outline settled (raise_outline _ _ _ _)

theorem removePlacement_within {s : State} (hs : s.grantsWithinBudget) (h : Head) (c : Carrier) :
    (s.removePlacement h c).grantsWithinBudget := by
  rw [grantsWithinBudget_iff] at *
  obtain ⟨sums, holders, entries⟩ := hs
  have power : ∀ g : Head, (s.removePlacement h c).power[g] = (s.withdrawWritable h c).power[g] := fun g => by
    rw [State.removePlacement, clear_power, clear_power]
    rfl
  have effective : ∀ g : Head, (s.removePlacement h c).power[g].effective = s.power[g].effective := fun g => by
    rw [power, State.withdrawWritable, modPower_power]
    split
    · next e => rw [e]
    · rfl
  have running : ∀ (g : Head) (x : Snapshot), (s.removePlacement h c).power[g].running = some x → ∃ y, s.power[g].running = some y ∧
      x.entries = y.entries ∧ ∀ d ∈ y.writable, ¬ (g = h ∧ d = c) → d ∈ x.writable := by
    intro g x hx
    rw [power, State.withdrawWritable, modPower_power] at hx
    split at hx
    · next e =>
      subst e
      obtain ⟨y, hy, rfl⟩ := Option.map_eq_some_iff.1 hx
      exact ⟨y, hy, rfl, fun d hd ne => List.mem_filter.2 ⟨hd, decide_eq_true fun e => ne ⟨rfl, e⟩⟩⟩
    · exact ⟨x, hx, rfl, fun d hd _ => hd⟩
  have config : (s.removePlacement h c).eligible = s.eligible :=
    eligible_congr (removePlacement_mode s h c) (removePlacement_heads s h c) (by
      rw [State.removePlacement]
      exact (clear_links _ _ _ _).trans ((clear_links _ _ _ _).trans rfl))
  refine ⟨fun g => ?_, fun mode p hp grant => ?_, fun g x hx => ?_⟩
  · rw [effective]
    refine (granted_sublist_le ?_ g).trans (sums g)
    rw [removePlacement_placements]
    exact List.filter_sublist
  · obtain ⟨mem, other⟩ := mem_removePlacement.1 hp
    obtain ⟨eligible, may⟩ := holders (removePlacement_mode s h c ▸ mode) p mem grant
    refine ⟨config ▸ eligible, fun x hx => ?_⟩
    obtain ⟨y, hy, same, kept⟩ := running p.head x hx
    exact ⟨kept _ (may y hy).1 other, same ▸ (may y hy).2⟩
  · obtain ⟨y, hy, same, -⟩ := running g x hx
    rw [same]
    exact entries g y hy

/-- A new placement holds no grant (R28). -/
theorem createPlacement_within {s : State} (hs : s.grantsWithinBudget) (h : Head) (c : Carrier) (u : LaneIndex) :
    (s.createPlacement h c u).grantsWithinBudget := by
  rw [grantsWithinBudget_iff] at *
  obtain ⟨sums, holders, entries⟩ := hs
  refine ⟨fun g => le_of_eq_of_le ?_ (sums g), fun mode p hp grant => ?_, entries⟩
  · have perm := insertPlacement_perm (newPlacement h c u s.carriers[c].width.units) s.placements
    refine ((perm.filter fun p => decide (p.head = g)).map (·.grant)).sum_eq.trans ?_
    rw [List.filter_cons]
    split
    · exact Nat.zero_add _
    · rfl
  · obtain rfl | hp := mem_createPlacement.1 hp
    · exact absurd rfl grant
    · exact holders mode p hp grant

/-- An abandoned recompute writes nothing (R54). -/
theorem abandon_within {s : State} (hs : s.grantsWithinBudget) (h : Head) {f : PowerHead → PowerHead}
    (effective : (f s.power[h]).effective = s.power[h].effective) (idle : (f s.power[h]).running = none) :
    (s.modPower h f).grantsWithinBudget := by
  rw [grantsWithinBudget_iff] at *
  obtain ⟨sums, holders, entries⟩ := hs
  have running : ∀ (g : Head) (x : Snapshot), (s.modPower h f).power[g].running = some x → s.power[g].running = some x := by
    intro g x hx
    rw [modPower_power] at hx
    split at hx
    · rw [idle] at hx
      cases hx
    · exact hx
  refine ⟨fun g => (sums g).trans_eq ?_, fun mode p hp grant => ?_, fun g x hx => entries g x (running g x hx)⟩
  · rw [modPower_power]
    split
    · next e => rw [e, effective]
    · rfl
  · obtain ⟨eligible, may⟩ := holders mode p hp grant
    exact ⟨eligible, fun x hx => may x (running p.head x hx)⟩

/-- The moves keep the grants within the budgets. -/
theorem State.Reaches.within {s t : State} {U : Set (Head × Carrier)} (r : s.Reaches U t) (unique : s.keys.Nodup)
    (hs : s.grantsWithinBudget) : t.grantsWithinBudget := by
  induction r with
  | start => exact hs
  | silent _ e ih => exact within_of_outline ih e
  | spared _ _ ih => exact ih
  | @delayed U u h f _ on _ ih =>
    have heads : ∀ g : Head, (u.modHead h f).heads[g].radiates = u.heads[g].radiates := fun g => by
      simp only [State.modHead, get_set]
      split
      · next e => exact e ▸ on
      · rfl
    exact within_congr ih rfl (fun p hp => ⟨p, hp, rfl, rfl, rfl, by rw [eligible_eq, eligible_eq, heads]; rfl⟩)
      (fun _ => ⟨rfl, rfl⟩) rfl
  | settled r e _ ih =>
    exact settle_within (r.unique unique) ih (by rw [e.placements]) e.power fun awake asleep => awake (e.asleep.2 asleep)
  | judged h c x r _ _ _ ih => exact setExclusion_within (r.unique unique) ih h c x
  | recast _ _ _ _ ih => exact within_congr ih rfl (fun p hp => ⟨p, hp, rfl, rfl, rfl, rfl⟩) (fun _ => ⟨rfl, rfl⟩) rfl
  | @requested U u h r ih =>
    refine within_of_asked (r.unique unique) ih (placements_of_sansPower (requestRecompute_sansPower u h))
      (sansConfig_of_sansPower (requestRecompute_sansPower u h)) fun g => ?_
    rw [requestRecompute_power]
    split
    · next e => exact e ▸ .inr rfl
    · exact .inl rfl
  | completed h r awake ih => exact completeRecompute_within (r.unique unique) ih awake h
  | @abandoned U u h f _ effective idle ih => exact abandon_within ih h effective idle
  | removed h c _ ih => exact removePlacement_within ih h c
  | created h c i _ _ _ ih => exact createPlacement_within ih h c i

/-! ## Every step -/

/-- Settles O8: the moves of a step give a grant only to what takes part in the division, take it from what leaves it, and
install no more than a snapshot's budget. -/
theorem everyStepKeepsTheGrantsWithinTheBudgets : Obligations.EveryStepKeepsTheGrantsWithinTheBudgets := by
  unfold Obligations.EveryStepKeepsTheGrantsWithinTheBudgets
  intro s t lanes plans within e
  obtain r | halts | reset := step_reaches ⟨lanes, plans⟩ e
  · exact r.within lanes.1 within
  · obtain ⟨sums, -, entries⟩ := (grantsWithinBudget_iff s).1 within
    rw [grantsWithinBudget_iff, halts.power_eq]
    refine ⟨fun h => ?_, fun awake => absurd halts.mode awake, entries⟩
    rw [State.granted, State.placementsOn, halts.placements_eq]
    exact sums h
  · obtain ⟨-, -, -, -, -, -, atReset, -⟩ := invariantsHoldAtReset
    exact within_of_outline (s := State.reset) atReset reset

end Sys2Proof.Machine
end

section
/-! SUPPORT. Placements just created of several carriers on several heads are judged one after another (R41, R157). -/

namespace Sys2Proof.Machine

open Sys2Proof

/-! ## Reasons of several placements -/

/-- The placements of some heads and carriers have their exclusion reasons. -/
def Placement.judgedOn (l : List (Head × Carrier)) (v : Head × Carrier → Exclusion) (q : Placement) : Placement :=
  if (q.head, q.carrier) ∈ l then { q with exclusion := v (q.head, q.carrier) } else q

section
variable (l : List (Head × Carrier)) (v : Head × Carrier → Exclusion) (q : Placement)

theorem judgedOn_head : (q.judgedOn l v).head = q.head := by
  unfold Placement.judgedOn
  split <;> rfl

theorem judgedOn_carrier : (q.judgedOn l v).carrier = q.carrier := by
  unfold Placement.judgedOn
  split <;> rfl

end

theorem judgedOn_of_not_mem {l : List (Head × Carrier)} {q : Placement} (h : (q.head, q.carrier) ∉ l) (v : Head × Carrier → Exclusion) :
    q.judgedOn l v = q := if_neg h

theorem judgedOn_nodup {placements : List Placement} (h : (placements.map fun q => (q.head, q.carrier)).Nodup)
    (l : List (Head × Carrier)) (v : Head × Carrier → Exclusion) :
    ((placements.map (Placement.judgedOn l v)).map fun q => (q.head, q.carrier)).Nodup := by
  rw [List.map_map]
  rwa [show (fun q : Placement => (q.head, q.carrier)) ∘ Placement.judgedOn l v = fun q => (q.head, q.carrier) from
    funext fun q => by simp only [Function.comp, judgedOn_head, judgedOn_carrier]]

/-- The first placement judged and then the others. -/
theorem judgedOn_cons {n : Head × Carrier} {l : List (Head × Carrier)} (hn : n ∉ l) (x : Exclusion) (v : Head × Carrier → Exclusion)
    (q : Placement) :
    (q.judged n.2 [n.1] fun _ => x).judgedOn l v = q.judgedOn (n :: l) fun m => if m = n then x else v m := by
  obtain ⟨g, c⟩ := n
  have key : ((q.head, q.carrier) = (g, c)) ↔ q.carrier = c ∧ q.head ∈ [g] := by
    rw [Prod.mk.injEq, List.mem_singleton]
    exact and_comm
  by_cases e : (q.head, q.carrier) = (g, c)
  · have first : q.judged c [g] (fun _ => x) = { q with exclusion := x } := if_pos (key.1 e)
    have out : (q.head, q.carrier) ∉ l := e ▸ hn
    rw [first, judgedOn_of_not_mem (q := { q with exclusion := x }) out]
    simp [Placement.judgedOn, e]
  · have first : q.judged c [g] (fun _ => x) = q := if_neg fun y => e (key.2 y)
    rw [first]
    simp [Placement.judgedOn, e]

theorem countsAmong_map_iff {f : Placement → Placement} (head : ∀ q, (f q).head = q.head) (carrier : ∀ q, (f q).carrier = q.carrier)
    (placements : List Placement) (c : Carrier) (g : Head) (counts : Placement → Prop) (h : Head) :
    countsAmong (placements.map f) c g counts h ↔ countsAmong placements c g (fun q => counts (f q)) h := by
  unfold countsAmong
  constructor
  · rintro ⟨_, hq, hc, hh, x⟩
    obtain ⟨q, mem, rfl⟩ := List.mem_map.1 hq
    rw [head] at hh x
    exact ⟨q, mem, (carrier q).symm.trans hc, hh, x⟩
  · rintro ⟨q, hq, hc, hh, x⟩
    exact ⟨_, List.mem_map_of_mem hq, (carrier q).trans hc, (head q).trans hh, by rwa [head]⟩

/-! ## What the judging of several placements does -/

/-- What is raised where placements of some heads and carriers are judged (R42). -/
def excludesOn (l : List (Head × Carrier)) (k : AlarmKind) (x : Subject) : Prop :=
  k = .carrierExcluded ∧ ∃ n ∈ l, x = .carrierHead n.2 n.1

/-- The placements just created of some heads and carriers have been judged. -/
structure State.judgedOn (u t : State) (l : List (Head × Carrier)) (v : Head × Carrier → Exclusion) : Prop where
  placements : t.placements = u.placements.map (Placement.judgedOn l v)
  handed : u.handsOn (excludesOn l) clearsNothing t
  raised : ∀ n ∈ l, v n ≠ .none → ∀ s : State, s.log.dropsOnto u.log → u.timing.frame = s.timing.frame →
    s.log.raised t.log .carrierExcluded (.carrierHead n.2 n.1) s.timing.frame (v n).detail
  power : ∀ g : Head, g ∉ l.map Prod.fst → t.power[g] = u.power[g]
  unflagged : ∀ d : Carrier, t.carriers[d].unflagged = u.carriers[d].unflagged
  flags : ∀ d : Carrier, u.carriers[d].orphan = u.orphanCondition d → t.carriers[d].orphan = t.orphanCondition d
  frame : t.sansConfig = u.sansConfig

/-- What the exclusion reason of a placement just created says, where those of some heads and carriers are judged, each carrier's
in ascending head order, and the ones not yet judged count in the spread (R41). -/
structure State.judgesOn (u : State) (placements : List Placement) (l : List (Head × Carrier)) (n : Head × Carrier) (x : Exclusion) :
    Prop where
  incapable : x = .incapable ↔ u.carriers[n.2].width = .wide ∧ u.heads[n.1].capability = .no
  window : x = .window ↔ ¬ (u.carriers[n.2].width = .wide ∧ u.heads[n.1].capability = .no) ∧ u.heads[n.1].delay ≠ none ∧
    apart u.heads (countsAmong placements n.2 n.1 fun q => q.exclusion = .none ∨ ((q.head, q.carrier) ∈ l ∧ n.1 < q.head))

/-- Each of some heads and carriers has a placement as created. -/
def State.freshAt (u : State) (l : List (Head × Carrier)) : Prop :=
  ∀ n ∈ l, ∃ p ∈ u.placements, p.head = n.1 ∧ p.carrier = n.2 ∧ p.fresh

theorem freshOn_of_freshAt {u : State} {n : Head × Carrier} {l : List (Head × Carrier)} (h : u.freshAt (n :: l)) :
    u.freshOn n.2 [n.1] := fun g hg => by
  rw [List.mem_singleton.1 hg]
  exact h n List.mem_cons_self

/-! ## The orphan flags -/

theorem raise_orphanCondition (s : State) (k : AlarmKind) (x : Subject) (d : Nat) (c : Carrier) :
    (s.raise k x d).orphanCondition c = s.orphanCondition c := by
  have same := raise_sansLog s k x d
  refine orphanCondition_congr ?_ (congrArg State.links same :) (congrArg State.mode same :) (congrArg State.heads same :) ?_
  · rw [raise_carriers]
  · rw [raise_placements]

/-- A flag that holds its condition does so when a placement just created has been judged. -/
theorem evalCreated_flags {u : State} {h : Head} {c : Carrier} (nodup : (u.placements.map fun q => (q.head, q.carrier)).Nodup)
    (fresh : u.freshOn c [h]) (d : Carrier) (held : u.carriers[d].orphan = u.orphanCondition d) :
    (u.evalCreated h c).carriers[d].orphan = (u.evalCreated h c).orphanCondition d := by
  obtain ⟨p, mem, head, carrier, fresh⟩ := fresh h (List.mem_singleton.2 rfl)
  rw [evalCreated_eq nodup mem head carrier fresh]
  by_cases hx : u.createdExclusion h c = .none
  · rw [hx, setExclusion_none nodup mem head carrier fresh]
    exact held
  · rw [setExclusion_excluded nodup mem head carrier fresh _ hx, raise_orphanCondition, settle_orphanCondition, raise_carriers,
      settle_carriers]

/-! ## One placement after another -/

section cons
variable {u t : State} {n : Head × Carrier} {l : List (Head × Carrier)} {x : Exclusion} {v : Head × Carrier → Exclusion}

theorem judgedOn_nil (u : State) (v : Head × Carrier → Exclusion) : u.judgedOn u [] v := by
  refine ⟨?_, .start, nofun, fun _ _ => rfl, fun _ => rfl, fun _ => id, rfl⟩
  exact ((List.map_congr_left fun q _ => judgedOn_of_not_mem List.not_mem_nil v).trans (List.map_id _)).symm

/-- One placement has been judged, and then the others. -/
theorem judgedOn_of_first {w : State} (hn : n ∉ l) (first : u.judgedTo t n.2 [n.1] fun _ => x)
    (flags : ∀ d : Carrier, u.carriers[d].orphan = u.orphanCondition d → t.carriers[d].orphan = t.orphanCondition d)
    (rest : t.judgedOn w l v) : u.judgedOn w (n :: l) fun m => if m = n then x else v m := by
  have drops := handsOn_dropsOnto first.handed
  have timing := handsOn_timing first.handed
  have handedFirst : u.handsOn (excludesOn (n :: l)) clearsNothing t := by
    refine handsOn_mono first.handed (fun k y ⟨hk, h, hh, e⟩ => ⟨hk, n, List.mem_cons_self, ?_⟩) fun _ _ => id
    rw [e, List.mem_singleton.1 hh]
  have handedRest : t.handsOn (excludesOn (n :: l)) clearsNothing w :=
    handsOn_mono rest.handed (fun k y ⟨hk, m, hm, e⟩ => ⟨hk, m, List.mem_cons_of_mem n hm, e⟩) fun _ _ => id
  refine ⟨?_, handsOn_trans handedFirst handedRest, fun m hm hne s dropped now => ?_, fun g hg => ?_,
    fun d => (rest.unflagged d).trans (first.unflagged d), fun d hd => rest.flags d (flags d hd), rest.frame.trans first.frame⟩
  · rw [rest.placements, first.placements, List.map_map]
    exact List.map_congr_left fun q _ => judgedOn_cons hn x v q
  · by_cases e : m = n
    · subst e
      rw [if_pos rfl] at hne ⊢
      refine raised_spares (first.raised m.1 (List.mem_singleton.2 rfl) hne s dropped now)
        (handsOn_spares rest.handed (by decide) ?_ id) (handsOn_dropsOnto rest.handed)
      rintro ⟨-, k, hk, e⟩
      injection e with carrier head
      exact hn (Prod.ext head carrier ▸ hk)
    · rw [if_neg e] at hne ⊢
      exact rest.raised m ((List.mem_cons.1 hm).resolve_left e) hne s (fun i hi => drops i (dropped i hi)) (by rw [timing, now])
  · rw [List.map_cons, List.mem_cons, not_or] at hg
    rw [rest.power g hg.2, first.power g (by rw [List.mem_singleton]; exact hg.1)]

theorem freshAt_of_first (hn : n ∉ l) (first : u.judgedTo t n.2 [n.1] fun _ => x) (fresh : u.freshAt (n :: l)) : t.freshAt l :=
  fun m hm => by
    obtain ⟨p, hp, head, carrier, created⟩ := fresh m (List.mem_cons_of_mem n hm)
    refine ⟨p, ?_, head, carrier, created⟩
    rw [first.placements]
    refine List.mem_map.2 ⟨p, hp, if_neg fun y => hn ?_⟩
    rwa [show n = m from Prod.ext ((List.mem_singleton.1 y.2).symm.trans head) (y.1.symm.trans carrier)]

/-- The reason of the first placement judged holds of what the others come to. -/
theorem judgesOn_first (nodup : (u.placements.map fun q => (q.head, q.carrier)).Nodup) (fresh : u.freshAt l)
    (before : ∀ m ∈ l, n.2 = m.2 → n.1 < m.1) (v : Head × Carrier → Exclusion) :
    u.judgesOn (u.placements.map (Placement.judgedOn (n :: l) v)) (n :: l) n (u.createdExclusion n.1 n.2) := by
  refine ⟨createdExclusion_incapable_iff u n.1 n.2, (createdExclusion_window_iff u n.1 n.2).trans ?_⟩
  refine and_congr_right fun _ => and_congr_right fun _ => apart_congr fun h => ?_
  rw [countsAmong_map_iff (judgedOn_head _ _) (judgedOn_carrier _ _)]
  refine countsAmong_congr (fun q hq hc hne => ?_) h
  rw [judgedOn_head, judgedOn_carrier]
  by_cases hl : (q.head, q.carrier) ∈ l
  · obtain ⟨p, hp, head, carrier, created⟩ := fresh _ hl
    have : q = p := List.inj_on_of_nodup_map nodup hq hp (by rw [head, carrier])
    exact ⟨fun _ => .inr ⟨List.mem_cons_of_mem n hl, before _ hl hc.symm⟩, fun _ => this ▸ created.1⟩
  · have other : (q.head, q.carrier) ∉ n :: l := by
      rw [List.mem_cons, not_or]
      exact ⟨fun e => hne (congrArg Prod.fst e), hl⟩
    rw [judgedOn_of_not_mem other]
    exact ⟨.inl, fun y => y.resolve_right fun z => other z.1⟩

/-- A reason that holds among the later placements holds among all. -/
theorem judgesOn_later {placements : List Placement} {m : Head × Carrier} (width : t.carriers[m.2].width = u.carriers[m.2].width)
    (heads : t.heads = u.heads) (before : n.2 = m.2 → n.1 < m.1) (j : t.judgesOn placements l m x) :
    u.judgesOn placements (n :: l) m x := by
  refine ⟨?_, ?_⟩
  · rw [← width, ← heads]
    exact j.incapable
  · rw [← width, ← heads, j.window]
    refine and_congr_right fun _ => and_congr_right fun _ => apart_congr fun k => countsAmong_congr (fun q _ hc _ => ?_) k
    rw [List.mem_cons]
    refine or_congr_right (and_congr_left fun y => (or_iff_right ?_).symm)
    intro e
    have head : q.head = n.1 := congrArg Prod.fst e
    have carrier : q.carrier = n.2 := congrArg Prod.snd e
    exact absurd (head ▸ before (carrier.symm.trans hc)) y.asymm

end cons

/-- Placements just created are judged one after another, each carrier's in ascending head order (R41, R157). -/
theorem evalCreated_each {l : List (Head × Carrier)} : ∀ {u : State}, l.Pairwise (fun a b => a.2 = b.2 → a.1 < b.1) →
    (u.placements.map fun q => (q.head, q.carrier)).Nodup → u.freshAt l →
    ∃ v, u.judgedOn (forAll l (fun n t => t.evalCreated n.1 n.2) u) l v ∧
      ∀ n ∈ l, u.judgesOn (forAll l (fun n t => t.evalCreated n.1 n.2) u).placements l n (v n) := by
  induction l with
  | nil => exact fun {u} _ _ _ => ⟨fun _ => .none, judgedOn_nil u _, nofun⟩
  | cons n l ih =>
    intro u order nodup fresh
    obtain ⟨before, order⟩ := List.pairwise_cons.1 order
    have hn : n ∉ l := fun hn => lt_irrefl n.1 (before n hn rfl)
    have created := freshOn_of_freshAt fresh
    have first := evalCreated_judgedTo nodup created
    obtain ⟨v, rest, judges⟩ := ih order (by rw [first.placements]; exact judged_nodup nodup _ _ _) (freshAt_of_first hn first fresh)
    have both := judgedOn_of_first hn first (evalCreated_flags nodup created) rest
    refine ⟨_, both, fun m hm => ?_⟩
    rw [forAll_cons]
    by_cases e : m = n
    · subst e
      rw [if_pos rfl, both.placements]
      exact judgesOn_first nodup (fun k hk => fresh k (List.mem_cons_of_mem m hk)) before _
    · have hl := (List.mem_cons.1 hm).resolve_left e
      rw [if_neg e]
      exact judgesOn_later (congrArg CarrierRecord.width (first.unflagged m.2) :) (heads_of_sansConfig first.frame) (before m hl)
        (judges m hl)

end Sys2Proof.Machine
end

section
/-! SUPPORT. A validated layout is applied: lane units, placements, power and alarms of each changed head (R156, R168). -/

namespace Sys2Proof.Machine

open Sys2Proof

/-! ## Carriers leave a head -/

section departAll
variable (s : State) (h : Head) (l : List Carrier)

theorem departAll_handsOn {raises : AlarmKind → Subject → Prop} : s.handsOn raises departs (s.departAll h l) :=
  handsOn_forAll (fun c _ t => removePlacement_handsOn t h c) s

theorem departAll_sansBinding : (s.departAll h l).sansBinding = s.sansBinding :=
  forAll_keeps State.sansBinding _ (fun c t => removePlacement_sansBinding t h c) l s

theorem departAll_power {g : Head} (hg : g ≠ h) : (s.departAll h l).power[g] = s.power[g] :=
  forAll_preserves (fun t => t.power[g] = s.power[g]) _ (fun c t ht => (removePlacement_power t c hg).trans ht) l s rfl

/-- After carriers have left a head, neither exclusion nor starving of them there is ACTIVE (R168). -/
theorem departAll_quiet (unique : s.log.unique) {d : Carrier} (hd : d ∈ l) {k : AlarmKind} (hk : departs k (.carrierHead d h)) :
    (s.departAll h l).log.quiet k (.carrierHead d h) := by
  have orphaned : k ≠ .carrierOrphaned := by obtain rfl | rfl := hk <;> decide
  induction l generalizing s with
  | nil => cases hd
  | cons c l ih =>
    have left := removePlacement_handsOn (raises := clearsNothing) s h c
    obtain rfl | hd := List.mem_cons.1 hd
    · exact handsOn_quiet (departAll_handsOn (raises := clearsNothing) (s.removePlacement h d) h l) orphaned id
        (removePlacement_quiet unique h d hk)
    · exact ih (s.removePlacement h c) (handsOn_unique left unique) hd

theorem mem_departAll {p : Placement} : p ∈ (s.departAll h l).placements ↔ p ∈ s.placements ∧ ¬ (p.head = h ∧ p.carrier ∈ l) := by
  induction l generalizing s with
  | nil => simp [State.departAll]
  | cons c l ih =>
    refine (ih (s.removePlacement h c)).trans ?_
    rw [mem_removePlacement, List.mem_cons]
    tauto

theorem departAll_unit (i : LaneIndex) :
    (s.departAll h l).lanes[h][i] = if ∃ d ∈ l, s.lanes[h][i] = .owned d then .free else s.lanes[h][i] := by
  induction l generalizing s with
  | nil => simp [State.departAll]
  | cons c l ih =>
    refine (ih (s.removePlacement h c)).trans ?_
    rw [removePlacement_unit]
    generalize s.lanes[h][i] = y
    by_cases e : y = .owned c <;> simp [e]

end departAll

/-! ## Carriers come onto a head -/

section arriveAll
variable (s : State) (h : Head) (l : List (Carrier × LaneIndex))

theorem mem_arriveAll {p : Placement} :
    p ∈ (s.arriveAll h l).placements ↔
      p ∈ s.placements ∨ ∃ n ∈ l, p = newPlacement h n.1 n.2 s.carriers[n.1].width.units := by
  induction l generalizing s with
  | nil => simp [State.arriveAll]
  | cons n l ih =>
    refine (ih (s.createPlacement h n.1 n.2)).trans ?_
    rw [mem_createPlacement, createPlacement_carriers, List.exists_mem_cons_iff]
    tauto

theorem arriveAll_unit_uncovered (i : LaneIndex) (uncovered : ∀ n ∈ l, ¬ covers n.2.val s.carriers[n.1].width.units i) :
    (s.arriveAll h l).lanes[h][i] = s.lanes[h][i] := by
  induction l generalizing s with
  | nil => rfl
  | cons n l ih =>
    refine (ih (s.createPlacement h n.1 n.2) fun m hm => uncovered m (List.mem_cons_of_mem n hm)).trans ?_
    exact (createPlacement_unit s h n.1 n.2 h i).2 fun x => uncovered n List.mem_cons_self x.2

end arriveAll

/-! ## The layout of one head -/

section applyLayout
variable (s : State) (x : HeadLayout)

theorem applyLayout_handsOn {raises : AlarmKind → Subject → Prop} : s.handsOn raises departs (s.applyLayout x) := by
  rw [applyLayout_eq, arriveAll_eq]
  exact handsOn_trans (departAll_handsOn s x.head x.departing) (handsOn_silent rfl rfl rfl fun _ => rfl)

theorem applyLayout_sansBinding : (s.applyLayout x).sansBinding = s.sansBinding := by
  rw [applyLayout_eq, arriveAll_eq]
  exact (departAll_sansBinding s x.head x.departing :)

theorem applyLayout_power {g : Head} (hg : g ≠ x.head) : (s.applyLayout x).power[g] = s.power[g] := by
  rw [applyLayout_eq, arriveAll_eq]
  exact departAll_power s x.head x.departing hg

theorem applyLayout_quiet (unique : s.log.unique) {d : Carrier} (hd : d ∈ x.departing) {k : AlarmKind}
    (hk : departs k (.carrierHead d x.head)) : (s.applyLayout x).log.quiet k (.carrierHead d x.head) := by
  rw [applyLayout_eq, arriveAll_eq]
  exact departAll_quiet s x.head x.departing unique hd hk

theorem mem_applyLayout {p : Placement} :
    p ∈ (s.applyLayout x).placements ↔ (p ∈ s.placements ∧ ¬ (p.head = x.head ∧ p.carrier ∈ x.departing)) ∨
      ∃ n ∈ x.newcomers, p = newPlacement x.head n.1 n.2 s.carriers[n.1].width.units := by
  rw [applyLayout_eq, mem_arriveAll, mem_departAll, departAll_carriers]

theorem applyLayout_unit_uncovered (i : LaneIndex) (uncovered : ∀ n ∈ x.newcomers, ¬ covers n.2.val s.carriers[n.1].width.units i) :
    (s.applyLayout x).lanes[x.head][i] =
      if ∃ d ∈ x.departing, s.lanes[x.head][i] = .owned d then .free else s.lanes[x.head][i] := by
  rw [applyLayout_eq, arriveAll_unit_uncovered, departAll_unit]
  rwa [departAll_carriers]

end applyLayout

/-! ## The layout of every changed head -/

/-- The layouts of several heads are applied. -/
def State.applyLayouts (s : State) (l : List HeadLayout) : State := forAll l (fun x t => t.applyLayout x) s

section applyLayouts
variable (s : State) (l : List HeadLayout)

theorem applyLayouts_handsOn {raises : AlarmKind → Subject → Prop} : s.handsOn raises departs (s.applyLayouts l) :=
  handsOn_forAll (fun x _ t => applyLayout_handsOn t x) s

theorem applyLayouts_sansBinding : (s.applyLayouts l).sansBinding = s.sansBinding :=
  forAll_keeps State.sansBinding _ (fun x t => applyLayout_sansBinding t x) l s

theorem applyLayouts_carriers : (s.applyLayouts l).carriers = s.carriers :=
  forAll_keeps State.carriers _ (fun x t => applyLayout_carriers t x) l s

theorem applyLayouts_power {g : Head} (hg : g ∉ l.map (·.head)) : (s.applyLayouts l).power[g] = s.power[g] :=
  forAll_preserves_mem (fun t => t.power[g] = s.power[g]) _ _
    (fun x hx t ht => (applyLayout_power t x fun e => hg (List.mem_map.2 ⟨x, hx, e.symm⟩)).trans ht) s rfl

theorem applyLayouts_table_other {g : Head} (hg : g ∉ l.map (·.head)) : (s.applyLayouts l).lanes[g] = s.lanes[g] :=
  forAll_preserves_mem (fun t => t.lanes[g] = s.lanes[g]) _ _
    (fun x hx t ht => (applyLayout_table_other t x fun e => hg (List.mem_map.2 ⟨x, hx, e.symm⟩)).trans ht) s rfl

theorem applyLayouts_quiet (unique : s.log.unique) (hn : l.Nodup) {x : HeadLayout} (hx : x ∈ l) {d : Carrier} (hd : d ∈ x.departing)
    {k : AlarmKind} (hk : departs k (.carrierHead d x.head)) : (s.applyLayouts l).log.quiet k (.carrierHead d x.head) := by
  have orphaned : k ≠ .carrierOrphaned := by obtain rfl | rfl := hk <;> decide
  refine forAll_once (P := fun t => t.log.unique) (Q := fun t => t.log.quiet k (.carrierHead d x.head)) hn hx
    (fun y t _ ht => ?_) (fun t ht => applyLayout_quiet t x ht hd hk) (fun y t _ ht => ?_) unique
  · exact handsOn_unique (applyLayout_handsOn (raises := clearsNothing) t y) ht
  · exact handsOn_quiet (applyLayout_handsOn (raises := clearsNothing) t y) orphaned id ht

theorem mem_applyLayouts (hn : (l.map (·.head)).Nodup) {p : Placement} :
    p ∈ (s.applyLayouts l).placements ↔ (p ∈ s.placements ∧ ∀ x ∈ l, ¬ (p.head = x.head ∧ p.carrier ∈ x.departing)) ∨
      ∃ x ∈ l, ∃ n ∈ x.newcomers, p = newPlacement x.head n.1 n.2 s.carriers[n.1].width.units := by
  induction l generalizing s with
  | nil => simp [State.applyLayouts]
  | cons x l ih =>
    obtain ⟨hx, hn⟩ := List.nodup_cons.1 hn
    refine (ih (s.applyLayout x) hn).trans ?_
    rw [mem_applyLayout, applyLayout_carriers, List.forall_mem_cons, List.exists_mem_cons_iff]
    have kept : (∃ n ∈ x.newcomers, p = newPlacement x.head n.1 n.2 s.carriers[n.1].width.units) →
        ∀ y ∈ l, ¬ (p.head = y.head ∧ p.carrier ∈ y.departing) := by
      rintro ⟨n, -, rfl⟩ y hy ⟨head, -⟩
      exact hx (List.mem_map.2 ⟨y, hy, head.symm⟩)
    rw [or_and_right, and_assoc, and_iff_left_of_imp kept, or_assoc]

theorem applyLayouts_unit_uncovered (hn : (l.map (·.head)).Nodup) {x : HeadLayout} (hx : x ∈ l) (i : LaneIndex)
    (uncovered : ∀ n ∈ x.newcomers, ¬ covers n.2.val s.carriers[n.1].width.units i) :
    (s.applyLayouts l).lanes[x.head][i] =
      if ∃ d ∈ x.departing, s.lanes[x.head][i] = .owned d then .free else s.lanes[x.head][i] := by
  induction l generalizing s with
  | nil => cases hx
  | cons y l ih =>
    obtain ⟨hy, hn⟩ := List.nodup_cons.1 hn
    obtain rfl | hx := List.mem_cons.1 hx
    · rw [← applyLayout_unit_uncovered s x i uncovered]
      exact congrArg (fun v : Vector LaneUnit 8 => v[i]) (applyLayouts_table_other (s.applyLayout x) l hy)
    · have ne : x.head ≠ y.head := fun e => hy (List.mem_map.2 ⟨x, hx, e⟩)
      have unit : (s.applyLayout y).lanes[x.head][i] = s.lanes[x.head][i] :=
        congrArg (fun v : Vector LaneUnit 8 => v[i]) (applyLayout_table_other s y ne)
      refine (ih (s.applyLayout y) hn hx (by rwa [applyLayout_carriers])).trans ?_
      rw [unit]

end applyLayouts

/-! ## A validated layout -/

/-- The newcomers of a layout, each with its head, in the order in which they are judged. -/
def arrivals (layout : List HeadLayout) : List (Head × Carrier) := layout.flatMap fun x => x.newcomers.map fun n => (x.head, n.1)

theorem mem_arrivals {layout : List HeadLayout} {h : Head} {c : Carrier} :
    (h, c) ∈ arrivals layout ↔ ∃ x ∈ layout, x.head = h ∧ c ∈ x.newcomers.map (·.1) := by
  simp only [arrivals, List.mem_flatMap, List.mem_map, Prod.mk.injEq]
  constructor
  · rintro ⟨x, hx, n, hn, rfl, rfl⟩
    exact ⟨x, hx, rfl, n, hn, rfl⟩
  · rintro ⟨x, hx, rfl, n, hn, rfl⟩
    exact ⟨x, hx, n, hn, rfl, rfl⟩

theorem head_of_mem_arrivals {layout : List HeadLayout} {h : Head} (hh : h ∈ (arrivals layout).map Prod.fst) :
    h ∈ layout.map (·.head) := by
  obtain ⟨⟨g, c⟩, mem, rfl⟩ := List.mem_map.1 hh
  obtain ⟨x, hx, e, -⟩ := mem_arrivals.1 mem
  exact List.mem_map.2 ⟨x, hx, e⟩

/-- The evaluation of the new placements, head by head and newcomer by newcomer, goes along the arrivals. -/
theorem forAll_arrivals (g : Head × Carrier → State → State) (layout : List HeadLayout) (s : State) :
    forAll (arrivals layout) g s = forAll layout (fun x t => forAll x.newcomers (fun n u => g (x.head, n.1) u) t) s := by
  induction layout generalizing s with
  | nil => rfl
  | cons x l ih =>
    rw [forAll_cons, ← ih, arrivals, List.flatMap_cons, forAll, List.foldl_append]
    exact congrArg (forAll (arrivals l) g) (forAll_map (fun n : Carrier × LaneIndex => (x.head, n.1)) g x.newcomers s)

section valid
variable {s : State} {map : SectorMap} {layout : List HeadLayout} (valid : s.validateMap map = .valid layout)
include valid

theorem layout_ascending : (layout.map (·.head)).Pairwise (· < ·) := by
  rw [(validateMap_valid valid).1]
  exact (List.pairwise_lt_finRange 16).filter _

theorem layout_heads_nodup : (layout.map (·.head)).Nodup := (layout_ascending valid).imp ne_of_lt

theorem layout_nodup : layout.Nodup := (layout_heads_nodup valid).of_map _

/-- Of one carrier the arrivals stand in ascending head order. -/
theorem arrivals_ascending : (arrivals layout).Pairwise fun a b => a.2 = b.2 → a.1 < b.1 := by
  have admitted := (validateMap_valid valid).2
  have ascending := List.pairwise_map.1 (layout_ascending valid)
  refine List.pairwise_flatMap.2 ⟨fun x hx => ?_, ascending.imp_of_mem fun {x y} hx hy lt => ?_⟩
  · obtain ⟨nodup, -⟩ := State.Reaches.newcomers_of_admitted (admitted x hx).2
    exact List.pairwise_map.2 ((List.pairwise_map.1 nodup).imp fun ne same => absurd same ne)
  · intro a ha b hb _
    obtain ⟨n, -, rfl⟩ := List.mem_map.1 ha
    obtain ⟨m, -, rfl⟩ := List.mem_map.1 hb
    exact lt

/-- A newcomer of a layout comes onto its head. -/
theorem newcomer_of_layout {x : HeadLayout} (hx : x ∈ layout) {c : Carrier} :
    c ∈ x.newcomers.map (·.1) ↔ ¬ s.stands x.head c ∧ x.head ∈ s.newHeadSet map c := by
  have order := ((admitInOrder_admitted_iff s x.head (s.newHeadSet map) _ _ _).1 ((validateMap_valid valid).2 x hx).2).1
  rw [order, mem_newcomerOrder, mem_newcomers]

theorem departing_of_layout {x : HeadLayout} (hx : x ∈ layout) {c : Carrier} :
    c ∈ x.departing ↔ s.stands x.head c ∧ x.head ∉ s.newHeadSet map c := by
  rw [((validateMap_valid valid).2 x hx).1, mem_departing]

/-- A newcomer that is WIDE has the capability, so no newcomer is INCAPABLE (R34). -/
theorem ableOn_of_layout {x : HeadLayout} (hx : x ∈ layout) {n : Carrier × LaneIndex} (hn : n ∈ x.newcomers) :
    s.ableOn x.head n.1 := by
  obtain ⟨-, passes⟩ := (admitInOrder_admitted_iff s x.head (s.newHeadSet map) _ _ _).1 ((validateMap_valid valid).2 x hx).2
  obtain ⟨a, b, e⟩ := List.append_of_mem hn
  exact (passes a n b e).1

/-- The lanes that a layout leaves are held by its placements. -/
theorem applyLayouts_held (agree : s.lanesAgree) : ((s.setSectorMap map).applyLayouts layout).lanesHeld s.reservations :=
  (applyLayouts_lanesHeld layout (s := s) (t := s.setSectorMap map) (layout_heads_nodup valid) (validateMap_valid valid).2 rfl
    (fun _ _ => ⟨rfl, fun _ => Iff.rfl⟩) (lanesHeld_congr (s := s) rfl rfl (fun _ => rfl) ((lanesAgree_iff s).1 agree).1)).1

end valid

end Sys2Proof.Machine
end

section
/-! SUPPORT. The ATTENTION messages of hand-ons (R175), and what the hand-ons of a commit do (R157). -/

namespace Sys2Proof.Machine

open Sys2Proof

/-! ## ATTENTION messages -/

theorem ofLink_inj {j l : Link} : Port.ofLink j = Port.ofLink l ↔ j = l := by revert j l; decide

/-- The state without log and ports tells which ports are open. -/
theorem portOpen_of_sansLog {s t : State} (h : t.sansLog = s.sansLog) (p : Port) : t.portOpen p = s.portOpen p :=
  (congrArg (fun x : State => x.portOpen p) h :)

theorem linkUp_of_portOpen {s : State} {l : Link} (h : s.portOpen (Port.ofLink l) = true) : s.linkUp l = true := by
  rw [State.portOpen, link?_ofLink] at h
  split at h
  · cases h
  · next none _ => cases none
  · next some _ =>
    cases some
    exact h

/-- Between two states an operator has been sent ATTENTION alone, and nothing while its link is DOWN. -/
structure State.attended (s t : State) (l : Link) : Prop where
  up : t.linkUp l = s.linkUp l
  told : ∃ ms : List Message, (∀ m ∈ ms, m.typeByte = 98) ∧ (s.linkUp l = false → ms = []) ∧
    t.ports[Port.ofLink l] = s.ports[Port.ofLink l].sent ms

section attended
variable {s t u : State} {l : Link}

theorem attended_of_ports (up : t.linkUp l = s.linkUp l) (ports : t.ports = s.ports) : s.attended t l :=
  ⟨up, [], nofun, fun _ => rfl, by rw [ports]; simp [PortRecord.sent]⟩

theorem attended_trans (h : s.attended t l) (g : t.attended u l) : s.attended u l := by
  obtain ⟨up, ms, typed, silent, port⟩ := h
  obtain ⟨up', ns, typed', silent', port'⟩ := g
  refine ⟨up'.trans up, ms ++ ns, fun m hm => (List.mem_append.1 hm).elim (typed m) (typed' m), fun down => ?_, ?_⟩
  · rw [silent down, silent' (up.trans down), List.append_nil]
  · rw [port', port]
    simp [PortRecord.sent]

theorem attended_forAll {α : Type} {g : α → State → State} (h : ∀ a t, State.attended t (g a t) l) (k : List α) :
    s.attended (forAll k g s) l :=
  forAll_preserves (fun t => s.attended t l) g (fun a _ ht => attended_trans ht (h a _)) k s (attended_of_ports rfl rfl)

variable (s l)

theorem sendUnsolicited_attended (j : Link) {m : Message} (hm : m.typeByte = 98) :
    s.attended (s.sendUnsolicited (Port.ofLink j) m) l := by
  have up : (s.sendUnsolicited (Port.ofLink j) m).linkUp l = s.linkUp l :=
    (congrArg (fun x : State => x.linkUp l) (sendUnsolicited_sansLog s (Port.ofLink j) m) :)
  by_cases sent : (s.portOpen (Port.ofLink j) && s.room (Port.ofLink j) 1) = true
  · have port := enqueue_port s (Port.ofLink j) (Port.ofLink l) [m]
    rw [State.sendUnsolicited, if_pos sent] at up ⊢
    by_cases e : j = l
    · subst e
      rw [if_pos rfl] at port
      refine ⟨up, [m], fun n hn => by rwa [List.mem_singleton.1 hn], fun down => ?_, port⟩
      rw [linkUp_of_portOpen (Bool.and_eq_true_iff.1 sent).1] at down
      cases down
    · rw [if_neg fun x => e (ofLink_inj.1 x)] at port
      exact ⟨up, [], nofun, fun _ => rfl, port.trans (by simp [PortRecord.sent])⟩
  · rw [State.sendUnsolicited, if_neg sent]
    exact attended_of_ports rfl rfl

theorem withLog_attended (log : AlarmLog) (quiet : Option Link) : s.attended (s.withLog log quiet) l := by
  unfold State.withLog
  refine attended_trans (t := s.setLog log) (attended_of_ports rfl rfl) (attended_forAll (fun j t => ?_) allLinks)
  dsimp only
  split
  · exact sendUnsolicited_attended t l j rfl
  · exact attended_of_ports rfl rfl

theorem raise_attended (k : AlarmKind) (x : Subject) (d : Nat) : s.attended (s.raise k x d) l := by
  unfold State.raise
  split
  · exact withLog_attended s l _ _
  · split
    · exact withLog_attended s l _ _
    · split
      · exact attended_trans (withLog_attended s l _ _) (withLog_attended _ l _ _)
      · exact attended_of_ports rfl rfl

theorem clear_attended (k : AlarmKind) (x : Subject) (quiet : Option Link) : s.attended (s.clear k x quiet) l := by
  unfold State.clear
  split
  · exact attended_of_ports rfl rfl
  · split
    · exact withLog_attended s l _ _
    · exact attended_of_ports rfl rfl

theorem evalOrphan_attended (c : Carrier) : s.attended (s.evalOrphan c) l := by
  obtain ⟨-, e⟩ | ⟨-, -, e⟩ | ⟨-, -, e⟩ := evalOrphan_cases s c <;> rw [e]
  · exact attended_of_ports rfl rfl
  · exact attended_trans (t := s.modCarrier c fun r => { r with orphan := true }) (attended_of_ports rfl rfl) (raise_attended _ l _ _ _)
  · exact attended_trans (t := s.modCarrier c fun r => { r with orphan := false }) (attended_of_ports rfl rfl)
      (clear_attended _ l _ _ _)

theorem loseEligibility_attended (p : Placement) : s.attended (s.loseEligibility p) l := by
  unfold State.loseEligibility
  extract_lets t
  have marked : s.attended t l := attended_of_ports rfl rfl
  split
  · exact attended_trans marked (clear_attended t l _ _ _)
  · exact marked

theorem requestRecompute_attended (h : Head) : s.attended (s.requestRecompute h) l := by
  rw [requestRecompute_eq]
  exact attended_of_ports rfl rfl

theorem requestOnce_attended (s0 : State) (h : Head) : s.attended (s.requestOnce s0 h) l := by
  unfold State.requestOnce
  split
  · exact attended_of_ports rfl rfl
  · exact requestRecompute_attended s l h

theorem settle_attended (s0 : State) : s.attended (settle s0 s) l :=
  attended_trans (attended_forAll (fun p t => loseEligibility_attended t l p) _)
    (attended_trans (attended_forAll (fun h t => requestRecompute_attended t l h) _)
      (attended_forAll (fun c t => evalOrphan_attended t l c) _))

theorem setExclusion_attended (h : Head) (c : Carrier) (x : Exclusion) : s.attended (s.setExclusion h c x) l := by
  unfold State.setExclusion
  split
  · exact attended_of_ports rfl rfl
  · split
    · exact attended_of_ports rfl rfl
    · have settled : s.attended (settle s (s.excluding h c x)) l :=
        attended_trans (t := s.excluding h c x) (attended_of_ports rfl rfl) (settle_attended _ l s)
      dsimp only
      split
      · exact attended_trans settled (clear_attended _ l _ _ _)
      · exact attended_trans settled (raise_attended _ l _ _ _)

theorem evalCreated_attended (h : Head) (c : Carrier) : s.attended (s.evalCreated h c) l := by
  unfold State.evalCreated
  split
  · exact setExclusion_attended s l h c _
  · split
    · exact setExclusion_attended s l h c _
    · exact attended_of_ports rfl rfl

theorem removePlacement_attended (h : Head) (c : Carrier) : s.attended (s.removePlacement h c) l := by
  unfold State.removePlacement
  extract_lets t
  have removed : s.attended t l := attended_of_ports rfl rfl
  exact attended_trans removed (attended_trans (clear_attended t l _ _ _) (clear_attended _ l _ _ _))

theorem applyLayout_attended (x : HeadLayout) : s.attended (s.applyLayout x) l := by
  rw [applyLayout_eq, arriveAll_eq]
  have left : s.attended (s.departAll x.head x.departing) l := attended_forAll (fun c t => removePlacement_attended t l x.head c) _
  exact attended_trans left (attended_of_ports rfl rfl)

end attended

/-! ## Some orphan flags are evaluated -/

/-- The orphan flags of some carriers are evaluated, one after another. -/
def State.evalOrphansOf (s : State) (l : List Carrier) : State := forAll l (fun c t => t.evalOrphan c) s

section evalOrphansOf
variable (s : State) (l : List Carrier)

theorem evalOrphansOf_placements : (s.evalOrphansOf l).placements = s.placements :=
  forAll_keeps State.placements _ (fun c t => evalOrphan_placements t c) l s

theorem evalOrphansOf_power : (s.evalOrphansOf l).power = s.power :=
  forAll_keeps State.power _ (fun c t => evalOrphan_power t c) l s

theorem evalOrphansOf_sansConfig : (s.evalOrphansOf l).sansConfig = s.sansConfig :=
  forAll_keeps State.sansConfig _ (fun c t => evalOrphan_sansConfig t c) l s

theorem evalOrphansOf_unflagged (d : Carrier) : (s.evalOrphansOf l).carriers[d].unflagged = s.carriers[d].unflagged := by
  refine forAll_keeps (fun t : State => t.carriers[d].unflagged) _ (fun c t => ?_) l s
  rw [evalOrphan_carriers]
  split <;> rfl

theorem evalOrphansOf_handsOn {raises clears : AlarmKind → Subject → Prop} : s.handsOn raises clears (s.evalOrphansOf l) :=
  handsOn_forAll (fun c _ _ => .orphan .start c) s

/-- The flags evaluated hold their conditions, and so do those that did before. -/
theorem evalOrphansOf_flags {d : Carrier} (h : d ∈ l ∨ s.carriers[d].orphan = s.orphanCondition d) :
    (s.evalOrphansOf l).carriers[d].orphan = (s.evalOrphansOf l).orphanCondition d := by
  induction l generalizing s with
  | nil => exact h.resolve_left List.not_mem_nil
  | cons c l ih =>
    refine ih (s.evalOrphan c) ?_
    rw [evalOrphan_orphanCondition, evalOrphan_carriers]
    by_cases e : c = d
    · rw [if_pos e]
      exact .inr rfl
    · rw [if_neg e]
      exact h.imp_left fun hd => (List.mem_cons.1 hd).resolve_left (Ne.symm e)

end evalOrphansOf

/-! ## The hand-ons of a commit -/

/-- What a commit hands on once its layout is applied: the new placements are judged, the changed heads recomputed, and the
orphan flags of the changed carriers evaluated (R157). -/
def State.handOnCommit (a s0 : State) (layout : List HeadLayout) (changed : List Carrier) : State :=
  ((forAll (arrivals layout) (fun n t => t.evalCreated n.1 n.2) a).askedAll s0 (layout.map (·.head))).evalOrphansOf changed

/-- What the hand-ons of a commit have done. -/
structure State.handedTo (a t : State) (layout : List HeadLayout) (changed : List Carrier) (v : Head × Carrier → Exclusion) :
    Prop where
  placements : t.placements = a.placements.map (Placement.judgedOn (arrivals layout) v)
  handed : a.handsOn (excludesOn (arrivals layout)) clearsNothing t
  judges : ∀ n ∈ arrivals layout, a.judgesOn t.placements (arrivals layout) n (v n)
  raised : ∀ n ∈ arrivals layout, v n ≠ .none → ∀ u : State, u.log.dropsOnto a.log → a.timing.frame = u.timing.frame →
    u.log.raised t.log .carrierExcluded (.carrierHead n.2 n.1) u.timing.frame (v n).detail
  power : ∀ h : Head, h ∉ layout.map (·.head) → t.power[h] = a.power[h]
  asked : ∀ h ∈ layout.map (·.head), t.power[h].running.isSome = true
  unflagged : ∀ d : Carrier, t.carriers[d].unflagged = a.carriers[d].unflagged
  flags : ∀ d : Carrier, d ∈ changed ∨ a.carriers[d].orphan = a.orphanCondition d → t.carriers[d].orphan = t.orphanCondition d
  attended : ∀ l : Link, a.attended t l
  frame : t.sansConfig = a.sansConfig

theorem orphanCondition_of_sansPower {s t : State} (h : t.sansPower = s.sansPower) (d : Carrier) :
    t.orphanCondition d = s.orphanCondition d :=
  (congrArg (fun x : State => x.orphanCondition d) h :)

theorem handOnCommit_handedTo {a : State} (s0 : State) {layout : List HeadLayout} (changed : List Carrier)
    (order : (arrivals layout).Pairwise fun m n => m.2 = n.2 → m.1 < n.1) (heads : (layout.map (·.head)).Nodup)
    (nodup : (a.placements.map fun q => (q.head, q.carrier)).Nodup) (fresh : a.freshAt (arrivals layout)) :
    ∃ v, a.handedTo (a.handOnCommit s0 layout changed) layout changed v := by
  obtain ⟨v, judged, judges⟩ := evalCreated_each order nodup fresh
  have attended : ∀ l : Link, a.attended (forAll (arrivals layout) (fun n t => t.evalCreated n.1 n.2) a) l := fun l =>
    attended_forAll (fun (n : Head × Carrier) t => evalCreated_attended t l n.1 n.2) _
  refine ⟨v, ?_⟩
  unfold State.handOnCommit
  generalize forAll (arrivals layout) (fun n t => t.evalCreated n.1 n.2) a = e at judged judges attended
  have asked := askedAll_sansPower e s0 (layout.map (·.head))
  have handed : e.handsOn clearsNothing clearsNothing ((e.askedAll s0 (layout.map (·.head))).evalOrphansOf changed) :=
    handsOn_trans (askedAll_handsOn e s0 _) (evalOrphansOf_handsOn _ changed)
  have running := fun g hg => askedAll_running e s0 (layout.map (·.head)) heads (g := g) hg
  have other := fun g hg => askedAll_power e s0 (layout.map (·.head)) (g := g) hg
  have attended : ∀ l : Link, a.attended ((e.askedAll s0 (layout.map (·.head))).evalOrphansOf changed) l := fun l =>
    attended_trans (attended l) (attended_trans (attended_forAll (fun h t => requestOnce_attended t l s0 h) _)
      (attended_forAll (fun c t => evalOrphan_attended t l c) _))
  generalize e.askedAll s0 (layout.map (·.head)) = q at asked handed running other attended
  have placements : (q.evalOrphansOf changed).placements = e.placements := by
    rw [evalOrphansOf_placements, placements_of_sansPower asked]
  refine ⟨placements.trans judged.placements, handsOn_trans judged.handed (handsOn_mono handed (fun _ _ => False.elim) fun _ _ => id),
    ?_, fun n hn hne u drops now => ?_, fun h hh => ?_, fun h hh => ?_, fun d => ?_, fun d hd => ?_, attended, ?_⟩
  · rw [placements]
    exact judges
  · exact raised_spares (judged.raised n hn hne u drops now) (handsOn_spares handed (by decide) id id) (handsOn_dropsOnto handed)
  · rw [evalOrphansOf_power, other h hh]
    exact judged.power h fun x => hh (head_of_mem_arrivals x)
  · rw [evalOrphansOf_power]
    exact running h hh
  · rw [evalOrphansOf_unflagged, carriers_of_sansPower asked]
    exact judged.unflagged d
  · refine evalOrphansOf_flags q changed (hd.imp_right fun held => ?_)
    rw [carriers_of_sansPower asked, orphanCondition_of_sansPower asked]
    exact judged.flags d held
  · rw [evalOrphansOf_sansConfig, sansConfig_of_sansPower asked]
    exact judged.frame

end Sys2Proof.Machine
end

section
/-! SUPPORT. PLAN_OUTCOME of a plan that ends (R158, R159), and the state that a commit leaves (R156, R157). -/

namespace Sys2Proof.Machine

open Sys2Proof

/-! ## The end of a plan -/

theorem sendEach_sansLog (m : Message) (l : List Port) (s : State) :
    (forAll l (fun p t => t.sendUnsolicited p m) s).sansLog = s.sansLog :=
  forAll_keeps State.sansLog _ (fun p t => sendUnsolicited_sansLog t p m) l s

/-- A message sent to several ports reaches each one that is open and has room. -/
theorem sendEach_ports (m : Message) (q : Port) (l : List Port) (hl : l.Nodup) : ∀ s : State,
    (forAll l (fun p t => t.sendUnsolicited p m) s).ports[q] =
      if q ∈ l ∧ s.portOpen q = true ∧ s.room q 1 = true then s.ports[q].sent [m] else s.ports[q] := by
  induction l with
  | nil => simp
  | cons p l ih =>
    intro s
    obtain ⟨hp, hl⟩ := List.nodup_cons.1 hl
    rw [forAll_cons, ih hl]
    by_cases e : q = p
    · subst e
      rw [if_neg fun x => hp x.1, State.sendUnsolicited]
      by_cases sent : s.portOpen q = true ∧ s.room q 1 = true
      · rw [if_pos (Bool.and_eq_true_iff.2 sent), if_pos ⟨List.mem_cons_self, sent⟩, enqueue_port, if_pos rfl]
      · rw [if_neg fun x => sent (Bool.and_eq_true_iff.1 x), if_neg fun x => sent x.2]
    · have other := sendUnsolicited_port_other s (Ne.symm e) m
      have room : (s.sendUnsolicited p m).room q 1 = s.room q 1 := by unfold State.room; rw [other]
      rw [other, room, portOpen_of_sansLog (sendUnsolicited_sansLog s p m)]
      simp only [List.mem_cons, e, false_or]

section endPlan
variable (s : State) (k : SlotIndex) (map : SectorMap) (o : Offer) (r : PlanResult) (refusing : Option Link) (failure : Option Failure)

/-- The outcome that is recorded of a plan that ends (R158). -/
def State.ended : Outcome :=
  { number := some o.number, slot := k, source := o.source, result := r, frame := s.timing.frame, affected := o.affected,
    answers := o.answers, refusing := refusing, failure := failure }

/-- A plan that ends records its outcome and returns its slot to DRAFT; besides, PLAN_OUTCOME is sent (R158, R159). -/
theorem endPlan_eq : s.endPlan k map o r refusing failure =
    { s with plans := { s.plans with last := some (s.ended k o r refusing failure), slots := s.plans.slots.set k (.draft map) }
             ports := (s.endPlan k map o r refusing failure).ports } :=
  (eq_of_sansLog (sendEach_sansLog (outcomeMessage (s.ended k o r refusing failure)) (Port.mp :: o.affected.map Port.ofLink)
    ((s.setPlans { s.plans with last := some (s.ended k o r refusing failure) }).setSlot k (.draft map)))).trans <| by
      have log : (s.endPlan k map o r refusing failure).log = s.log :=
        forAll_keeps State.log _ (fun p t => sendUnsolicited_log t p _) _ _
      exact congrArg (fun x : AlarmLog => ({ s with
        plans := { s.plans with last := some (s.ended k o r refusing failure), slots := s.plans.slots.set k (.draft map) }
        ports := (s.endPlan k map o r refusing failure).ports, log := x } : State)) log

/-- PLAN_OUTCOME goes to MP and to the affected operators, each where its port is open and has room (R159). -/
theorem endPlan_ports (nodup : o.affected.Nodup) (q : Port) : (s.endPlan k map o r refusing failure).ports[q] =
    if (q = Port.mp ∨ ∃ l ∈ o.affected, q = Port.ofLink l) ∧ s.portOpen q = true ∧ s.room q 1 = true then
      s.ports[q].sent [mkMessage 97 (byte1 o.number ++ byte1 k.val ++ byte1 r.code ++ byte4 s.timing.frame.toNat)]
    else s.ports[q] := by
  have links : (o.affected.map Port.ofLink).Nodup := nodup.map fun _ _ e => ofLink_inj.1 e
  have ports : (Port.mp :: o.affected.map Port.ofLink).Nodup := List.nodup_cons.2 ⟨fun x => by
    obtain ⟨l, -, e⟩ := List.mem_map.1 x
    exact ofLink_ne_mp l e, links⟩
  have mem : q ∈ Port.mp :: o.affected.map Port.ofLink ↔ q = Port.mp ∨ ∃ l ∈ o.affected, q = Port.ofLink l := by
    simp only [List.mem_cons, List.mem_map, eq_comm]
  exact (sendEach_ports _ q _ ports _).trans (if_congr (and_congr_left fun _ => mem) rfl rfl)

end endPlan

/-! ## A commit -/

/-- The state of a commit whose layout has been applied. -/
def State.applied (s : State) (map : SectorMap) (layout : List HeadLayout) : State := (s.setSectorMap map).applyLayouts layout

/-- The state of a commit before its load window and its outcome. -/
def State.moved (s : State) (map : SectorMap) (layout : List HeadLayout) : State :=
  (s.applied map layout).handOnCommit s layout (s.changedCarriers map)

theorem commitPlan_eq (s : State) (k : SlotIndex) (map : SectorMap) (o : Offer) (layout : List HeadLayout) :
    s.commitPlan k map o layout =
      ((s.moved map layout).restartWindow (s.moved map layout).frame).endPlan k map o .committed none none := by
  have judged := forAll_arrivals (fun n t => t.evalCreated n.1 n.2) layout (s.applied map layout)
  have moved : s.moved map layout =
      forAll (s.changedCarriers map) (fun c y => y.evalOrphan c) (forAll layout (fun x w => w.requestOnce s x.head)
        (forAll layout (fun x v => forAll x.newcomers (fun n w => w.evalCreated x.head n.1) v) (s.applied map layout))) := by
    rw [← judged, ← forAll_map (fun x : HeadLayout => x.head) (fun h w => w.requestOnce s h)]
    rfl
  rw [moved]
  rfl

theorem orphanCondition_of_members {s t : State} {c : Carrier} (active : t.carriers[c].active = s.carriers[c].active)
    (links : t.links = s.links) (mode : t.mode = s.mode) (heads : t.heads = s.heads)
    (members : ∀ p : Placement, p.carrier = c → (p ∈ t.placements ↔ p ∈ s.placements)) : t.orphanCondition c = s.orphanCondition c := by
  have serving : (t.placementsOf c).any (fun p => t.inService p.head && decide (p.exclusion = .none)) =
      (s.placementsOf c).any (fun p => s.inService p.head && decide (p.exclusion = .none)) := by
    rw [Bool.eq_iff_iff]
    simp only [List.any_eq_true, State.placementsOf, List.mem_filter, decide_eq_true_eq, State.inService, heads]
    exact exists_congr fun p => and_congr_left fun _ => and_congr_left fun hc => members p hc
  unfold State.orphanCondition State.linkUp
  rw [active, links, mode, serving]

section commit
variable {s : State} {map : SectorMap} {layout : List HeadLayout} (agree : s.lanesAgree) (valid : s.validateMap map = .valid layout)
include agree valid

theorem applied_nodup : ((s.applied map layout).placements.map fun q => (q.head, q.carrier)).Nodup :=
  (applyLayouts_held valid agree).unique

omit agree in
theorem mem_applied {p : Placement} :
    p ∈ (s.applied map layout).placements ↔ (p ∈ s.placements ∧ ∀ x ∈ layout, ¬ (p.head = x.head ∧ p.carrier ∈ x.departing)) ∨
      ∃ x ∈ layout, ∃ n ∈ x.newcomers, p = newPlacement x.head n.1 n.2 s.carriers[n.1].width.units :=
  mem_applyLayouts (s.setSectorMap map) layout (layout_heads_nodup valid)

omit agree valid in
theorem applied_carriers : (s.applied map layout).carriers = s.carriers := applyLayouts_carriers (s.setSectorMap map) layout

omit agree valid in
theorem applied_sansBinding : (s.applied map layout).sansBinding = (s.setSectorMap map).sansBinding :=
  applyLayouts_sansBinding (s.setSectorMap map) layout

omit agree valid in
theorem applied_handsOn {raises : AlarmKind → Subject → Prop} : s.handsOn raises departs (s.applied map layout) :=
  handsOn_trans (t := s.setSectorMap map) (handsOn_silent rfl rfl rfl fun _ => rfl) (applyLayouts_handsOn _ layout)

omit agree in
theorem applied_freshAt : (s.applied map layout).freshAt (arrivals layout) := by
  rintro ⟨h, c⟩ mem
  obtain ⟨x, hx, rfl, came⟩ := mem_arrivals.1 mem
  obtain ⟨n, hn, rfl⟩ := List.mem_map.1 came
  exact ⟨_, (mem_applied valid).2 (.inr ⟨x, hx, n, hn, rfl⟩), rfl, rfl, rfl, rfl, rfl⟩

theorem moved_handedTo : ∃ v, (s.applied map layout).handedTo (s.moved map layout) layout (s.changedCarriers map) v :=
  handOnCommit_handedTo s (s.changedCarriers map) (arrivals_ascending valid) (layout_heads_nodup valid) (applied_nodup agree valid)
    (applied_freshAt valid)

/-- A carrier that a map does not change neither leaves a head nor comes onto one. -/
theorem stays_of_unchanged {c : Carrier} (same : s.newHeadSet map c = s.headSet c) {x : HeadLayout} (hx : x ∈ layout) :
    c ∉ x.departing ∧ c ∉ x.newcomers.map (·.1) := by
  obtain ⟨-, sets, -, -⟩ := (lanesAgree_iff s).1 agree
  rw [departing_of_layout valid hx, newcomer_of_layout valid hx, same, sets]
  tauto

/-- The condition of a carrier that a map does not change is as it was. -/
theorem applied_orphanCondition {c : Carrier} (same : s.newHeadSet map c = s.headSet c) :
    (s.applied map layout).orphanCondition c = s.orphanCondition c := by
  have frame := applied_sansBinding (s := s) (map := map) (layout := layout)
  refine orphanCondition_of_members (by rw [applied_carriers]) (congrArg State.links frame :) (congrArg State.mode frame :)
    (congrArg State.heads frame :) fun p hp => ?_
  rw [mem_applied valid]
  constructor
  · rintro (⟨mem, -⟩ | ⟨x, hx, n, hn, rfl⟩)
    · exact mem
    · exact absurd (hp ▸ List.mem_map_of_mem hn) (stays_of_unchanged agree valid same hx).2
  · exact fun mem => .inl ⟨mem, fun x hx y => (stays_of_unchanged agree valid same hx).1 (hp ▸ y.2)⟩

variable {t : State} {v : Head × Carrier → Exclusion} (handed : (s.applied map layout).handedTo t layout (s.changedCarriers map) v)
include handed

/-! ### Placements -/

theorem handedTo_nodup : (t.placements.map fun q => (q.head, q.carrier)).Nodup := by
  rw [handed.placements]
  exact judgedOn_nodup (applied_nodup agree valid) _ _

theorem handedTo_placement_departing {x : HeadLayout} (hx : x ∈ layout) {d : Carrier} (hd : d ∈ x.departing) :
    t.placement x.head d = none := by
  rw [Option.eq_none_iff_forall_ne_some]
  intro p found
  obtain ⟨mem, hh, hc⟩ := (placement_eq_some_iff (handedTo_nodup agree valid handed)).1 found
  rw [handed.placements] at mem
  obtain ⟨q, hq, rfl⟩ := List.mem_map.1 mem
  rw [judgedOn_head] at hh
  rw [judgedOn_carrier] at hc
  obtain ⟨-, stays⟩ | ⟨y, hy, n, hn, rfl⟩ := (mem_applied valid).1 hq
  · exact stays x hx ⟨hh, hc ▸ hd⟩
  · obtain rfl : y = x := List.inj_on_of_nodup_map (layout_heads_nodup valid) hy hx hh
    obtain rfl : n.1 = d := hc
    exact ((newcomer_of_layout valid hx).1 (List.mem_map_of_mem hn)).1 ((departing_of_layout valid hx).1 hd).1

theorem handedTo_placement_newcomer {x : HeadLayout} (hx : x ∈ layout) {n : Carrier × LaneIndex} (hn : n ∈ x.newcomers) :
    t.placement x.head n.1 =
      some { newPlacement x.head n.1 n.2 s.carriers[n.1].width.units with exclusion := v (x.head, n.1) } := by
  rw [placement_eq_some_iff (handedTo_nodup agree valid handed), handed.placements]
  refine ⟨List.mem_map.2 ⟨_, (mem_applied valid).2 (.inr ⟨x, hx, n, hn, rfl⟩), ?_⟩, rfl, rfl⟩
  exact if_pos (mem_arrivals.2 ⟨x, hx, rfl, List.mem_map_of_mem hn⟩)

theorem handedTo_placement_other {h : Head} {c : Carrier}
    (other : ∀ x ∈ layout, x.head = h → c ∉ x.departing ∧ c ∉ x.newcomers.map (·.1)) : t.placement h c = s.placement h c := by
  have ⟨nodup, _⟩ := agree
  have out : (h, c) ∉ arrivals layout := fun mem => by
    obtain ⟨x, hx, hh, came⟩ := mem_arrivals.1 mem
    exact (other x hx hh).2 came
  refine Option.ext fun p => ?_
  rw [placement_eq_some_iff (handedTo_nodup agree valid handed), placement_eq_some_iff nodup, handed.placements]
  refine and_congr_left fun ⟨hh, hc⟩ => ?_
  constructor
  · intro mem
    obtain ⟨q, hq, rfl⟩ := List.mem_map.1 mem
    rw [judgedOn_head] at hh
    rw [judgedOn_carrier] at hc
    rw [judgedOn_of_not_mem (by rwa [hh, hc])]
    obtain ⟨mem, -⟩ | ⟨x, hx, n, hn, rfl⟩ := (mem_applied valid).1 hq
    · exact mem
    · exact absurd (hc ▸ List.mem_map_of_mem hn) (other x hx hh).2
  · intro mem
    refine List.mem_map.2 ⟨p, (mem_applied valid).2 (.inl ⟨mem, fun x hx y => ?_⟩), judgedOn_of_not_mem (by rwa [hh, hc]) v⟩
    exact (other x hx (y.1.symm.trans hh)).1 (hc ▸ y.2)

/-! ### The exclusion of the newcomers -/

omit agree in
/-- No newcomer is INCAPABLE, and it is WINDOW where the spread with it is too wide, those not yet judged counting (R34, R41). -/
theorem handedTo_judged {x : HeadLayout} (hx : x ∈ layout) {n : Carrier × LaneIndex} (hn : n ∈ x.newcomers) :
    v (x.head, n.1) ≠ .incapable ∧
    (v (x.head, n.1) = .window ↔ s.heads[x.head].delay ≠ none ∧
      apart s.heads (countsAmong t.placements n.1 x.head fun q => q.exclusion = .none ∨
        ((q.head, q.carrier) ∈ arrivals layout ∧ x.head < q.head))) := by
  obtain ⟨incapable, window⟩ := handed.judges _ (mem_arrivals.2 ⟨x, hx, rfl, List.mem_map_of_mem hn⟩)
  have heads : (s.applied map layout).heads = s.heads := heads_of_sansBinding (s := s.setSectorMap map) applied_sansBinding
  rw [applied_carriers, heads] at incapable window
  have able : ¬ (s.carriers[n.1].width = .wide ∧ s.heads[x.head].capability = .no) := fun y => by
    have yes := ableOn_of_layout valid hx hn y.1
    rw [y.2] at yes
    cases yes
  exact ⟨fun e => able (incapable.1 e), window.trans (and_iff_right able)⟩

omit agree valid in
theorem handedTo_raised {x : HeadLayout} (hx : x ∈ layout) {n : Carrier × LaneIndex} (hn : n ∈ x.newcomers)
    (hv : v (x.head, n.1) = .window) :
    s.log.raised t.log .carrierExcluded (.carrierHead n.1 x.head) s.timing.frame 2 := by
  have before := applied_handsOn (s := s) (map := map) (layout := layout) (raises := clearsNothing)
  have raised := handed.raised _ (mem_arrivals.2 ⟨x, hx, rfl, List.mem_map_of_mem hn⟩) (by rw [hv]; decide) s (handsOn_dropsOnto before)
    (congrArg Timing.frame (handsOn_timing before))
  rw [hv] at raised
  exact raised

/-! ### Lane units and power -/

omit agree valid in
theorem handedTo_lanes : t.lanes = (s.applied map layout).lanes := lanes_of_sansConfig handed.frame

theorem handedTo_lanes_covered {x : HeadLayout} (hx : x ∈ layout) {n : Carrier × LaneIndex} (hn : n ∈ x.newcomers) {i : LaneIndex}
    (covered : covers n.2.val s.carriers[n.1].width.units i) : t.lanes[x.head][i] = .owned n.1 := by
  rw [handedTo_lanes handed]
  have placed := (applyLayouts_held valid agree).placed _ ((mem_applied valid).2 (.inr ⟨x, hx, n, hn, rfl⟩))
  exact placed.2.2 i covered

omit agree in
theorem handedTo_lanes_uncovered {x : HeadLayout} (hx : x ∈ layout) {i : LaneIndex}
    (uncovered : ∀ n ∈ x.newcomers, ¬ covers n.2.val s.carriers[n.1].width.units i) :
    t.lanes[x.head][i] = if ∃ d ∈ x.departing, s.lanes[x.head][i] = .owned d then .free else s.lanes[x.head][i] := by
  rw [handedTo_lanes handed]
  exact applyLayouts_unit_uncovered (s.setSectorMap map) layout (layout_heads_nodup valid) hx i uncovered

omit agree valid in
theorem handedTo_other {h : Head} (hh : h ∉ layout.map (·.head)) : t.lanes[h] = s.lanes[h] ∧ t.power[h] = s.power[h] := by
  rw [handedTo_lanes handed, handed.power h hh]
  exact ⟨applyLayouts_table_other (s.setSectorMap map) layout hh, applyLayouts_power (s.setSectorMap map) layout hh⟩

/-! ### Alarms and orphan flags -/

omit agree valid in
theorem handedTo_handsOn : s.handsOn (excludesOn (arrivals layout)) departs t :=
  handsOn_trans applied_handsOn (handsOn_mono handed.handed (fun _ _ => id) fun _ _ => False.elim)

omit agree in
theorem handedTo_quiet (sound : s.log.sound) {x : HeadLayout} (hx : x ∈ layout) {d : Carrier} (hd : d ∈ x.departing)
    {k : AlarmKind} (hk : departs k (.carrierHead d x.head)) : t.log.quiet k (.carrierHead d x.head) := by
  have orphaned : k ≠ .carrierOrphaned := by obtain rfl | rfl := hk <;> decide
  refine handsOn_quiet handed.handed orphaned ?_
    (applyLayouts_quiet (s.setSectorMap map) layout (unique_of_sound sound) (layout_nodup valid) hx hd hk)
  rintro ⟨-, ⟨h, c⟩, mem, e⟩
  injection e with hc hh
  subst hc hh
  obtain ⟨y, hy, same, came⟩ := mem_arrivals.1 mem
  obtain rfl : y = x := List.inj_on_of_nodup_map (layout_heads_nodup valid) hy hx same
  exact ((newcomer_of_layout valid hx).1 came).1 ((departing_of_layout valid hx).1 hd).1

omit agree valid in
theorem handedTo_orphansReported (sound : s.log.sound) : s.orphansReported t :=
  handsOn_orphansReported (handedTo_handsOn handed) sound (fun x h => by cases h.1) fun x h => by cases h <;> contradiction

omit agree valid in
theorem handedTo_carrier (c : Carrier) : t.carriers[c] = { s.carriers[c] with orphan := t.carriers[c].orphan } := by
  have unflagged := handed.unflagged c
  rw [applied_carriers] at unflagged
  exact unflagged_iff.1 unflagged

theorem handedTo_orphan {c : Carrier}
    (h : (s.carriers[c].declared = true ∧ headSetUnder map s.carriers[c].active ≠ s.headSet c) ∨
      s.carriers[c].orphan = s.orphanCondition c) : t.carriers[c].orphan = t.orphanCondition c := by
  have changes : c ∈ s.changedCarriers map ↔ s.carriers[c].declared = true ∧ s.newHeadSet map c ≠ s.headSet c := by
    simp [State.changedCarriers, allCarriers]
  refine handed.flags c ?_
  by_cases changed : c ∈ s.changedCarriers map
  · exact .inl changed
  · rw [changes, newHeadSet_eq agree] at changed
    have same : s.newHeadSet map c = s.headSet c := by
      by_contra ne
      refine changed ⟨?_, by rwa [newHeadSet_eq agree] at ne⟩
      by_contra undeclared
      have none : ∀ m, s.newHeadSet m c = [] := fun m => if_neg undeclared
      exact ne ((none map).trans ((none s.sectorMap).symm.trans (newHeadSet_eq agree s.sectorMap c)))
    rw [applied_carriers, applied_orphanCondition agree valid same]
    exact .inr (h.resolve_left changed)

/-! ### Ports -/

omit agree valid in
theorem handedTo_mp : t.ports[Port.mp] = s.ports[Port.mp] := (handsOn_messaged (handedTo_handsOn handed)).mp

omit agree valid in
theorem handedTo_attended (l : Link) : s.attended t l :=
  attended_trans (t := s.setSectorMap map) (attended_of_ports rfl rfl)
    (attended_trans (attended_forAll (fun x u => applyLayout_attended u l x) layout) (handed.attended l))

end commit

end Sys2Proof.Machine
end

section
/-! SUPPORT. A window end that has begun is taken to its end while a plan is pending: every later firing is deferred (R129, R132). -/

namespace Sys2Proof.Machine

open Sys2Proof

/-! ## Trigger records -/

/-- A trigger as a fresh window leaves it: count 0, not deferred (R129). -/
def Trigger.uncounted (x : Trigger) : Trigger := { x with count := 0, deferred := false }

theorem modTrigger_get (s : State) (t i : TriggerIndex) (f : Trigger → Trigger) :
    (s.modTrigger t f).load.triggers[i] = if t = i then f s.load.triggers[t] else s.load.triggers[i] := get_set _ _ _ _

theorem modTrigger_uncounted (s : State) (t : TriggerIndex) {f : Trigger → Trigger} (hf : ∀ x, (f x).uncounted = x.uncounted)
    (i : TriggerIndex) : (s.modTrigger t f).load.triggers[i].uncounted = s.load.triggers[i].uncounted := by
  rw [modTrigger_get]
  split
  · next e => rw [hf, e]
  · rfl

/-- The state with other triggers. -/
def State.setTriggers (s : State) (x : Vector Trigger 8) : State := s.setLoad { s.load with triggers := x }

/-- A trigger's record when its firing has been answered, where it awaits the answer (R133). -/
def State.answeredRecord (s : State) (t : TriggerIndex) (deferred : Bool) (i : TriggerIndex) : Trigger :=
  if t = i ∧ s.load.triggers[i].awaiting = true then s.load.triggers[i].answered deferred else s.load.triggers[i]

/-! ## Evaluation while a plan is pending -/

/-- Evaluation of triggers while firings are deferred: it changes counts and deferred flags, and one trigger may fire. -/
structure State.fires (s t : State) (loads : Vector Load 12) (fired : Option TriggerIndex) : Prop where
  whole : t = (s.setDue ((fired.map fun i => Due.triggerAnswer i true loads).toList ++ s.due)).setTriggers t.load.triggers
  records : ∀ i : TriggerIndex, t.load.triggers[i].uncounted =
    if fired = some i then { s.load.triggers[i].uncounted with awaiting := true } else s.load.triggers[i].uncounted
  idle : ∀ i : TriggerIndex, fired = some i → s.load.triggers[i].awaiting = false

theorem fires_of_modTrigger {s w : State} {loads : Vector Load 12} {fired : Option TriggerIndex} {t : TriggerIndex}
    {f : Trigger → Trigger} (hf : ∀ x, (f x).uncounted = x.uncounted) (h : (s.modTrigger t f).fires w loads fired) :
    s.fires w loads fired := by
  have same := modTrigger_uncounted s t hf
  refine ⟨h.whole.trans rfl, fun i => ?_, fun i hi => ?_⟩
  · rw [h.records, same]
  · exact (congrArg Trigger.awaiting (same i)).symm.trans (h.idle i hi)

theorem fires_fireTrigger {s : State} (defers : s.defersTrigger = true) (loads : Vector Load 12) {t : TriggerIndex}
    (idle : s.load.triggers[t].awaiting = false) : s.fires (s.fireTrigger loads t) loads (some t) := by
  unfold State.fireTrigger
  rw [defers]
  refine ⟨rfl, fun i => ?_, fun i e => by cases e; exact idle⟩
  refine (congrArg Trigger.uncounted (modTrigger_get s t i fun x => { x with awaiting := true })).trans ?_
  by_cases e : t = i
  · subst e
    rw [if_pos rfl, if_pos rfl]
    rfl
  · rw [if_neg e, if_neg fun x => e (Option.some.inj x)]

theorem evalTriggers_fires (loads : Vector Load 12) (l : List TriggerIndex) : ∀ {s : State}, s.defersTrigger = true →
    ∃ fired, (∀ i, fired = some i → i ∈ l) ∧ s.fires (s.evalTriggers loads l) loads fired := by
  induction l with
  | nil => exact fun _ => ⟨none, nofun, rfl, fun _ => rfl, nofun⟩
  | cons t l ih =>
    intro s defers
    have later : ∀ {w : State}, (∃ fired, (∀ i, fired = some i → i ∈ l) ∧ s.fires w loads fired) →
        ∃ fired, (∀ i, fired = some i → i ∈ t :: l) ∧ s.fires w loads fired :=
      fun ⟨fired, mem, h⟩ => ⟨fired, fun i hi => List.mem_cons_of_mem t (mem i hi), h⟩
    have counted : ∀ {f : Trigger → Trigger}, (∀ x, (f x).uncounted = x.uncounted) →
        ∃ fired, (∀ i, fired = some i → i ∈ l) ∧ s.fires ((s.modTrigger t f).evalTriggers loads l) loads fired := fun {f} hf =>
      have ⟨fired, mem, h⟩ := ih (s := s.modTrigger t f) defers
      ⟨fired, mem, fires_of_modTrigger hf h⟩
    unfold State.evalTriggers
    dsimp only
    split
    · exact later (ih defers)
    · next active =>
      have idle : s.load.triggers[t].awaiting = false := by
        rw [Bool.or_eq_true, not_or] at active
        exact Bool.eq_false_iff.2 active.2
      split
      · split
        · let f : Trigger → Trigger := fun x => { x with count := min s.load.triggers[t].windows (s.load.triggers[t].count + 1) }
          have hf : ∀ x, (f x).uncounted = x.uncounted := fun _ => rfl
          have fires := fires_fireTrigger (s := s.modTrigger t f) defers loads
            ((congrArg Trigger.awaiting (modTrigger_uncounted s t hf t) :).trans idle)
          exact ⟨some t, fun i e => by cases e; exact List.mem_cons_self, fires_of_modTrigger hf fires⟩
        · exact later (counted fun _ => rfl)
      · exact later (counted fun _ => rfl)

/-! ## Answers one after another -/

theorem answerNext_front {s : State} {t : TriggerIndex} {d : Bool} {loads : Vector Load 12} {rest : List Due}
    (due : s.due = .triggerAnswer t d loads :: rest) : s.answerNext = (s.setDue rest).answerTrigger t d loads := by
  unfold State.answerNext
  rw [due, List.find?_cons_of_pos rfl]
  dsimp only
  rw [List.erase_cons_head]

theorem find_answer_none {rest : List Due} (h : ∀ d ∈ rest, d.isAnswer = false) : rest.find? Due.isAnswer = none :=
  List.find?_eq_none.2 fun d hd e => by rw [h d hd] at e; cases e

/-- A firing has been answered, and the triggers behind it evaluated. -/
theorem answerTrigger_fires {s : State} (defers : s.defersTrigger = true) (t : TriggerIndex) (d : Bool) (loads : Vector Load 12) :
    ∃ (fired : Option TriggerIndex) (u : State), (∀ i, fired = some i → t < i) ∧ u = s.setTriggers u.load.triggers ∧
      (∀ i : TriggerIndex, u.load.triggers[i] = s.answeredRecord t d i) ∧ u.fires (s.answerTrigger t d loads) loads fired := by
  have behind : ∀ {u : State}, u.defersTrigger = true → ∃ fired : Option TriggerIndex, (∀ i, fired = some i → t < i) ∧
      u.fires (u.evalTriggers loads (allTriggers.filter fun j => decide (t < j))) loads fired := fun defers =>
    have ⟨fired, mem, h⟩ := evalTriggers_fires loads _ defers
    ⟨fired, fun i hi => of_decide_eq_true (List.mem_filter.1 (mem i hi)).2, h⟩
  unfold State.answerTrigger
  by_cases awaiting : s.load.triggers[t].awaiting = true
  · obtain ⟨fired, order, h⟩ := behind (u := s.modTrigger t fun x => x.answered d) defers
    refine ⟨fired, _, order, rfl, fun i => ?_, by rw [if_pos awaiting]; exact h⟩
    rw [modTrigger_get, State.answeredRecord]
    by_cases e : t = i
    · subst e
      rw [if_pos rfl, if_pos ⟨rfl, awaiting⟩]
    · rw [if_neg e, if_neg fun x => e x.1]
  · obtain ⟨fired, order, h⟩ := behind defers
    refine ⟨fired, s, order, rfl, fun i => ?_, by rw [if_neg awaiting]; exact h⟩
    refine (if_neg fun x => ?_).symm
    obtain ⟨rfl, x⟩ := x
    exact awaiting x

/-- What a deferred answer to a firing leaves of a trigger but its count and deferred flag is what it was before it fired. -/
theorem answeredRecord_fires {u w : State} {loads : Vector Load 12} {t : TriggerIndex} (h : u.fires w loads (some t))
    (i : TriggerIndex) : (w.answeredRecord t true i).uncounted = u.load.triggers[i].uncounted := by
  have records := h.records i
  unfold State.answeredRecord
  by_cases e : t = i
  · subst e
    rw [if_pos rfl] at records
    have idle := h.idle t rfl
    have awaiting : w.load.triggers[t].awaiting = true := (congrArg Trigger.awaiting records :)
    rw [if_pos ⟨rfl, awaiting⟩]
    refine (congrArg (fun x : Trigger => { x with awaiting := false }) records :).trans ?_
    exact congrArg (fun b => { u.load.triggers[t].uncounted with awaiting := b }) idle.symm
  · rw [if_neg fun x => e (Option.some.inj x)] at records
    rw [if_neg fun x => e x.1, records]

theorem fires_whole {s u w : State} {loads : Vector Load 12} {fired : Option TriggerIndex} (answered : u = s.setTriggers u.load.triggers)
    (h : u.fires w loads fired) :
    w = (s.setDue ((fired.map fun i => Due.triggerAnswer i true loads).toList ++ s.due)).setTriggers w.load.triggers := by
  have whole := h.whole
  clear h
  generalize u.load.triggers = x at answered
  subst answered
  exact whole

/-- What is due and the triggers are overwritten, whatever they had become. -/
theorem setTriggers_overwritten {s w : State} {due : List Due} (h : w = (s.setDue due).setTriggers w.load.triggers) (rest : List Due)
    (x : Vector Trigger 8) : (w.setDue rest).setTriggers x = (s.setDue rest).setTriggers x := by
  generalize w.load.triggers = y at h
  subst h
  rfl

/-- A window end that has begun is taken to its end: rounds enough for the triggers behind the one that awaits its answer leave
nothing more to answer. -/
theorem answerRounds {rest : List Due} (other : ∀ d ∈ rest, d.isAnswer = false) (l : List TriggerIndex) :
    ∀ {s : State} {t : TriggerIndex} {d : Bool} {loads : Vector Load 12}, s.defersTrigger = true →
      s.due = .triggerAnswer t d loads :: rest → 8 ≤ t.val + l.length →
      ∃ x : Vector Trigger 8, forAll l (fun _ u => u.answerNext) s = (s.setDue rest).setTriggers x ∧
        ∀ i : TriggerIndex, x[i].uncounted = (s.answeredRecord t d i).uncounted := by
  induction l with
  | nil =>
    intro s t d loads _ _ long
    rw [List.length_nil] at long
    omega
  | cons _ l ih =>
    intro s t d loads defers due long
    rw [List.length_cons] at long
    rw [forAll_cons, answerNext_front due]
    obtain ⟨fired, u, order, answered, records, h⟩ := answerTrigger_fires (s := s.setDue rest) defers t d loads
    have whole := fires_whole answered h
    have uncounted := h.records
    generalize (s.setDue rest).answerTrigger t d loads = w at h whole uncounted
    have due' := congrArg State.due whole
    cases fired with
    | none =>
      have idle : forAll l (fun _ u => u.answerNext) w = w :=
        forAll_preserves (fun x => x = w) _ (fun _ x hx => by rw [hx, answerNext_idle (due'.symm ▸ find_answer_none other)]) l w rfl
      refine ⟨w.load.triggers, idle.trans whole, fun i => ?_⟩
      rw [uncounted i, if_neg nofun, records i]
      rfl
    | some t' =>
      have defers' : w.defersTrigger = true := (congrArg State.defersTrigger whole).trans defers
      have lt : t.val < t'.val := order t' rfl
      obtain ⟨x, e, last⟩ := ih defers' due' (by omega)
      refine ⟨x, e.trans (setTriggers_overwritten whole rest x), fun i => ?_⟩
      rw [last i, answeredRecord_fires h i, records i]
      rfl

end Sys2Proof.Machine
end

section
/-! PROOF of O35: PLAN_REVALIDATE. -/

namespace Sys2Proof.Machine

open Sys2Proof

/-! ## The window end that has begun -/

/-- The state that a window end leaves when it has been taken to its end: what is due, and the triggers. -/
def State.relieved (s : State) (rest : List Due) (x : Vector Trigger 8) : State := (s.setDue rest).setTriggers x

/-- The firing that a window end has begun with is due first, if there is one. -/
def begunDue (begun : Option (TriggerIndex × Bool × Vector Load 12)) : List Due :=
  (begun.map fun x => Due.triggerAnswer x.1 x.2.1 x.2.2).toList

/-- The trigger records that a window end which has begun comes to (R133). -/
def State.begunRecord (s : State) (begun : Option (TriggerIndex × Bool × Vector Load 12)) (i : TriggerIndex) : Trigger :=
  match begun with
  | none => s.load.triggers[i]
  | some b => s.answeredRecord b.1 b.2.1 i

/-- The window end that has begun is taken to its end where a plan is pending (R129, R132). -/
theorem answerAll_begun {s : State} (defers : s.defersTrigger = true) {rest : List Due} (other : ∀ d ∈ rest, d.isAnswer = false)
    (begun : Option (TriggerIndex × Bool × Vector Load 12)) :
    ∃ x : Vector Trigger 8, (s.setDue (begunDue begun ++ rest)).answerAll = s.relieved rest x ∧
      (∀ i : TriggerIndex, x[i].uncounted = (s.begunRecord begun i).uncounted) ∧ (begun = none → x = s.load.triggers) := by
  cases begun with
  | none => exact ⟨s.load.triggers, answerAll_idle (find_answer_none other), fun _ => rfl, fun _ => rfl⟩
  | some b =>
    obtain ⟨x, e, records⟩ := answerRounds other allTriggers
      (s := s.setDue (.triggerAnswer b.1 b.2.1 b.2.2 :: rest)) defers rfl (Nat.le_add_left 8 _)
    exact ⟨x, e, records, nofun⟩

theorem takeDue_revalidate {s : State} {k : SlotIndex} {n : Nat} {begun : Option (TriggerIndex × Bool × Vector Load 12)}
    {rest : List Due} {wanted : Due → Bool} (due : s.due = begunDue begun ++ .planRevalidate k n :: rest)
    (hw : wanted (.planRevalidate k n) = true) (answers : ∀ t d loads, wanted (.triggerAnswer t d loads) = false) :
    s.takeDue wanted = (s.setDue (begunDue begun ++ rest)).revalidateDue k n := by
  cases begun with
  | none => exact takeDue_front due hw
  | some b =>
    have due : s.due = .triggerAnswer b.1 b.2.1 b.2.2 :: .planRevalidate k n :: rest := due
    have found : s.due.find? wanted = some (.planRevalidate k n) := by
      rw [due, List.find?_cons_of_neg (by rw [answers]; decide), List.find?_cons_of_pos hw]
    have left : s.due.erase (.planRevalidate k n) = begunDue (some b) ++ rest := by
      rw [due, List.erase_cons_tail (by simp), List.erase_cons_head]
      rfl
    rw [State.takeDue, found]
    dsimp only
    rw [left]
    rfl

theorem exec_planRevalidate {s : State} (mode : s.mode ≠ .reset) {k : SlotIndex} {n : Nat}
    {begun : Option (TriggerIndex × Bool × Vector Load 12)} {rest : List Due}
    (due : s.due = begunDue begun ++ .planRevalidate k n :: rest) :
    exec .planRevalidate s = .next ((s.setDue (begunDue begun ++ rest)).revalidateDue k n) := by
  change execPlanRevalidate s = _
  rw [execPlanRevalidate, headEvent, if_neg mode, takeDue_revalidate due rfl fun _ _ _ => rfl]

/-! ## Validation does not look at dues and triggers -/

section relieved
variable (s : State) (rest : List Due) (x : Vector Trigger 8)

theorem admitInOrder_relieved (h : Head) (newHeads : Carrier → List Head) (l : List Carrier) (lanes : Vector LaneUnit 8) :
    (s.relieved rest x).admitInOrder h newHeads l lanes = s.admitInOrder h newHeads l lanes := by
  induction l generalizing lanes with
  | nil => rfl
  | cons c l ih =>
    unfold State.admitInOrder
    simp only [ih]
    rfl

theorem admitMap_relieved : (s.relieved rest x).admitMap = s.admitMap := by
  funext map h
  exact admitInOrder_relieved s rest x h _ _ _

theorem validateMap_relieved (map : SectorMap) : (s.relieved rest x).validateMap map = s.validateMap map := by
  unfold State.validateMap State.mapFailure State.mapLayout
  rw [admitMap_relieved]
  rfl

end relieved

/-! ## The commit and the abort -/

section revalidate
variable {s : State} {k : SlotIndex} {map : SectorMap} {o : Offer} (slot : s.plans.slots[k] = .commitWait map o)
include slot

theorem revalidate_valid {layout : List HeadLayout} (valid : s.validateMap map = .valid layout) :
    s.revalidate k o.number = s.commitPlan k map o layout := by
  unfold State.revalidate
  rw [slot]
  dsimp only
  rw [if_pos rfl, valid]

theorem revalidate_invalid {f : Failure} (invalid : s.validateMap map = .invalid f) :
    s.revalidate k o.number = s.endPlan k map o .revalidate none (some f) := by
  unfold State.revalidate
  rw [slot]
  dsimp only
  rw [if_pos rfl, invalid]

end revalidate

theorem portOpen_mp {s : State} (mode : s.mode ≠ .reset) : s.portOpen Port.mp = true := by
  unfold State.portOpen
  cases h : s.mode with
  | reset => exact absurd h mode
  | _ => rfl

theorem portOpen_ofLink {s : State} (mode : s.mode ≠ .reset) (l : Link) : s.portOpen (Port.ofLink l) = true ↔ s.linkUp l = true :=
  ⟨linkUp_of_portOpen, portOpen_of_up mode⟩

theorem portOpen_congr {s t : State} (mode : t.mode = s.mode) (links : t.links = s.links) (p : Port) :
    t.portOpen p = s.portOpen p := by
  unfold State.portOpen State.linkUp
  rw [mode, links]

/-- The load monitor with its window started afresh (R129). -/
def LoadMonitor.restarted (x : LoadMonitor) (start : Frame) : LoadMonitor :=
  { x.clearWindow start with triggers := Vector.ofFn fun i => x.triggers[i].uncounted }

section commit
variable {s t : State} {k : SlotIndex} {map : SectorMap} {o : Offer} {layout : List HeadLayout} {v : Head × Carrier → Exclusion}
  (handed : (s.applied map layout).handedTo t layout (s.changedCarriers map) v)
include handed

/-- What a commit writes. -/
theorem handedTo_eq : t = { s with sectorMap := map, carriers := t.carriers, lanes := t.lanes, placements := t.placements
                                   power := t.power, log := t.log, ports := t.ports } :=
  eq_of_sansBinding (s := s.setSectorMap map) ((sansBinding_of_sansConfig handed.frame).trans applied_sansBinding)

theorem committed_eq : (t.restartWindow t.frame).endPlan k map o .committed none none =
    { s with sectorMap := map, carriers := t.carriers, lanes := t.lanes, placements := t.placements, power := t.power, log := t.log
             load := s.load.restarted s.timing.frame
             plans := { s.plans with last := some (s.ended k o .committed none none), slots := s.plans.slots.set k (.draft map) }
             ports := ((t.restartWindow t.frame).endPlan k map o .committed none none).ports } := by
  have whole := handedTo_eq handed
  refine (endPlan_eq (t.restartWindow t.frame) k map o .committed none none).trans ?_
  generalize ((t.restartWindow t.frame).endPlan k map o .committed none none).ports = ports
  rw [whole]
  rfl

theorem committed_ports (nodup : o.affected.Nodup) (q : Port) :
    ((t.restartWindow t.frame).endPlan k map o .committed none none).ports[q] =
      if (q = Port.mp ∨ ∃ l ∈ o.affected, q = Port.ofLink l) ∧ s.portOpen q = true ∧ t.room q 1 = true then
        t.ports[q].sent [mkMessage 97 (byte1 o.number ++ byte1 k.val ++ byte1 0 ++ byte4 s.timing.frame.toNat)]
      else t.ports[q] := by
  have whole := handedTo_eq handed
  have timing : t.timing = s.timing := (congrArg State.timing whole :)
  have opened : (t.restartWindow t.frame).portOpen q = s.portOpen q :=
    portOpen_congr (congrArg State.mode whole :) (congrArg State.links whole :) q
  rw [endPlan_ports _ k map o .committed none none nodup q, opened, show (t.restartWindow t.frame).timing = s.timing from timing]
  rfl

theorem committed_mp (mode : s.mode ≠ .reset) (nodup : o.affected.Nodup) :
    ((t.restartWindow t.frame).endPlan k map o .committed none none).ports[Port.mp] =
      if s.room Port.mp 1 = true then
        s.ports[Port.mp].sent [mkMessage 97 (byte1 o.number ++ byte1 k.val ++ byte1 0 ++ byte4 s.timing.frame.toNat)]
      else s.ports[Port.mp] := by
  have mp := handedTo_mp handed
  have room : t.room Port.mp 1 = s.room Port.mp 1 := by unfold State.room; rw [mp]
  rw [committed_ports handed nodup, mp, room]
  exact if_congr (by simp [portOpen_mp mode]) rfl rfl

/-- An operator is sent ATTENTION alone before PLAN_OUTCOME, which it gets where it is affected, its link UP, and room left
(R159, R175). -/
theorem committed_link (mode : s.mode ≠ .reset) (nodup : o.affected.Nodup) (l : Link) :
    ∃ attentions : List Message, (∀ m ∈ attentions, m.typeByte = 98) ∧
      let sent := s.ports[Port.ofLink l].outgoing ++ attentions
      (s.linkUp l = false → attentions = []) ∧
      ((t.restartWindow t.frame).endPlan k map o .committed none none).ports[Port.ofLink l] = { s.ports[Port.ofLink l] with
        outgoing := if l ∈ o.affected ∧ s.linkUp l = true ∧ sent.length < 16 then
          sent ++ [mkMessage 97 (byte1 o.number ++ byte1 k.val ++ byte1 0 ++ byte4 s.timing.frame.toNat)] else sent } := by
  obtain ⟨-, attentions, typed, silent, port⟩ := handedTo_attended handed l
  refine ⟨attentions, typed, silent, ?_⟩
  have affected : (Port.ofLink l = Port.mp ∨ ∃ j ∈ o.affected, Port.ofLink l = Port.ofLink j) ↔ l ∈ o.affected := by
    simp [ofLink_ne_mp, ofLink_inj]
  have room : t.room (Port.ofLink l) 1 = true ↔ (s.ports[Port.ofLink l].outgoing ++ attentions).length < 16 := by
    unfold State.room
    rw [port, decide_eq_true_eq]
    exact Iff.rfl
  rw [committed_ports handed nodup, if_congr (and_congr affected (and_congr (portOpen_ofLink mode l) room)) rfl rfl, port]
  split <;> rfl

end commit

/-! ## The due step -/

/-- The map of a plan that is due for its revalidation validates: the plan commits. -/
theorem revalidate_commits {s : State} {k : SlotIndex} {map : SectorMap} {o : Offer} {layout : List HeadLayout} (agree : s.lanesAgree)
    (slot : s.plans.slots[k] = .commitWait map o) (valid : s.validateMap map = .valid layout) :
    ∃ t v, (s.applied map layout).handedTo t layout (s.changedCarriers map) v ∧
      s.revalidate k o.number = (t.restartWindow t.frame).endPlan k map o .committed none none := by
  obtain ⟨v, handed⟩ := moved_handedTo agree valid
  exact ⟨_, v, handed, (revalidate_valid slot valid).trans (commitPlan_eq s k map o layout)⟩

/-- Settles O35: the window end that has begun is taken to its end, and the map is validated again: it commits with its
hand-ons, or the plan ends. -/
theorem theRevalidationCommitsOrAborts : Obligations.TheRevalidationCommitsOrAborts := by
  unfold Obligations.TheRevalidationCommitsOrAborts
  intro s k map o begun rest mode agree plans due other slot
  extract_lets outcome answered _
  obtain ⟨-, -, affected, -⟩ := plans
  have nodup : o.affected.Nodup := affected k o (by rw [slot]; rfl)
  have defers : s.defersTrigger = true :=
    Bool.or_eq_true_iff.2 (.inl ((planPending_iff s).2 ⟨k, by rw [slot]; rfl⟩))
  obtain ⟨x, answers, records, untouched⟩ := answerAll_begun defers other begun
  have step := exec_planRevalidate mode due
  rw [State.revalidateDue, answers] at step
  have verdict := validateMap_relieved s rest x map
  have agree : (s.relieved rest x).lanesAgree := lanesAgree_congr (s := s) rfl rfl rfl rfl agree
  cases e : s.validateMap map with
  | valid layout =>
    obtain ⟨t, v, handed, commits⟩ := revalidate_commits agree slot (verdict.trans e)
    have valid := verdict.trans e
    rw [commits] at step
    have whole := committed_eq (k := k) (o := o) handed
    have mp := committed_mp (k := k) (o := o) handed mode nodup
    have link := committed_link (k := k) (o := o) handed mode nodup
    generalize (t.restartWindow t.frame).endPlan k map o .committed none none = w at step whole mp link
    have placements : w.placements = t.placements := by rw [whole]
    have lanes : w.lanes = t.lanes := by rw [whole]
    have power : w.power = t.power := by rw [whole]
    have carriers : w.carriers = t.carriers := by rw [whole]
    have log : w.log = t.log := by rw [whole]
    have load : w.load = (s.relieved rest x).load.restarted s.timing.frame := by rw [whole]; rfl
    have placement : ∀ h d, w.placement h d = t.placement h d := fun h d => by rw [State.placement, placements]; rfl
    have condition : ∀ c, w.orphanCondition c = t.orphanCondition c := fun c => by
      rw [whole]
      conv_rhs => rw [handedTo_eq handed]
      rfl
    refine ⟨w, step, ?_, ?_, ?_, fun layout' found => ?_, nofun⟩
    · exact congrArg (fun y : State => { y with plans := w.plans, ports := w.ports, sectorMap := w.sectorMap, lanes := w.lanes
                                                placements := w.placements, carriers := w.carriers, power := w.power
                                                log := w.log, load := w.load }) whole
    · rw [whole]
      rfl
    · rw [whole]
      rfl
    · cases found
      refine ⟨?_, fun y hy => ⟨fun d hd => ⟨?_, fun sound => ?_⟩, fun n hn => ?_, fun i => ⟨fun n hn covered => ?_, fun uncovered => ?_⟩, ?_⟩,
        fun h hh => ?_, fun h c stays => ?_, fun c => ⟨?_, fun held => ?_⟩, fun sound => ?_, ?_, fun h => ?_, fun i => ?_, ?_, mp, link⟩
      · rw [whole]
      · rw [placement, handedTo_placement_departing agree valid handed hy hd]
      · rw [log]
        exact ⟨handedTo_quiet valid handed sound hy hd (.inl rfl), handedTo_quiet valid handed sound hy hd (.inr rfl)⟩
      · obtain ⟨capable, window⟩ := handedTo_judged valid handed hy hn
        refine ⟨{ newPlacement y.head n.1 n.2 s.carriers[n.1].width.units with exclusion := v (y.head, n.1) },
          (placement _ _).trans (handedTo_placement_newcomer agree valid handed hy hn), rfl, capable, window.trans ?_, fun hv => ?_⟩
        · rw [delaysApart_iff, placements]
          refine and_congr_right fun _ => apart_congr fun g => countsAmong_congr (fun q _ hc _ => or_congr_right ?_) g
          rw [and_comm, mem_arrivals, hc]
        · rw [log]
          exact handedTo_raised handed hy hn hv
      · rw [lanes]
        exact handedTo_lanes_covered agree valid handed hy hn covered
      · rw [lanes]
        exact handedTo_lanes_uncovered valid handed hy uncovered
      · rw [power]
        exact handed.asked _ (List.mem_map_of_mem hy)
      · rw [lanes, power]
        exact handedTo_other handed hh
      · rw [placement]
        exact handedTo_placement_other agree valid handed stays
      · rw [carriers]
        exact handedTo_carrier handed c
      · rw [carriers, condition]
        exact handedTo_orphan agree valid handed held
      · have reported := handedTo_orphansReported handed sound
        unfold State.orphansReported
        rw [log, carriers]
        exact reported
      · rw [load]
        rfl
      · rw [load]
        exact Vector.getElem_ofFn _
      · rw [load]
        exact (Vector.getElem_ofFn _).trans (records i)
      · exact ⟨_, congrArg (fun y : State => y.plans.last) whole, rfl, rfl, rfl, rfl⟩
  | invalid f =>
    rw [revalidate_invalid (s := s.relieved rest x) slot (verdict.trans e)] at step
    have whole := endPlan_eq (s.relieved rest x) k map o .revalidate none (some f)
    have ports := endPlan_ports (s.relieved rest x) k map o .revalidate none (some f) nodup
    refine ⟨_, step, ?_, ?_, ?_, nofun, fun _ found => ?_⟩
    · rw [whole]
      rfl
    · rw [whole]
      rfl
    · rw [whole]
      rfl
    · cases found
      refine ⟨?_, fun none => ?_, ⟨_, congrArg (fun t : State => t.plans.last) whole, rfl, rfl, rfl⟩, fun p => ports p⟩
      · rw [whole]
        rfl
      · refine (congrArg State.load whole).trans ?_
        exact congrArg (fun y => { s.load with triggers := y }) (untouched none)

end Sys2Proof.Machine
end

section
/-! PROOF of O11 and O12: the division of a head's power in two passes, and where the requests fit. -/

namespace Sys2Proof.Machine

open Sys2Proof

/-! ## The two passes (R57, R58) -/

section
variable (budget : Nat) (entries : List (Carrier × Nat)) (weights : Vector Nat 4)

variable {entries} in
theorem owner_mem_presentOperators {e : Carrier × Nat} (he : e ∈ entries) : e.1.owner ∈ presentOperators entries :=
  List.mem_filter.2 ⟨List.mem_finRange _, List.any_eq_true.2 ⟨e, he, by simp⟩⟩

/-- The demands of the present operators are all the requests (R55). -/
theorem demand_sum : ((presentOperators entries).map fun l => demand entries l).sum = (entries.map (·.2)).sum := by
  have grouped := sum_by_key (fun e : Carrier × Nat => e.1.owner) (·.2) (presentOperators_nodup entries) entries
  rwa [List.filter_eq_self.2 fun e he => decide_eq_true (owner_mem_presentOperators he)] at grouped

theorem firstPass_le_demand (l : Link) : firstPass budget entries weights l ≤ demand entries l := Nat.min_le_left _ _

theorem firstPass_sum_le : ((presentOperators entries).map fun l => firstPass budget entries weights l).sum ≤ budget :=
  (sum_map_le _ fun _ _ => Nat.min_le_right _ _).trans (guaranteed_sum_le budget entries weights)

/-- What the first pass gives and what it leaves wanting are all the requests. -/
theorem firstPass_add_excess_sum :
    ((presentOperators entries).map fun l => firstPass budget entries weights l).sum +
      ((presentOperators entries).map fun l => excess budget entries weights l).sum = (entries.map (·.2)).sum := by
  rw [← demand_sum, ← List.sum_map_add]
  exact congrArg List.sum (List.map_congr_left fun l _ => Nat.add_sub_cancel' (firstPass_le_demand budget entries weights l))

variable {budget entries} (scarce : budget < (entries.map (·.2)).sum)
include scarce

/-- Where the requests do not fit, the surplus is less than what is still wanted. -/
theorem surplus_lt_excess_sum :
    surplus budget entries weights < ((presentOperators entries).map fun l => excess budget entries weights l).sum := by
  have all := firstPass_add_excess_sum budget entries weights
  have given := firstPass_sum_le budget entries weights
  unfold surplus
  omega

/-- No operator is given an extra beyond its excess (R58). -/
theorem extra_le_excess (l : Link) :
    surplus budget entries weights * excess budget entries weights l /
      ((presentOperators entries).map fun k => excess budget entries weights k).sum ≤ excess budget entries weights l :=
  Nat.div_le_of_le_mul (Nat.mul_le_mul_right _ (surplus_lt_excess_sum weights scarce).le)

/-- No allotment is beyond its demand (R58). -/
theorem allotment_le_demand (l : Link) : allotment budget entries weights l ≤ demand entries l :=
  calc allotment budget entries weights l
    _ ≤ firstPass budget entries weights l + excess budget entries weights l :=
        Nat.add_le_add_left (extra_le_excess weights scarce l) _
    _ = demand entries l := Nat.add_sub_cancel' (firstPass_le_demand budget entries weights l)

/-- A grant is the floor of its share of the operator's allotment. -/
theorem grantOf_of_scarce (e : Carrier × Nat) :
    grantOf budget entries weights e = e.2 * allotment budget entries weights e.1.owner / demand entries e.1.owner :=
  if_neg (Nat.not_le.2 scarce)

theorem grantOf_le_request (e : Carrier × Nat) : grantOf budget entries weights e ≤ e.2 := by
  rw [grantOf_of_scarce weights scarce, Nat.mul_comm]
  exact Nat.div_le_of_le_mul (Nat.mul_le_mul_right _ (allotment_le_demand weights scarce _))

/-- The grants of an operator stay within its allotment. -/
theorem grantOf_operator_sum_le (l : Link) :
    ((entries.filter fun e => decide (e.1.owner = l)).map (grantOf budget entries weights)).sum ≤
      allotment budget entries weights l := by
  have shares := sum_share_le_whole (fun e : Carrier × Nat => e.2) (allotment budget entries weights l)
    (entries.filter fun e => decide (e.1.owner = l))
  refine (sum_map_le _ fun e he => ?_).trans shares
  have owner : e.1.owner = l := of_decide_eq_true (List.mem_filter.1 he).2
  rw [grantOf_of_scarce weights scarce, owner, Nat.mul_comm]
  exact le_rfl

end

theorem allotment_of_no_budget (entries : List (Carrier × Nat)) (weights : Vector Nat 4) (l : Link) :
    allotment 0 entries weights l = 0 := by
  have portion : guaranteed 0 entries weights l = 0 := by simp [guaranteed]
  simp [allotment, firstPass, surplus, portion]

/-- Settles O11: what the first pass leaves is less than what is still wanted, so no extra goes beyond its excess and no
allotment beyond its demand. -/
theorem theDivisionFollowsBothPasses : Obligations.TheDivisionFollowsBothPasses := by
  unfold Obligations.TheDivisionFollowsBothPasses
  intro budget entries weights present total demands portion first left beyond extra final grant scarce
  refine ⟨guaranteed_sum_le budget entries weights, firstPass_sum_le budget entries weights, surplus_lt_excess_sum weights scarce,
    fun l _ => ⟨fun fits => ?_, extra_le_excess weights scarce l, allotment_le_demand weights scarce l,
      grantOf_operator_sum_le weights scarce l⟩,
    fun e _ => ⟨grantOf_of_scarce weights scarce e, grantOf_le_request weights scarce e, fun none => ?_⟩,
    grantOf_sum_le budget entries weights⟩
  · have served : first l = demands l := Nat.min_eq_left fits
    have content : beyond l = 0 := Nat.sub_eq_zero_of_le served.ge
    exact ⟨served, content, by simp only [extra, content, Nat.mul_zero, Nat.zero_div]⟩
  · refine (grantOf_of_scarce weights scarce e).trans ?_
    obtain rfl | small := none
    · rw [allotment_of_no_budget, Nat.mul_zero, Nat.zero_div]
    · exact Nat.div_eq_of_lt small

/-! ## Requests that fit (R56) -/

/-- Where the requests fit, each is granted whatever the weights. -/
theorem grantOf_of_fits {budget : Nat} {entries : List (Carrier × Nat)} (fits : (entries.map (·.2)).sum ≤ budget)
    (weights : Vector Nat 4) (e : Carrier × Nat) : grantOf budget entries weights e = e.2 :=
  if_pos fits

/-! ## The choice of a step (R59, R60) -/

/-- The step chosen is the smallest whose power is within the grant. -/
theorem chooseStep_eq_some_iff (request grant : Nat) (k : Fin 32) :
    chooseStep request grant = some k ↔
      request * powerFactor k ≤ grant * 65536 ∧ ∀ j : Fin 32, j < k → grant * 65536 < request * powerFactor j := by
  rw [chooseStep, find?_ascending (List.pairwise_lt_finRange 32)]
  simp only [List.mem_finRange, true_and, decide_eq_true_eq]
  exact and_congr_right fun _ => forall_congr' fun j =>
    ⟨fun least below => not_le.1 fun within => absurd below (not_lt.2 (least within)),
      fun beyond within => not_lt.1 fun below => absurd within (not_le.2 (beyond below))⟩

theorem powerFactor_least : ∀ k : Fin 32, powerFactor 31 ≤ powerFactor k := by decide

/-- There is no step exactly when the power of step 31 is beyond the grant. -/
theorem chooseStep_eq_none_iff (request grant : Nat) :
    chooseStep request grant = none ↔ grant * 65536 < request * powerFactor 31 := by
  simp only [chooseStep, List.find?_eq_none, List.mem_finRange, true_implies, decide_eq_true_eq, not_le]
  exact ⟨fun beyond => beyond 31, fun last k => last.trans_le (Nat.mul_le_mul_left _ (powerFactor_least k))⟩

theorem chooseStep_full (request : Nat) : chooseStep request request = some 0 :=
  (chooseStep_eq_some_iff request request 0).2 ⟨le_rfl, fun j below => absurd below (Fin.not_lt_zero j)⟩

theorem chooseStep_of_no_grant {request : Nat} (asked : 0 < request) : chooseStep request 0 = none :=
  (chooseStep_eq_none_iff request 0).2 (by
    rw [Nat.zero_mul]
    exact Nat.mul_pos asked (by decide))

/-- Settles O12: a fitting request is granted in full, and step 0 has the power of the request itself. -/
theorem requestsThatFitAreGrantedInFull : Obligations.RequestsThatFitAreGrantedInFull := by
  unfold Obligations.RequestsThatFitAreGrantedInFull
  intro budget entries weights fits
  have full := grantOf_of_fits fits weights
  refine ⟨fun e _ => ⟨full e, ?_⟩, ?_⟩
  · rw [full]
    exact chooseStep_full e.2
  · rw [List.map_congr_left fun e _ => full e]

end Sys2Proof.Machine
end

section
/-! PROOF of O15: SET_BUDGET and SET_WEIGHT. -/

namespace Sys2Proof.Machine

open Sys2Proof

/-- A request answered in one message, on a ready port: the owner's new state with the reply. -/
theorem request_direct_reply {s t : State} {p : Port} {r : Request} {x : Status} {contents : List Byte} (h : s.ready p 1 = true)
    (hr : r.direct) (ht : r.type < 128) (hc : contents.length ≤ 61) (hs : carryOut p r (s.taken p r) = (t, .reply x contents))
    (hp : t.ports = (s.taken p r).ports) :
    s.request p r = { t with ports := s.replied p [replyTo r.type x contents] } := by
  have one := replyMessages_reply ht x hc
  rw [request_direct s t p r (.reply x contents) (by rwa [one]) hr.sound hr.ungranted hr.carried hs (by rw [hp]) nofun, one, hp]
  simp [State.taken, State.modPort, State.replied]

/-- A recompute asked for on a new nominal budget is one that the head was asked for before it. -/
theorem askedFor_of_nominal {s u t : State} {h : Head} {n : Nat} (e : u.power[h] = { s.power[h] with nominal := n })
    (asked : u.askedFor t h) : s.askedFor t h := by
  unfold State.askedFor at asked ⊢
  rwa [e] at asked

/-! ## SET_BUDGET (R45) -/

/-- The state with a nominal budget stored, and a recompute asked for where it changes (R45). -/
def State.budgeted (s : State) (h : Head) (n : Nat) : State :=
  if s.power[h].nominal = n then s else (s.modPower h fun q => { q with nominal := n }).requestRecompute h

theorem setBudget_carried (u : State) (h : Head) (b : Half) :
    carryOut Port.mp (.setBudget (byteOf h) b) u =
      (u.budgeted h (min 8000 b.toNat), .reply .ok (byte1 h.val ++ byte2 (min 8000 b.toNat))) := by
  change serveSetBudget Port.mp (byteOf h) b u = _
  rw [serveSetBudget, indexOf_byteOf (by decide : 16 ≤ 256)]
  rfl

theorem budgeted_eq (s : State) (h : Head) (n : Nat) : s.budgeted h n = { s with power := (s.budgeted h n).power } := by
  unfold State.budgeted
  split
  · rfl
  · rw [requestRecompute_eq]
    rfl

theorem budgeted_power_same {s : State} {h : Head} {n : Nat} (e : s.power[h].nominal = n) : (s.budgeted h n).power = s.power := by
  rw [State.budgeted, if_pos e]

/-- What a changed nominal budget makes of the recompute states: the head's is asked for on the new value. -/
theorem budgeted_power {s : State} {h : Head} {n : Nat} (ne : s.power[h].nominal ≠ n) (g : Head) :
    (s.budgeted h n).power[g] =
      if g = h then ({ s.power[h] with nominal := n } : PowerHead).requested
        ((s.modPower h fun q => { q with nominal := n }).snapshot h)
      else s.power[g] := by
  rw [State.budgeted, if_neg ne, requestRecompute_power, modPower_power, modPower_power, if_pos rfl]
  split <;> rfl

theorem budgeted_nominal (s : State) (h : Head) (n : Nat) : (s.budgeted h n).power[h].nominal = n := by
  by_cases e : s.power[h].nominal = n
  · rw [budgeted_power_same e, e]
  · rw [budgeted_power e, if_pos rfl, requested_nominal]

theorem budgeted_effective (s : State) (h : Head) (n : Nat) : (s.budgeted h n).power[h].effective = s.power[h].effective := by
  by_cases e : s.power[h].nominal = n
  · rw [budgeted_power_same e]
  · rw [budgeted_power e, if_pos rfl, requested_effective]

theorem budgeted_power_other (s : State) {g h : Head} (hg : g ≠ h) (n : Nat) : (s.budgeted h n).power[g] = s.power[g] := by
  by_cases e : s.power[h].nominal = n
  · rw [budgeted_power_same e]
  · rw [budgeted_power e, if_neg hg]

/-- A changed nominal budget asks for a recompute, also of a state that differs in its ports alone. -/
theorem budgeted_asked {s : State} {h : Head} {n : Nat} (ne : s.power[h].nominal ≠ n) (ports : Vector PortRecord 5) :
    s.askedFor { s with power := (s.budgeted h n).power, ports := ports } h := by
  let stored := s.modPower h fun q => { q with nominal := n }
  have own : stored.power[h] = { s.power[h] with nominal := n } := by rw [modPower_power, if_pos rfl]
  have asked := budgeted_power ne h
  rw [if_pos rfl, ← own] at asked
  have entries : stored.sameEntries { s with power := (s.budgeted h n).power, ports := ports } h :=
    ⟨rfl, rfl, rfl, rfl, fun _ => rfl, rfl, (budgeted_nominal s h n).trans (congrArg PowerHead.nominal own).symm⟩
  exact askedFor_of_nominal own (askedFor_of_requested asked (takenOf_congr entries (snapshot_takenOf stored h)))

/-! ## SET_WEIGHT (R46) -/

/-- The heads that carry a placement of an operator. -/
def State.headsOf (s : State) (l : Link) : List Head :=
  allHeads.filter fun h => (s.placementsOn h).any fun q => decide (q.carrier.owner = l)

/-- The state with a weight stored, and recomputes asked for where it changes (R46). -/
def State.weighted (s : State) (l : Link) (w : Nat) : State :=
  if s.weights[l] = w then s else forAll (s.headsOf l) (fun h u => u.requestRecompute h) (s.setWeight l w)

theorem mem_headsOf (s : State) (l : Link) (h : Head) :
    h ∈ s.headsOf l ↔ ∃ p ∈ s.placements, p.head = h ∧ p.carrier.owner = l := by
  simp [State.headsOf, State.placementsOn, allHeads]

theorem headsOf_nodup (s : State) (l : Link) : (s.headsOf l).Nodup := (List.nodup_finRange 16).filter _

theorem setWeight_carried (u : State) (l : Link) (w : Byte) :
    carryOut Port.mp (.setWeight (byteOf l) w) u = (u.weighted l w.toNat, .reply .ok (byte1 l.val ++ byte1 w.toNat)) := by
  change serveSetWeight Port.mp (byteOf l) w u = _
  rw [serveSetWeight, indexOf_byteOf (by decide : 4 ≤ 256)]
  have unclamped : min 255 w.toNat = w.toNat := Nat.min_eq_right (Nat.le_of_lt_succ w.isLt)
  simp only [unclamped]
  rfl

theorem weighted_eq (s : State) (l : Link) (w : Nat) :
    s.weighted l w = { s with power := (s.weighted l w).power, weights := s.weights.set l w } := by
  unfold State.weighted
  split
  · next e =>
    subst e
    simp
  · conv_lhs => rw [requestAll_eq]
    rfl

theorem weighted_power_same {s : State} {l : Link} {w : Nat} (e : s.weights[l] = w) : (s.weighted l w).power = s.power := by
  rw [State.weighted, if_pos e]

/-- What a changed weight makes of the recompute states: those of the operator's heads are asked for on the new value. -/
theorem weighted_power {s : State} {l : Link} {w : Nat} (ne : s.weights[l] ≠ w) (h : Head) :
    (s.weighted l w).power[h] = if h ∈ s.headsOf l then s.power[h].requested ((s.setWeight l w).snapshot h) else s.power[h] := by
  rw [State.weighted, if_neg ne, requestAll_power (headsOf_nodup s l)]
  rfl

/-- A changed weight asks for a recompute of each head of the operator, also of a state that differs in its ports alone. -/
theorem weighted_asked {s : State} {l : Link} {w : Nat} (ne : s.weights[l] ≠ w) {h : Head} (hh : h ∈ s.headsOf l)
    (ports : Vector PortRecord 5) :
    s.askedFor { s with power := (s.weighted l w).power, weights := s.weights.set l w, ports := ports } h := by
  have asked := weighted_power ne h
  rw [if_pos hh] at asked
  have entries : (s.setWeight l w).sameEntries
      { s with power := (s.weighted l w).power, weights := s.weights.set l w, ports := ports } h :=
    ⟨rfl, rfl, rfl, rfl, fun _ => rfl, rfl, (congrArg PowerHead.nominal asked).trans (requested_nominal _ _)⟩
  exact askedFor_of_requested asked (takenOf_congr entries (snapshot_takenOf (s.setWeight l w) h))

/-- Settles O15: each request stores its value and asks the heads that it concerns for a recompute, where the value changes. -/
theorem budgetsAndWeightsAreStoredAndRecomputed : Obligations.BudgetsAndWeightsAreStoredAndRecomputed := by
  unfold Obligations.BudgetsAndWeightsAreStoredAndRecomputed
  intro s ready
  constructor
  · intro h b
    let u := s.taken Port.mp (.setBudget (byteOf h) b)
    have frame := budgeted_eq u h (min 8000 b.toNat)
    have direct : (Request.setBudget (byteOf h) b).direct :=
      ⟨rfl, rfl, congrArg (Request.setBudget _) (half_halfBytes b)⟩
    have request := request_direct_reply ready direct (by simp [Request.type]) (by simp) (setBudget_carried u h b) (by rw [frame])
    rw [frame] at request
    exact ⟨_, congrArg Host.Outcome.next request, rfl, budgeted_nominal u h _, budgeted_effective u h _,
      fun g hg => budgeted_power_other u hg _, fun same => budgeted_power_same (s := u) same,
      fun ne => budgeted_asked (s := u) ne _⟩
  · intro l w
    let u := s.taken Port.mp (.setWeight (byteOf l) w)
    have frame := weighted_eq u l w.toNat
    have request := request_direct_reply ready ⟨rfl, rfl, rfl⟩ (by simp [Request.type]) (by simp) (setWeight_carried u l w)
      (by rw [frame])
    rw [frame] at request
    refine ⟨_, congrArg Host.Outcome.next request, rfl, fun same => weighted_power_same (s := u) same, fun ne h =>
      ⟨fun mine => weighted_asked (s := u) ne ((mem_headsOf u l h).2 mine) _, fun others => ?_⟩⟩
    refine (weighted_power (s := u) ne h).trans (if_neg fun mine => ?_)
    obtain ⟨p, hp, head, owner⟩ := (mem_headsOf u l h).1 mine
    exact others p hp head owner

end Sys2Proof.Machine
end

section
/-! SUPPORT. The installation of a recompute's results: placements, log and recompute state (R31, R50, R52, R60, R62, R67). -/

namespace Sys2Proof.Machine

open Sys2Proof

/-! ## One placement -/

/-- A placement with a grant, a step and a request installed: with no step it is STARVED, on step 31 (R31, R52, R60, R67). -/
def Placement.given (p : Placement) (request grant : Nat) : Option (Fin 32) → Placement
  | none => { p with grant := grant, step := 31, outcome := .starved, basis := some request, inUse := 31 }
  | some k => { p with grant := grant, step := k, outcome := .radiating, basis := some request, inUse := k }

/-- A placement with the results of an entry installed. -/
def Placement.granted (p : Placement) (x : Snapshot) (e : Carrier × Nat) : Placement :=
  p.given e.2 (grantOf x.budget x.entries x.weights e) (chooseStep e.2 (grantOf x.budget x.entries x.weights e))

/-- A placement with the results of the entry of its carrier, where a list of entries has one. -/
def Placement.grantedBy (p : Placement) (x : Snapshot) (l : List (Carrier × Nat)) : Placement :=
  match l.find? (fun e => decide (e.1 = p.carrier)) with
  | none => p
  | some e => p.granted x e

/-- The completion of a recompute of head h writes a placement: one of the head that has stayed eligible (R52). -/
def State.writes (s : State) (h : Head) (x : Snapshot) (p : Placement) : Bool :=
  decide (p.head = h) && x.writable.contains p.carrier && s.eligible p

theorem given_eq (p : Placement) (request grant : Nat) (step : Option (Fin 32)) :
    p.given request grant step =
      { p with grant := grant, step := step.getD 31, outcome := if step.isSome then .radiating else .starved
               basis := some request, inUse := step.getD 31 } := by
  cases step <;> rfl

theorem given_grant (p : Placement) (request grant : Nat) (step : Option (Fin 32)) : (p.given request grant step).grant = grant := by
  cases step <;> rfl

theorem given_verdict (p : Placement) (request grant : Nat) (step : Option (Fin 32)) :
    (p.given request grant step).verdict = p.verdict := by
  cases step <;> rfl

theorem granted_grant (p : Placement) (x : Snapshot) (e : Carrier × Nat) :
    (p.granted x e).grant = grantOf x.budget x.entries x.weights e := given_grant _ _ _ _

theorem granted_verdict (p : Placement) (x : Snapshot) (e : Carrier × Nat) : (p.granted x e).verdict = p.verdict :=
  given_verdict _ _ _ _

theorem carrier_of_verdict {p q : Placement} (e : p.verdict = q.verdict) : p.carrier = q.carrier :=
  (Prod.mk.inj (Prod.mk.inj e).2).1

theorem granted_carrier (p : Placement) (x : Snapshot) (e : Carrier × Nat) : (p.granted x e).carrier = p.carrier :=
  carrier_of_verdict (granted_verdict p x e)

theorem grantedBy_of_none {p : Placement} {x : Snapshot} {l : List (Carrier × Nat)} (none : p.carrier ∉ l.map (·.1)) :
    p.grantedBy x l = p := by
  have : l.find? (fun e => decide (e.1 = p.carrier)) = .none :=
    List.find?_eq_none.2 fun e he key => none (List.mem_map.2 ⟨e, he, of_decide_eq_true key⟩)
  rw [Placement.grantedBy, this]

/-- Where no two entries have one carrier, a placement takes the results of the entry of its carrier. -/
theorem grantedBy_of_mem {p : Placement} {x : Snapshot} {l : List (Carrier × Nat)} (once : (l.map (·.1)).Nodup)
    {e : Carrier × Nat} (he : e ∈ l) (key : e.1 = p.carrier) : p.grantedBy x l = p.granted x e := by
  cases found : l.find? (fun e => decide (e.1 = p.carrier)) with
  | none => exact absurd (decide_eq_true key) (List.find?_eq_none.1 found e he)
  | some e' =>
    have key' : e'.1 = p.carrier := of_decide_eq_true (List.find?_some (p := fun e : Carrier × Nat => decide (e.1 = p.carrier)) found)
    obtain rfl : e' = e := List.inj_on_of_nodup_map once (List.mem_of_find?_eq_some found) he (key'.trans key.symm)
    rw [Placement.grantedBy, found]

/-- What an entry ahead of a list gives a placement. -/
theorem grantedBy_cons (p : Placement) (x : Snapshot) (e : Carrier × Nat) (l : List (Carrier × Nat)) :
    p.grantedBy x (e :: l) = if e.1 = p.carrier then p.granted x e else p.grantedBy x l := by
  unfold Placement.grantedBy
  by_cases key : e.1 = p.carrier
  · rw [List.find?_cons, decide_eq_true key, if_pos key]
  · rw [List.find?_cons, decide_eq_false key, if_neg key]

theorem writes_of_verdict (s : State) (h : Head) (x : Snapshot) {p q : Placement} (e : q.verdict = p.verdict) :
    s.writes h x q = s.writes h x p := by
  have eligible := eligible_of_verdict s e
  simp only [Placement.verdict, Prod.mk.injEq] at e
  rw [State.writes, State.writes, eligible, e.1, e.2.1]

theorem writes_of_eligible {s t : State} (e : t.eligible = s.eligible) (h : Head) (x : Snapshot) : t.writes h x = s.writes h x := by
  funext p
  rw [State.writes, State.writes, e]

theorem head_of_writes {s : State} {h : Head} {x : Snapshot} {p : Placement} (e : s.writes h x p = true) : p.head = h := by
  simp only [State.writes, Bool.and_eq_true, decide_eq_true_eq] at e
  exact e.1.1

/-! ## One entry -/

/-- CARRIER_STARVED as the installation of a placement on head h hands it on: raised with the grant where the placement becomes
STARVED, cleared where it ceases to be (R62). -/
def State.starvationTold (t : State) (h : Head) (before after : Placement) : State :=
  if after.outcome = .starved ∧ before.outcome ≠ .starved then
    t.raise .carrierStarved (.carrierHead before.carrier h) after.grant
  else if after.outcome ≠ .starved ∧ before.outcome = .starved then t.clear .carrierStarved (.carrierHead before.carrier h)
  else t

theorem starvationTold_same {t : State} {h : Head} {before after : Placement}
    (e : after.outcome = .starved ↔ before.outcome = .starved) : t.starvationTold h before after = t := by
  rw [State.starvationTold, if_neg fun x => x.2 (e.1 x.1), if_neg fun x => x.1 (e.2 x.2)]

theorem starvationTold_sansLog (t : State) (h : Head) (before after : Placement) :
    (t.starvationTold h before after).sansLog = t.sansLog := by
  unfold State.starvationTold
  split
  · exact raise_sansLog _ _ _ _
  · split
    · exact clear_sansLog _ _ _ _
    · rfl

theorem starvationTold_placements (t : State) (h : Head) (before after : Placement) :
    (t.starvationTold h before after).placements = t.placements :=
  (congrArg State.placements (starvationTold_sansLog t h before after) :)

/-- The alarm that the installation of a carrier's entry on head h may raise or clear. -/
def starvationOf (h : Head) (c : Carrier) (k : AlarmKind) (x : Subject) : Prop := k = .carrierStarved ∧ x = .carrierHead c h

theorem starvationTold_handsOn (t : State) (h : Head) (before after : Placement) :
    t.handsOn (starvationOf h before.carrier) (starvationOf h before.carrier) (t.starvationTold h before after) := by
  unfold State.starvationTold
  split
  · exact .raise .start _ _ _ ⟨rfl, rfl⟩
  · split
    · exact .clear .start _ _ _ ⟨rfl, rfl⟩
    · exact .start

/-- What the log then holds of CARRIER_STARVED, against that of an earlier state (R62). -/
theorem starvationTold_told {s t : State} (logged : t.log.unique) (drops : s.log.dropsOnto t.log)
    (frame : t.timing.frame = s.timing.frame) (h : Head) (before after : Placement) :
    (after.outcome = .starved → before.outcome ≠ .starved →
      s.log.raised (t.starvationTold h before after).log .carrierStarved (.carrierHead before.carrier h) s.timing.frame after.grant) ∧
    (after.outcome ≠ .starved → before.outcome = .starved →
      (t.starvationTold h before after).log.quiet .carrierStarved (.carrierHead before.carrier h)) := by
  refine ⟨fun starved fed => ?_, fun fed starved => ?_⟩
  · rw [State.starvationTold, if_pos ⟨starved, fed⟩]
    exact raised_raise rfl _ _ drops frame
  · rw [State.starvationTold, if_neg fun both => fed both.1, if_pos ⟨fed, starved⟩]
    exact quiet_clear logged rfl _ none

/-- What the installation of an entry does: nothing where no placement of its carrier is written, and else the results with what
they mean for CARRIER_STARVED. -/
theorem installEntry_cases {s : State} (unique : s.keys.Nodup) (h : Head) (x : Snapshot) (e : Carrier × Nat) :
    ((∀ p ∈ s.placements, p.carrier = e.1 → s.writes h x p = false) ∧ s.installEntry h x e = s) ∨
    ∃ p ∈ s.placements, p.carrier = e.1 ∧ s.writes h x p = true ∧
      s.installEntry h x e = (s.modPlacement h e.1 fun q => q.granted x e).starvationTold h p (p.granted x e) := by
  unfold State.installEntry
  split
  · next none =>
    refine .inl ⟨fun p hp key => Bool.eq_false_iff.2 fun w => ?_, rfl⟩
    have found := (placement_eq_some_iff unique).2 ⟨hp, head_of_writes w, key⟩
    rw [none] at found
    cases found
  · next p found =>
    obtain ⟨mem, head, carrier⟩ := (placement_eq_some_iff unique).1 found
    have written : s.writes h x p = (x.writable.contains e.1 && s.eligible p) := by
      rw [State.writes, decide_eq_true head, carrier, Bool.true_and]
    split
    · next may =>
      refine .inr ⟨p, mem, carrier, written.trans may, ?_⟩
      simp only [State.starvationTold, Placement.granted, given_eq, carrier]
    · next out =>
      refine .inl ⟨fun q hq key => Bool.eq_false_iff.2 fun w => out ?_, rfl⟩
      have same := found.symm.trans ((placement_eq_some_iff unique).2 ⟨hq, head_of_writes w, key⟩)
      cases same
      exact written.symm.trans w

/-- The installation of an entry on the placement that it is about. -/
theorem installEntry_of_writes {s : State} (unique : s.keys.Nodup) {h : Head} {x : Snapshot} {e : Carrier × Nat} {p : Placement}
    (hp : p ∈ s.placements) (written : s.writes h x p = true) (key : e.1 = p.carrier) :
    s.installEntry h x e = (s.modPlacement h e.1 fun q => q.granted x e).starvationTold h p (p.granted x e) := by
  obtain ⟨none, -⟩ | ⟨q, hq, carrier, written', installed⟩ := installEntry_cases unique h x e
  · rw [none p hp key.symm] at written
    cases written
  · obtain rfl : q = p := List.inj_on_of_nodup_map unique hq hp
      (Prod.ext ((head_of_writes written').trans (head_of_writes written).symm) (carrier.trans key))
    exact installed

theorem installEntry_placements {s : State} (unique : s.keys.Nodup) (h : Head) (x : Snapshot) (e : Carrier × Nat) :
    (s.installEntry h x e).placements =
      s.placements.map fun p => if s.writes h x p = true ∧ e.1 = p.carrier then p.granted x e else p := by
  obtain ⟨none, unchanged⟩ | ⟨p, hp, carrier, written, installed⟩ := installEntry_cases unique h x e
  · rw [unchanged]
    refine (List.map_id _).symm.trans (List.map_congr_left fun q hq => (if_neg fun key => ?_).symm)
    exact absurd key.1 (Bool.eq_false_iff.1 (none q hq key.2.symm))
  · rw [installed]
    refine (starvationTold_placements _ _ _ _).trans (List.map_congr_left fun q hq => ?_)
    refine if_congr ⟨fun key => ?_, fun key => ⟨head_of_writes key.1, key.2.symm⟩⟩ rfl rfl
    have same : p = q := List.inj_on_of_nodup_map unique hp hq
      (Prod.ext ((head_of_writes written).trans key.1.symm) (carrier.trans key.2.symm))
    exact ⟨same ▸ written, key.2.symm⟩

theorem installEntry_keys (s : State) (h : Head) (x : Snapshot) (e : Carrier × Nat) : (s.installEntry h x e).keys = s.keys :=
  keys_of_verdicts (installEntry_verdicts s h x e)

theorem installEntry_writes (s : State) (h : Head) (x : Snapshot) (e : Carrier × Nat) :
    (s.installEntry h x e).writes h x = s.writes h x :=
  writes_of_eligible (installEntry_eligible s h x e) h x

theorem installEntry_handsOn {s : State} (unique : s.keys.Nodup) (h : Head) (x : Snapshot) (e : Carrier × Nat) :
    s.handsOn (starvationOf h e.1) (starvationOf h e.1) (s.installEntry h x e) := by
  obtain ⟨-, unchanged⟩ | ⟨p, -, carrier, -, installed⟩ := installEntry_cases unique h x e
  · rw [unchanged]
    exact .start
  · rw [installed, ← carrier]
    exact handsOn_trans (handsOn_silent (t := s.modPlacement h p.carrier _) rfl rfl rfl fun _ => rfl) (starvationTold_handsOn _ _ _ _)

/-! ## Entries one after another -/

/-- The entries of a list installed one after another, whatever the snapshot's own entries are. -/
def State.installAll (s : State) (h : Head) (x : Snapshot) (l : List (Carrier × Nat)) : State :=
  forAll l (fun e u => u.installEntry h x e) s

theorem installAll_append (s : State) (h : Head) (x : Snapshot) (e : Carrier × Nat) (before after : List (Carrier × Nat)) :
    s.installAll h x (before ++ e :: after) = ((s.installAll h x before).installEntry h x e).installAll h x after :=
  List.foldl_append

section
variable {s : State} (unique : s.keys.Nodup) (h : Head) (x : Snapshot) (l : List (Carrier × Nat))

theorem installAll_keys (s : State) : (s.installAll h x l).keys = s.keys :=
  forAll_keeps State.keys _ (fun e u => installEntry_keys u h x e) l s

theorem installAll_writes (s : State) : (s.installAll h x l).writes h x = s.writes h x :=
  forAll_keeps (fun u => State.writes u h x) _ (fun e u => installEntry_writes u h x e) l s

theorem installAll_power (s : State) : (s.installAll h x l).power = s.power :=
  forAll_keeps State.power _ (fun e u => installEntry_power u h x e) l s

include unique

theorem installAll_handsOn :
    s.handsOn (fun k y => ∃ e ∈ l, starvationOf h e.1 k y) (fun k y => ∃ e ∈ l, starvationOf h e.1 k y) (s.installAll h x l) := by
  induction l generalizing s with
  | nil => exact .start
  | cons e l ih =>
    have later := ih (s := s.installEntry h x e) (installEntry_keys s h x e ▸ unique)
    refine handsOn_trans (handsOn_mono (installEntry_handsOn unique h x e) ?_ ?_) (handsOn_mono later ?_ ?_)
    · exact fun k y told => ⟨e, List.mem_cons_self, told⟩
    · exact fun k y told => ⟨e, List.mem_cons_self, told⟩
    · exact fun k y ⟨e', he', told⟩ => ⟨e', List.mem_cons_of_mem e he', told⟩
    · exact fun k y ⟨e', he', told⟩ => ⟨e', List.mem_cons_of_mem e he', told⟩

/-- What the installation makes of the placements, where no two entries have one carrier. -/
theorem installAll_placements (once : (l.map (·.1)).Nodup) :
    (s.installAll h x l).placements = s.placements.map fun p => if s.writes h x p = true then p.grantedBy x l else p := by
  induction l generalizing s with
  | nil =>
    refine (List.map_id _).symm.trans (List.map_congr_left fun p _ => ?_)
    rw [grantedBy_of_none List.not_mem_nil, ite_self]
    rfl
  | cons e l ih =>
    obtain ⟨new, once⟩ := List.nodup_cons.1 once
    refine (ih (s := s.installEntry h x e) (installEntry_keys s h x e ▸ unique) once).trans ?_
    rw [installEntry_writes, installEntry_placements unique, List.map_map]
    refine List.map_congr_left fun p _ => ?_
    have moved : s.writes h x (if s.writes h x p = true ∧ e.1 = p.carrier then p.granted x e else p) = s.writes h x p :=
      writes_of_verdict s h x (by
        split
        · exact granted_verdict p x e
        · rfl)
    rw [Function.comp_apply, moved]
    by_cases written : s.writes h x p = true
    · rw [if_pos written, if_pos written, grantedBy_cons]
      by_cases key : e.1 = p.carrier
      · rw [if_pos ⟨written, key⟩, if_pos key, grantedBy_of_none (by rwa [granted_carrier, ← key])]
      · rw [if_neg fun both => key both.2, if_neg key]
    · rw [if_neg written, if_neg written, if_neg fun both => written both.1]

/-- Where no outcome becomes STARVED or ceases to be, log and ports are untouched (R62). -/
theorem installAll_untold (once : (l.map (·.1)).Nodup)
    (same : ∀ p ∈ s.placements, s.writes h x p = true → ∀ e ∈ l, e.1 = p.carrier →
      ((p.granted x e).outcome = .starved ↔ p.outcome = .starved)) :
    (s.installAll h x l).log = s.log ∧ (s.installAll h x l).ports = s.ports := by
  induction l generalizing s with
  | nil => exact ⟨rfl, rfl⟩
  | cons e l ih =>
    obtain ⟨new, once⟩ := List.nodup_cons.1 once
    have first : (s.installEntry h x e).log = s.log ∧ (s.installEntry h x e).ports = s.ports := by
      obtain ⟨-, unchanged⟩ | ⟨p, hp, carrier, written, installed⟩ := installEntry_cases unique h x e
      · rw [unchanged]
        exact ⟨rfl, rfl⟩
      · rw [installed, starvationTold_same (same p hp written e List.mem_cons_self carrier.symm)]
        exact ⟨rfl, rfl⟩
    have later := ih (s := s.installEntry h x e) (installEntry_keys s h x e ▸ unique) once fun q hq written e' he' key => by
      rw [installEntry_placements unique] at hq
      rw [installEntry_writes] at written
      obtain ⟨p, hp, rfl⟩ := List.mem_map.1 hq
      split at key
      · rw [granted_carrier] at key
        next mine => exact absurd (List.mem_map.2 ⟨e', he', key.trans mine.2.symm⟩) new
      · next other =>
        rw [if_neg other] at written ⊢
        exact same p hp written e' (List.mem_cons_of_mem e he') key
    exact ⟨later.1.trans first.1, later.2.trans first.2⟩

end

/-- The alarms of the entries on one side of a carrier's entry are about other carriers. -/
theorem not_starvationOf_of_not_mem {h : Head} {c : Carrier} {l : List (Carrier × Nat)} (none : c ∉ l.map (·.1)) :
    ¬ ∃ e ∈ l, starvationOf h e.1 .carrierStarved (.carrierHead c h) := by
  rintro ⟨e, he, -, subject⟩
  injection subject with carrier
  exact none (List.mem_map.2 ⟨e, he, carrier.symm⟩)

/-- What the log is told of a placement that is written: CARRIER_STARVED is raised where it becomes STARVED, and not ACTIVE where
it ceases to be (R62). The entries ahead of the placement's own leave it as it is, and those behind spare its alarm. -/
theorem installAll_told {s : State} (unique : s.keys.Nodup) (logged : s.log.unique) {h : Head} {x : Snapshot}
    {l : List (Carrier × Nat)} (once : (l.map (·.1)).Nodup) {p : Placement} (hp : p ∈ s.placements)
    (written : s.writes h x p = true) :
    ((p.grantedBy x l).outcome = .starved → p.outcome ≠ .starved →
      s.log.raised (s.installAll h x l).log .carrierStarved (.carrierHead p.carrier h) s.timing.frame (p.grantedBy x l).grant) ∧
    ((p.grantedBy x l).outcome ≠ .starved → p.outcome = .starved →
      (s.installAll h x l).log.quiet .carrierStarved (.carrierHead p.carrier h)) := by
  by_cases listed : p.carrier ∈ l.map (·.1)
  · obtain ⟨e, he, key⟩ := List.mem_map.1 listed
    rw [grantedBy_of_mem once he key]
    obtain ⟨before, after, rfl⟩ := List.append_of_mem he
    rw [List.map_append, List.map_cons] at once
    obtain ⟨onceBefore, rest, apart⟩ := List.nodup_append.1 once
    have notBefore : p.carrier ∉ before.map (·.1) := fun mem => apart _ mem e.1 List.mem_cons_self key.symm
    have notAfter : p.carrier ∉ after.map (·.1) := key ▸ (List.nodup_cons.1 rest).1
    have unique' : (s.installAll h x before).keys.Nodup := installAll_keys h x before s ▸ unique
    have kept : p ∈ (s.installAll h x before).placements := by
      rw [installAll_placements unique h x before onceBefore]
      exact List.mem_map.2 ⟨p, hp, by rw [if_pos written, grantedBy_of_none notBefore]⟩
    have own := installEntry_of_writes unique' kept (by rwa [installAll_writes]) key
    have marked : s.handsOn _ _ ((s.installAll h x before).modPlacement h e.1 fun q => q.granted x e) :=
      .silent (installAll_handsOn unique h x before) rfl rfl rfl fun _ => rfl
    obtain ⟨raised, quiet⟩ := starvationTold_told (handsOn_unique marked logged) (handsOn_dropsOnto marked)
      (congrArg Timing.frame (handsOn_timing marked)) h p (p.granted x e)
    rw [← own] at raised quiet
    have behind := installAll_handsOn (installEntry_keys _ h x e ▸ unique') h x after
    have spared := handsOn_spares behind (k := .carrierStarved) (x := .carrierHead p.carrier h) (by decide)
      (not_starvationOf_of_not_mem notAfter) (not_starvationOf_of_not_mem notAfter)
    rw [installAll_append]
    exact ⟨fun starved fed => raised_spares (raised starved fed) spared (handsOn_dropsOnto behind),
      fun fed starved => quiet_spares (quiet fed starved) spared⟩
  · rw [grantedBy_of_none listed]
    exact ⟨fun starved fed => absurd starved fed, fun fed starved => absurd starved fed⟩

end Sys2Proof.Machine
end

section
/-! PROOF of O13: the table F, the choice of a step and RECOMPUTE_COMPLETE. -/

namespace Sys2Proof.Machine

open Sys2Proof

/-! ## The table (R59) -/

/-- Each factor is the nearest integer, in twentieth powers. -/
theorem powerFactor_nearest : ∀ k : Fin 32, (2 * powerFactor k - 1) ^ 20 * 10 ^ k.val ≤ 131072 ^ 20 ∧
    131072 ^ 20 ≤ (2 * powerFactor k + 1) ^ 20 * 10 ^ k.val := by decide

/-! ## The completion (R50, R52) -/

theorem budget_eq (x : Snapshot) :
    x.budget = if x.inService = true ∧ x.paOff = false then x.nominal * (8 - x.derate) / 8 else 0 := by
  simp [Snapshot.budget]

/-- The head is IDLE on the effective budget of a snapshot, with the snapshot's entries installed. -/
def State.installed (s : State) (h : Head) (x : Snapshot) : State :=
  (s.modPower h fun q => { q with effective := x.budget, running := none }).installAll h x x.entries

/-- A recompute of the head starts afresh. -/
def State.restarted (s : State) (h : Head) : State := (s.modPower h fun q => { q with again := false }).startRecompute h

theorem installed_power (s : State) (h g : Head) (x : Snapshot) :
    (s.installed h x).power[g] =
      if g = h then { s.power[h] with effective := x.budget, running := none } else s.power[g] := by
  rw [State.installed, installAll_power, modPower_power]

theorem completeRecompute_of_running {s : State} {h : Head} {x : Snapshot} (running : s.power[h].running = some x) :
    s.completeRecompute h = if s.power[h].again = true then (s.installed h x).restarted h else s.installed h x := by
  have again : (s.installed h x).power[h].again = s.power[h].again := by rw [installed_power, if_pos rfl]
  rw [← again, State.completeRecompute, running]
  rfl

/-- The state without what the completion of a recompute writes. -/
def State.sansResults (s : State) : State := { s.sansPower with placements := [] }

theorem eq_of_sansResults {s t : State} (e : t.sansResults = s.sansResults) :
    t = { s with placements := t.placements, power := t.power, log := t.log, ports := t.ports } :=
  congrArg (fun y : State => { y with placements := t.placements, power := t.power, log := t.log, ports := t.ports }) e

theorem sansResults_of_sansLog {s t : State} (e : t.sansLog = s.sansLog) : t.sansResults = s.sansResults :=
  congrArg (fun y : State => { y with placements := [] }) (sansPower_of_sansLog e)

theorem installEntry_sansResults (s : State) (h : Head) (x : Snapshot) (e : Carrier × Nat) :
    (s.installEntry h x e).sansResults = s.sansResults := by
  unfold State.installEntry
  split
  · rfl
  · split
    · extract_lets grant step outcome t
      have marked : t.sansResults = s.sansResults := rfl
      split
      · exact (sansResults_of_sansLog (raise_sansLog t _ _ _)).trans marked
      · split
        · exact (sansResults_of_sansLog (clear_sansLog t _ _ _)).trans marked
        · exact marked
    · rfl

theorem installed_sansResults (s : State) (h : Head) (x : Snapshot) : (s.installed h x).sansResults = s.sansResults :=
  forAll_keeps State.sansResults _ (fun e u => installEntry_sansResults u h x e) x.entries _

/-- A recompute that starts afresh works on a snapshot of what then stands (R50). -/
theorem restarted_power (s : State) (h : Head) : ∃ y : Snapshot, y.takenOf (s.restarted h) h ∧
    (s.restarted h).power[h] =
      { s.power[h] with again := false, running := some y, aged := false, snapDerate := y.derate, snapPaOff := y.paOff } := by
  let u := s.modPower h fun q => { q with again := false }
  have before : u.power[h] = { s.power[h] with again := false } := by rw [modPower_power, if_pos rfl]
  have own : (u.startRecompute h).power[h] =
      { u.power[h] with running := some (u.snapshot h), aged := false, snapDerate := (u.snapshot h).derate
                        snapPaOff := (u.snapshot h).paOff } := by
    rw [State.startRecompute, modPower_power, if_pos rfl]
  have entries : u.sameEntries (u.startRecompute h) h :=
    ⟨rfl, rfl, rfl, rfl, fun _ => rfl, rfl, (congrArg PowerHead.nominal own :)⟩
  refine ⟨u.snapshot h, takenOf_congr entries (snapshot_takenOf u h), own.trans ?_⟩
  rw [before]

/-- A completion installs the entries, and leaves the head IDLE or, where the again mark was set, running afresh (R50, R52). -/
theorem completeRecompute_installs {s : State} {h : Head} {x : Snapshot} (running : s.power[h].running = some x) :
    s.completeRecompute h = { s.installed h x with power := (s.completeRecompute h).power } ∧
    (s.power[h].again = false →
      (s.completeRecompute h).power[h] = { s.power[h] with effective := x.budget, running := none }) ∧
    (s.power[h].again = true → ∃ y : Snapshot, y.takenOf (s.completeRecompute h) h ∧
      (s.completeRecompute h).power[h] =
        { s.power[h] with effective := x.budget, again := false, running := some y, aged := false
                          snapDerate := y.derate, snapPaOff := y.paOff }) := by
  have own : (s.installed h x).power[h] = { s.power[h] with effective := x.budget, running := none } := by
    rw [installed_power, if_pos rfl]
  rw [completeRecompute_of_running running]
  cases again : s.power[h].again with
  | false => exact ⟨rfl, fun _ => own, nofun⟩
  | true =>
    obtain ⟨y, taken, fresh⟩ := restarted_power (s.installed h x) h
    refine ⟨rfl, nofun, fun _ => ⟨y, taken, fresh.trans ?_⟩⟩
    rw [own]

/-! ## The results -/

section
variable {s : State} {h : Head} {x : Snapshot} (unique : s.keys.Nodup) (once : (x.entries.map (·.1)).Nodup)
include unique once

theorem installed_placements :
    (s.installed h x).placements = s.placements.map fun p => if s.writes h x p = true then p.grantedBy x x.entries else p :=
  installAll_placements (s := s.modPower h _) unique h x x.entries once

/-- Log and ports are untouched where no outcome becomes STARVED or ceases to be (R62). -/
theorem installed_untold
    (same : ∀ p ∈ s.placements, s.writes h x p = true → ((p.grantedBy x x.entries).outcome = .starved ↔ p.outcome = .starved)) :
    (s.installed h x).log = s.log ∧ (s.installed h x).ports = s.ports :=
  installAll_untold (s := s.modPower h _) unique h x x.entries once fun p hp written _ he key =>
    grantedBy_of_mem once he key ▸ same p hp written

/-- Where every placement of the head that holds a grant is written, the grants add up to at most the budget (R61). -/
theorem installed_granted_le
    (held : ∀ p ∈ s.placementsOn h, p.grant ≠ 0 → s.writes h x p = true ∧ p.carrier ∈ x.entries.map (·.1)) :
    (s.installed h x).granted h ≤ x.budget := by
  have keys : (s.installed h x).keys = s.keys := installAll_keys h x x.entries _
  refine (granted_le_sum (keys ▸ unique) h _ x.entries fun q hq head => ?_).trans (grantOf_sum_le x.budget x.entries x.weights)
  rw [installed_placements unique once] at hq
  obtain ⟨p, hp, rfl⟩ := List.mem_map.1 hq
  by_cases given : s.writes h x p = true ∧ p.carrier ∈ x.entries.map (·.1)
  · obtain ⟨written, listed⟩ := given
    obtain ⟨e, he, key⟩ := List.mem_map.1 listed
    rw [if_pos written, grantedBy_of_mem once he key, granted_carrier, granted_grant]
    exact .inr ⟨e, he, key, rfl⟩
  · have kept : (if s.writes h x p = true then p.grantedBy x x.entries else p) = p := by
      split
      · next written => exact grantedBy_of_none fun listed => given ⟨written, listed⟩
      · rfl
    rw [kept] at head ⊢
    exact .inl (by_contra fun holds => given (held p (List.mem_filter.2 ⟨hp, decide_eq_true head⟩) holds))

end

/-- Settles O13: each entry is installed on its own placement, and a fresh recompute changes the recompute state alone. -/
theorem aRecomputeInstallsItsDivision : Obligations.ARecomputeInstallsItsDivision := by
  unfold Obligations.ARecomputeInstallsItsDivision
  refine ⟨powerFactor_nearest, fun request grant => ⟨chooseStep_eq_some_iff request grant, chooseStep_eq_none_iff request grant,
    chooseStep_of_no_grant⟩, fun s h awake => ?_⟩
  have step : exec (.recomputeComplete h) s = .next (s.completeRecompute h) := congrArg Host.Outcome.next (if_neg awake)
  refine ⟨fun idle => step.trans ?_, fun x running unique once => ?_⟩
  · rw [State.completeRecompute, idle]
  · intro budget written install
    have effective : budget = x.budget := (budget_eq x).symm
    clear_value budget
    subst effective
    have results : install = fun p => p.grantedBy x x.entries := funext fun p => by
      cases found : x.entries.find? (fun e => decide (e.1 = p.carrier)) with
      | none => simp only [install, Placement.grantedBy, found]
      | some e =>
        cases chosen : chooseStep e.2 (grantOf x.budget x.entries x.weights e) <;>
          simp only [install, Placement.grantedBy, Placement.granted, Placement.given, found, chosen]
    clear_value install
    subst results
    obtain ⟨whole, idle, fresh⟩ := completeRecompute_installs running
    have placements := (congrArg State.placements whole :).trans (installed_placements unique once)
    have log : (s.completeRecompute h).log = (s.installed h x).log := (congrArg State.log whole :)
    have ports : (s.completeRecompute h).ports = (s.installed h x).ports := (congrArg State.ports whole :)
    refine ⟨s.completeRecompute h, step, ?_, placements, fun g hg => completeRecompute_power_other s hg, idle, fresh,
      fun same => ?_, fun sound p hp w => ?_, fun held => ?_⟩
    · exact eq_of_sansResults ((congrArg State.sansResults whole).trans (installed_sansResults s h x))
    · rw [log, ports]
      exact installed_untold unique once same
    · rw [log]
      exact installAll_told (s := s.modPower h _) unique (unique_of_sound sound) once hp w
    · have granted : (s.completeRecompute h).granted h = (s.installed h x).granted h :=
        (congrArg (fun t : State => t.granted h) whole :)
      exact granted.trans_le (installed_granted_le unique once held)

end Sys2Proof.Machine
end

section
/-! SUPPORT. What raises look at, commands that take what is due, and the slips of elastic buffers (R73, R74). -/

namespace Sys2Proof.Machine

open Sys2Proof

/-! ## What a raise looks at -/

/-- Two states in which a raise does the same: they agree in the log, the operators' ports, the frame and the audiences. -/
structure State.hears (s t : State) : Prop where
  log : t.log = s.log
  ports : ∀ l : Link, t.ports[Port.ofLink l] = s.ports[Port.ofLink l]
  opened : ∀ l : Link, t.portOpen (Port.ofLink l) = s.portOpen (Port.ofLink l)
  frame : t.timing.frame = s.timing.frame
  audience : t.raiseAudience = s.raiseAudience

section
variable {s t : State}

theorem hears_setLog (h : s.hears t) (log : AlarmLog) : (s.setLog log).hears (t.setLog log) :=
  ⟨rfl, h.ports, h.opened, h.frame, h.audience⟩

theorem hears_sendUnsolicited (h : s.hears t) (l : Link) (m : Message) :
    (s.sendUnsolicited (Port.ofLink l) m).hears (t.sendUnsolicited (Port.ofLink l) m) := by
  have room : t.room (Port.ofLink l) 1 = s.room (Port.ofLink l) 1 := by rw [State.room, State.room, h.ports]
  unfold State.sendUnsolicited
  rw [h.opened, room]
  split
  · exact ⟨h.log, fun j => by rw [enqueue_port, enqueue_port, h.ports, h.ports], h.opened, h.frame, h.audience⟩
  · exact h

theorem hears_forAll {α : Type} {g : α → State → State} (hg : ∀ a {u v : State}, u.hears v → (g a u).hears (g a v)) (l : List α) :
    ∀ {s t : State}, s.hears t → (forAll l g s).hears (forAll l g t) := by
  induction l with
  | nil => exact id
  | cons a l ih => exact fun h => ih (hg a h)

theorem hears_withLog (h : s.hears t) (log : AlarmLog) (quiet : Option Link) :
    (s.withLog log quiet).hears (t.withLog log quiet) := by
  unfold State.withLog
  rw [h.log]
  refine hears_forAll (fun l u v huv => ?_) allLinks (hears_setLog h log)
  dsimp only
  split
  · exact hears_sendUnsolicited huv l _
  · exact huv

/-- A raise in two states that agree in what it looks at: they agree in it afterwards (R163 to R167, R175). -/
theorem hears_raise (h : s.hears t) (k : AlarmKind) (x : Subject) (d : Nat) : (s.raise k x d).hears (t.raise k x d) := by
  have elapsed : t.elapsed = s.elapsed := funext fun f => congrArg (fun n : Frame => (n - f).toNat) h.frame
  have oldest : t.oldestCleared = s.oldestCleared := by rw [State.oldestCleared, State.oldestCleared, h.log, elapsed]
  have readers : t.raiseReaders = s.raiseReaders := by
    funext x
    rw [State.raiseReaders, State.raiseReaders, h.audience]
  have merged : t.merged = s.merged := by
    funext r d
    rw [State.merged, State.merged, readers, State.frame, State.frame, h.frame]
  have created : t.created = s.created := by
    funext k x d
    rw [State.created, State.created, readers, State.frame, State.frame, h.frame]
  unfold State.raise
  rw [h.log, oldest, merged, created]
  cases s.log.find k x with
  | some y => exact hears_withLog h _ _
  | none =>
    cases s.log.freeSlot with
    | some i => exact hears_withLog h _ _
    | none =>
      cases s.oldestCleared with
      | some i =>
        have evicted := hears_withLog h (s.log.evict i) none
        dsimp only
        rw [evicted.log]
        exact hears_withLog evicted _ _
      | none => exact hears_setLog h _

end

/-- Every port but MP is that of an operator link. -/
theorem port_cases : ∀ p : Port, p = Port.mp ∨ ∃ l : Link, p = Port.ofLink l := by decide

/-- A raise commutes with other head links, buffers and guards. -/
theorem raise_heads_uplinks (s : State) (x : Vector HeadLink 16) (y : Vector UplinkHead 16) (k : AlarmKind) (b : Subject) (d : Nat) :
    ({ s with heads := x, uplinks := y } : State).raise k b d = { s.raise k b d with heads := x, uplinks := y } := by
  have swapped := raise_swapped s x y s.due k b d
  unfold State.swapped at swapped
  rw [swapped, ← raise_due s k b d]

/-- A raise commutes with other buffers, guards and dues. -/
theorem raise_uplinks_due (s : State) (y : Vector UplinkHead 16) (z : List Due) (k : AlarmKind) (x : Subject) (d : Nat) :
    ({ s with uplinks := y, due := z } : State).raise k x d = { s.raise k x d with uplinks := y, due := z } := by
  have swapped := raise_swapped s s.heads y z k x d
  unfold State.swapped at swapped
  rw [swapped, ← raise_heads s k x d]

/-- A clear commutes with other buffers, guards and dues. -/
theorem clear_uplinks_due (s : State) (y : Vector UplinkHead 16) (z : List Due) (k : AlarmKind) (x : Subject) :
    ({ s with uplinks := y, due := z } : State).clear k x = { s.clear k x with uplinks := y, due := z } := by
  have swapped := clear_swapped s s.heads y z k x none
  unfold State.swapped at swapped
  rw [swapped, ← clear_heads s k x none]

theorem raise_otherUplinks (s : State) (y : Vector UplinkHead 16) (k : AlarmKind) (x : Subject) (d : Nat) :
    ({ s with uplinks := y } : State).raise k x d = { s.raise k x d with uplinks := y } :=
  (raise_uplinks_due s y s.due k x d).trans (by rw [← raise_due s k x d])

/-! ## Events that take what is due -/

/-- A command that takes what is due takes the front of it, where that is wanted. -/
theorem headEvent_front {s : State} {d : Due} {rest : List Due} {wanted : Due → Bool} (awake : s.mode ≠ .reset)
    (due : s.due = d :: rest) (hw : wanted d = true) :
    headEvent s (fun s => s.takeDue wanted) = .next ((s.setDue rest).perform d) := by
  rw [headEvent, if_neg awake, takeDue_front due hw]

/-- Where nothing is due, a command that takes what is due changes nothing. -/
theorem headEvent_idle {s : State} (awake : s.mode ≠ .reset) (due : s.due = []) (wanted : Due → Bool) :
    headEvent s (fun s => s.takeDue wanted) = .next s := by
  rw [headEvent, if_neg awake, takeDue_idle due]

/-! ## Slips (R73, R74) -/

theorem modUplink_get (s : State) (h g : Head) (f : UplinkHead → UplinkHead) :
    (s.modUplink h f).uplinks[g] = if h = g then f s.uplinks[h] else s.uplinks[g] := get_set _ _ _ _

theorem modUplink_get_same (s : State) (h : Head) (f : UplinkHead → UplinkHead) : (s.modUplink h f).uplinks[h] = f s.uplinks[h] := by
  rw [modUplink_get, if_pos rfl]

theorem nearEnd_iff (x : UplinkHead) :
    x.nearEnd = true ↔ x.groups.length ≤ x.almostEmpty ∨ 64 - x.almostFull ≤ x.groups.length := by
  simp [UplinkHead.nearEnd, Config.bufferDepth]

/-- A re-centred buffer holds 32 groups (R73). -/
theorem recentre_length (groups : List Group) : (recentre groups).length = 32 := by
  have centre : Config.bufferCentre = 32 := rfl
  unfold recentre
  split
  · rw [List.length_drop]
    omega
  · cases groups with
    | nil => rfl
    | cons g rest =>
      rw [List.length_append, List.length_replicate]
      omega

/-- The buffer of a head as a slip leaves it (R73, R74). -/
def UplinkHead.slipped (x : UplinkHead) : UplinkHead := { x with groups := recentre x.groups, slipGate := 2 }

/-- The fill calls for no slip. -/
theorem slipCheck_stays {s : State} {h : Head} (stays : ¬ (s.uplinks[h].running = true ∧ s.uplinks[h].nearEnd = true)) :
    s.slipCheck h = s := by
  rw [State.slipCheck, if_neg (by rwa [Bool.and_eq_true])]

/-- The fill calls for a slip: the buffer is re-centred, its gate closed, and BUFFER_SLIP raised with the fill (R73, R74). -/
theorem slipCheck_slips {s : State} {h : Head} (running : s.uplinks[h].running = true) (near : s.uplinks[h].nearEnd = true) :
    s.slipCheck h = (s.modUplink h UplinkHead.slipped).raise .bufferSlip (.head h) s.uplinks[h].groups.length := by
  rw [State.slipCheck, running, near]
  rfl

theorem modUplink_modUplink (s : State) (h : Head) (f g : UplinkHead → UplinkHead) :
    (s.modUplink h f).modUplink h g = s.modUplink h fun x => g (f x) := by
  simp [State.modUplink]

/-- A head's buffer changes, and slips where its fill calls for it. -/
theorem modUplink_slips {s : State} {h : Head} {f : UplinkHead → UplinkHead} (running : (f s.uplinks[h]).running = true)
    (near : (f s.uplinks[h]).nearEnd = true) :
    (s.modUplink h f).slipCheck h =
      (s.modUplink h fun x => (f x).slipped).raise .bufferSlip (.head h) (f s.uplinks[h]).groups.length := by
  have own := modUplink_get_same s h f
  rw [slipCheck_slips (by rw [own, running]) (by rw [own, near]), own, modUplink_modUplink]

theorem modUplink_stays {s : State} {h : Head} {f : UplinkHead → UplinkHead}
    (stays : ¬ ((f s.uplinks[h]).running = true ∧ (f s.uplinks[h]).nearEnd = true)) :
    (s.modUplink h f).slipCheck h = s.modUplink h f :=
  slipCheck_stays (by rwa [modUplink_get_same])

end Sys2Proof.Machine
end

section
/-! PROOF of O38: the device reset asserted and released. -/

namespace Sys2Proof.Machine

open Sys2Proof

/-- While the reset is asserted no port takes or sends messages (R182, R194). -/
theorem portOpen_of_reset {s : State} (asserted : s.mode = .reset) (p : Port) : s.portOpen p = false := by
  rw [State.portOpen, asserted]

/-- An SPI transaction on a closed management port changes nothing (R182). -/
theorem spiTransaction_of_closed {s : State} (closed : s.portOpen Port.mp = false) (bytes : List Byte) :
    s.spiTransaction bytes = s := by
  unfold State.spiTransaction
  split
  · rfl
  · rw [if_pos (by rw [closed]; rfl)]

/-- While the reset is asserted no command changes anything but one of the reset itself (R194). -/
theorem exec_of_asserted {s : State} (asserted : s.mode = .reset) {i : Instr} (again : i ≠ .resetAssert)
    (release : i ≠ .resetRelease) : exec i s = .next s := by
  have idle : ∀ v : State, (Host.Outcome.next (if s.mode = .reset then s else v) : Host.Outcome State Fault Refusal) = .next s :=
    fun v => congrArg Host.Outcome.next (if_pos asserted)
  have closed := portOpen_of_reset asserted
  cases i with
  | resetAssert => exact absurd rfl again
  | resetRelease => exact absurd rfl release
  | declare | withdraw | bind | status | setBudget | setWeight | setUplink | setSaturation | setHeadLink | headEnable
  | headDisable | testStart | testSnapshot | testRead | testStop | setLoadWindow | setActivity | triggerSet | triggerRead
  | loadReport | planEdit | planValidate | planPropose | planCancel | consent | planQuery | planRead | setConsent
  | alarmSummary | alarmRead | alarmMask | post | take | start | hold | restart =>
    exact congrArg Host.Outcome.next (request_of_reset asserted _ _)
  | requestArrival p m intact =>
    change Host.Outcome.next _ = _
    rw [closed, Bool.false_and, if_neg Bool.false_ne_true]
  | spiMessageWrite bytes => exact congrArg Host.Outcome.next (spiTransaction_of_closed (closed _) bytes)
  | spiMessageRead bytes => exact congrArg Host.Outcome.next (spiTransaction_of_closed (closed _) bytes)
  | replyEnqueue p =>
    change Host.Outcome.next _ = _
    rw [asserted]
  | outgoingMessageSent l =>
    change Host.Outcome.next _ = _
    rw [closed, if_neg Bool.false_ne_true]
  | bindingApply | consentExpiry | planRevalidate | noiseGuardMute | noiseGuardUnmute | slipGateOpen | saturationWindowEnd
  | loadWindowEnd | blipWindowEnd | seekLockComplete | measureAttemptBegin | remeasureCountdownEnd | markerLost
  | errorWindowEnd | holdOffExpiry | requestEnterService | arbiterGrant | operatorLinkDown | operatorLinkUp | timingMark
  | markTimeout | heldBoundary | samplePeriod | uplinkGroupComplete | lightLost | lightRestored | blipLimitReached | lockFound
  | lockLost | headReport | reportLate | reportLostLimit | markerReturn | testWordReturned | recomputeComplete => exact idle _

/-- Settles O38: every command but the two of the reset finds the part closed, and the two write the modes they lead to. -/
theorem theResetFreezesThePartUntilItsRelease : Obligations.TheResetFreezesThePartUntilItsRelease := by
  unfold Obligations.TheResetFreezesThePartUntilItsRelease
  refine ⟨fun s i asserted again release => exec_of_asserted asserted again release, fun s => ⟨_, rfl, rfl, fun l => ?_, fun h => ?_,
    portOpen_of_reset rfl⟩, fun s asserted => ?_, fun s awake => ?_⟩
  · simp
  · simp
  · exact congrArg Host.Outcome.next (if_pos asserted)
  · exact congrArg Host.Outcome.next (if_neg awake)

end Sys2Proof.Machine
end

section
/-! PROOF of O48: a mute, an unmute and a slip gate that are due. -/

namespace Sys2Proof.Machine

open Sys2Proof

/-- The mute of a guard whose loud run stands: the guard is set, and UPLINK_NOISE raised (R82). -/
theorem muteHead_called {s : State} {h : Head} (unmuted : s.uplinks[h].muted = false) (loud : 0 < s.uplinks[h].loud) (n : Nat) :
    s.muteHead h n = (s.modUplink h fun x => { x with muted := true, quiet := 0 }).raise .uplinkNoise (.head h) n := by
  rw [State.muteHead, unmuted, decide_eq_true loud]
  rfl

/-- The unmute of a guard whose quiet run stands: the guard is reset, and UPLINK_NOISE cleared (R82). -/
theorem unmuteHead_called {s : State} {h : Head} (muted : s.uplinks[h].muted = true) (quiet : 0 < s.uplinks[h].quiet) :
    s.unmuteHead h =
      (s.modUplink h fun x => { x with muted := false, loud := 0, quiet := 0 }).clear .uplinkNoise (.head h) := by
  rw [State.unmuteHead, muted, decide_eq_true quiet]
  rfl

/-- Settles O48: what stands first of what is due is taken, and its condition holds; a raise and a clear leave buffers and dues
alone. -/
theorem guardsAndGatesActWhenDue : Obligations.GuardsAndGatesActWhenDue := by
  unfold Obligations.GuardsAndGatesActWhenDue
  intro s h rest awake
  refine ⟨fun n due unmuted loud => ?_, fun due muted quiet => ?_, fun due closing => ?_, fun due => ?_⟩
  · have step : exec (.noiseGuardMute h) s = .next ((s.setDue rest).muteHead h n) :=
      headEvent_front awake due (decide_eq_true rfl)
    rw [step, muteHead_called (s := s.setDue rest) unmuted loud]
    exact congrArg Host.Outcome.next (raise_uplinks_due s _ rest _ _ _)
  · have step : exec (.noiseGuardUnmute h) s = .next ((s.setDue rest).unmuteHead h) :=
      headEvent_front awake due (decide_eq_true rfl)
    rw [step, unmuteHead_called (s := s.setDue rest) muted quiet]
    exact congrArg Host.Outcome.next (clear_uplinks_due s _ rest _ _)
  · have step : exec (.slipGateOpen h) s = .next ((s.setDue rest).openGate h) :=
      headEvent_front awake due (decide_eq_true rfl)
    exact step.trans (congrArg Host.Outcome.next (if_pos closing))
  · exact ⟨headEvent_idle awake due _, headEvent_idle awake due _, headEvent_idle awake due _⟩

end Sys2Proof.Machine
end

section
/-! PROOF of O52: the groups of the uplink. -/

namespace Sys2Proof.Machine

open Sys2Proof

/-! ## Parity (R107) -/

/-- The parity bit of one of a word's bytes, from the word's own bits. -/
theorem byteParity_extract (w : Word) (j : Fin 4) :
    byteParity (w.extractLsb' (8 * j) 8) =
      (List.range 8).foldl (fun b n => b ^^ w.getLsbD (8 * j + n)) Config.oddParity := by
  have bits : ∀ (l : List Nat) (b : Bool), (∀ n ∈ l, n < 8) →
      l.foldl (fun p i => p ^^ (w.extractLsb' (8 * j) 8).getLsbD i) b = l.foldl (fun b n => b ^^ w.getLsbD (8 * j + n)) b := by
    intro l b short
    refine List.foldl_ext _ _ _ fun p n hn => ?_
    simp [short n hn]
  exact bits _ _ fun n hn => List.mem_range.1 hn

/-- The check errors of a group, from the bits of its words (R107). -/
theorem parityErrors_eq (words : Vector LaneWord 8) :
    parityErrors words = words.toList.countP fun w => decide (∃ j : Fin 4,
      w.parity.getLsbD j ≠
        (List.range 8).foldl (fun b n => b ^^ (w.sample.i ++ w.sample.q).getLsbD (8 * j + n)) Config.oddParity) := by
  unfold parityErrors
  congr 1
  funext w
  rw [Bool.eq_iff_iff, parityFails_iff, decide_eq_true_iff]
  simp only [byteParity_extract]
  rfl

/-- The group of the words received. -/
theorem group_eq (words : Vector LaneWord 8) : (Vector.ofFn fun i => words[i].sample) = words.map (·.sample) := by
  ext i hi
  all_goals simp

/-! ## Groups that arrive (R71 to R74) -/

/-- The buffer of a head with a group appended, unless it is full (R71). -/
def UplinkHead.appended (x : UplinkHead) (g : Group) : UplinkHead :=
  { x with groups := if x.groups.length < 64 then x.groups ++ [g] else x.groups }

theorem appendGroup_stopped {s : State} {h : Head} (stopped : s.uplinks[h].running = false) (g : Group) :
    s.appendGroup h g = s := by
  rw [State.appendGroup, stopped]
  rfl

theorem appendGroup_running {s : State} {h : Head} (running : s.uplinks[h].running = true) (g : Group) :
    s.appendGroup h g = (s.modUplink h fun x => x.appended g).slipCheck h := by
  rw [State.appendGroup, running]
  rfl

/-- The head links after the check of a group: the errors of a head in service are counted (R107). -/
def State.checkedHeads (s : State) (h : Head) (bad : Nat) : Vector HeadLink 16 :=
  if s.inService h = true then s.heads.set h { s.heads[h] with errors := min 10240000 (s.heads[h].errors + bad) } else s.heads

theorem exec_uplinkGroupComplete {s : State} (awake : s.mode ≠ .reset) (h : Head) (words : Vector LaneWord 8) :
    exec (.uplinkGroupComplete h words) s =
      .next ({ s with heads := s.checkedHeads h (parityErrors words) }.appendGroup h (words.map LaneWord.sample)) := by
  change execUplinkGroupComplete h words s = _
  rw [execUplinkGroupComplete, headEvent, if_neg awake, ← group_eq]
  unfold State.checkedHeads
  split <;> rfl

/-- Settles O52: the errors are counted first, then the group is appended, and the fill is held against the marks. -/
theorem groupsAreAppendedAndChecked : Obligations.GroupsAreAppendedAndChecked := by
  unfold Obligations.GroupsAreAppendedAndChecked
  intro s h words awake x g groups bad heads centred
  have step : exec (.uplinkGroupComplete h words) s = .next ({ s with heads := heads }.appendGroup h g) := by
    rw [exec_uplinkGroupComplete awake, parityErrors_eq]
    rfl
  have own : (x.appended g).groups = groups := rfl
  refine ⟨fun stopped => ?_, fun running above below => ?_, fun running near => ⟨recentre_length groups, ?_⟩⟩
  · rw [step, appendGroup_stopped (s := { s with heads := heads }) stopped]
  · have stays : ¬ ((x.appended g).running = true ∧ (x.appended g).nearEnd = true) := fun ⟨_, near⟩ =>
      ((nearEnd_iff _).1 near).elim (not_le.2 above) (not_le.2 below)
    rw [step, appendGroup_running (s := { s with heads := heads }) running, modUplink_stays (s := { s with heads := heads }) stays]
    rfl
  · have slips : (x.appended g).nearEnd = true := (nearEnd_iff _).2 near
    rw [step, appendGroup_running (s := { s with heads := heads }) running,
      modUplink_slips (s := { s with heads := heads }) running slips]
    exact congrArg Host.Outcome.next (raise_heads_uplinks s heads _ _ _ _)

end Sys2Proof.Machine
end

section
/-! PROOF of O16: SET_UPLINK and SET_SATURATION. -/

namespace Sys2Proof.Machine

open Sys2Proof

/-- The settings of a SET_UPLINK, every value clamped, stored for a head (R83). -/
def UplinkHead.stored (x : UplinkHead) (f : UplinkFields) : UplinkHead :=
  { x with gain := f.gain.toNat, almostEmpty := clamp 1 31 f.almostEmpty.toNat, almostFull := clamp 1 31 f.almostFull.toNat
           ceiling := f.ceiling.toNat, onset := clamp 1 1000 f.onset.toNat, release := clamp 1 1000 f.release.toNat }

/-- The contents of the reply to a SET_UPLINK (R83). -/
def UplinkHead.settingsReply (x : UplinkHead) (h : Head) : List Byte :=
  byte1 h.val ++ byte1 x.gain ++ byte1 x.almostEmpty ++ byte1 x.almostFull ++ byte4 x.ceiling ++ byte2 x.onset ++ byte2 x.release

theorem min_255_toNat (b : Byte) : min 255 b.toNat = b.toNat := Nat.min_eq_right (Nat.le_of_lt_succ b.isLt)

theorem min_65535_toNat (b : Half) : min 65535 b.toNat = b.toNat := Nat.min_eq_right (Nat.le_of_lt_succ b.isLt)

theorem setUplink_carried (u : State) {h : Head} {f : UplinkFields} (named : f.head = byteOf h) :
    carryOut Port.mp (.setUplink f) u =
      ((u.modUplink h fun x => x.stored f).slipCheck h, .reply .ok ((u.uplinks[h].stored f).settingsReply h)) := by
  change serveSetUplink Port.mp f u = _
  rw [serveSetUplink, named, indexOf_byteOf (by decide : 16 ≤ 256)]
  simp only [min_255_toNat]
  rfl

theorem setSaturation_carried (u : State) (c : Carrier) (n : Half) :
    carryOut Port.mp (.setSaturation (byteOf c) n) u =
      (u.modMonitor c fun m => { m with threshold := n.toNat }, .reply .ok (byte1 c.val ++ byte2 n.toNat)) := by
  change serveSetSaturation Port.mp (byteOf c) n u = _
  rw [serveSetSaturation, indexOf_byteOf (by decide : 16 ≤ 256)]
  simp only [min_65535_toNat]
  rfl

theorem word_wordBytes (x : Word) :
    word (x.extractLsb' 24 8) (x.extractLsb' 16 8) (x.extractLsb' 8 8) (x.extractLsb' 0 8) = x := by
  unfold word
  ext i hi
  simp only [BitVec.getElem_append, BitVec.getElem_extractLsb']
  split
  · simpa using BitVec.getLsbD_eq_getElem hi
  · split
    · rw [← BitVec.getLsbD_eq_getElem]; congr 1; omega
    · split <;> (rw [← BitVec.getLsbD_eq_getElem]; congr 1; omega)

theorem setUplink_direct (f : UplinkFields) : (Request.setUplink f).direct := by
  refine ⟨rfl, rfl, ?_⟩
  change Request.setUplink { f with ceiling := word _ _ _ _, onset := half _ _, release := half _ _ } = _
  rw [word_wordBytes, half_halfBytes, half_halfBytes]

theorem setSaturation_direct (c : Byte) (n : Half) : (Request.setSaturation c n).direct :=
  ⟨rfl, rfl, congrArg (Request.setSaturation c) (half_halfBytes n)⟩

/-- A request on MP is taken up by a change that no raise looks at. -/
theorem taken_hears (s : State) (r : Request) : s.hears (s.taken Port.mp r) :=
  ⟨rfl, fun l => taken_other s Port.mp _ r (ofLink_ne_mp l), fun _ => rfl, rfl, rfl⟩

/-- Settles O16: the settings are stored in the head's record alone, whose fill is then held against the new marks; the raise of
a slip tells the operators, never MP. -/
theorem switchSettingsAreStored : Obligations.SwitchSettingsAreStored := by
  unfold Obligations.SwitchSettingsAreStored
  intro s ready
  refine ⟨fun h f named => ?_, fun c n => ?_⟩
  · intro x slips slipped
    let u := s.taken Port.mp (.setUplink f)
    let contents := x.settingsReply h
    have one : replyMessages (Request.setUplink f).toMessage (.reply .ok contents) = [replyTo 12 .ok contents] :=
      replyMessages_reply (r := .setUplink f) (by simp [Request.type]) .ok (by simp [contents, UplinkHead.settingsReply])
    have direct := setUplink_direct f
    have request : ∀ t : State, (u.modUplink h fun x => x.stored f).slipCheck h = t → t.ports[Port.mp] = u.ports[Port.mp] →
        exec (.setUplink Port.mp f) s =
          .next { t with ports := t.ports.set Port.mp (s.ports[Port.mp].sent [replyTo 12 .ok contents]) } := fun t e mp => by
      have carried := request_direct s t Port.mp (.setUplink f) (.reply .ok contents) (by rwa [one]) direct.sound direct.ungranted
        direct.carried ((setUplink_carried u named).trans (by rw [e]; rfl)) mp nofun
      rw [one] at carried
      exact congrArg Host.Outcome.next carried
    have others : ∀ g, g ≠ h → ∀ y, (s.uplinks.set h y)[g] = s.uplinks[g] := fun g hg y => by rw [get_set, if_neg hg.symm]
    have own : ∀ y, (s.uplinks.set h y)[h] = y := fun y => by rw [get_set, if_pos rfl]
    have reply : ∀ (ports : Vector PortRecord 5) y, (ports.set Port.mp y)[Port.mp] = y := fun ports y => by rw [get_set, if_pos rfl]
    have links : ∀ (ports : Vector PortRecord 5) y p, p ≠ Port.mp → (ports.set Port.mp y)[p] = ports[p] := fun ports y p hp => by
      rw [get_set, if_neg hp.symm]
    by_cases slip : slips
    · let raised := u.raise .bufferSlip (.head h) x.groups.length
      have told := hears_raise (taken_hears s (.setUplink f)) .bufferSlip (.head h) x.groups.length
      have frame := eq_of_sansLog (raise_sansLog u .bufferSlip (.head h) x.groups.length)
      have result : (u.modUplink h fun x => x.stored f).slipCheck h =
          { s with uplinks := s.uplinks.set h x.slipped, log := raised.log, ports := raised.ports } :=
        (modUplink_slips (s := u) slip.1 ((nearEnd_iff x).2 slip.2)).trans <| (raise_otherUplinks u _ _ _ _).trans
          (congrArg (fun t : State => { t with uplinks := s.uplinks.set h x.slipped }) frame)
      refine ⟨_, request _ result (raise_messaged u _ _ _).mp, rfl, fun g hg => others g hg _, reply _ _, fun none => absurd slip none,
        fun _ => ⟨own _, ?_, told.log, fun p hp => ?_⟩⟩
      · exact (congrArg (fun y : UplinkHead => y.groups.length) (own _)).trans (recentre_length x.groups)
      · obtain rfl | ⟨l, rfl⟩ := port_cases p
        · exact absurd rfl hp
        · exact (links _ _ _ hp).trans (told.ports l)
    · have stays : ¬ ((u.uplinks[h].stored f).running = true ∧ (u.uplinks[h].stored f).nearEnd = true) := fun ⟨running, near⟩ =>
        slip ⟨running, (nearEnd_iff x).1 near⟩
      refine ⟨_, request _ (modUplink_stays (s := u) stays) rfl, rfl, fun g hg => others g hg _, reply _ _, fun _ =>
        ⟨own _, rfl, fun p hp => ?_⟩, fun is => absurd is slip⟩
      exact (links _ _ _ hp).trans (taken_other s Port.mp p _ hp)
  · exact congrArg Host.Outcome.next (request_direct_reply ready (setSaturation_direct _ n) (by simp [Request.type]) (by simp)
      (setSaturation_carried _ c n) rfl)

end Sys2Proof.Machine
end

section
/-! PROOF of O53: the arithmetic of samples (R67, R76, R77). -/

namespace Sys2Proof.Machine

open Sys2Proof

/-! ## Saturation -/

theorem saturate_toInt (y : Int) : (BitVec.ofInt 16 (saturate y)).toInt = saturate y := by
  have low : -32768 ≤ saturate y := Int.le_max_left _ _
  have high : saturate y ≤ 32767 := max_le (by decide) (Int.min_le_left _ _)
  rw [BitVec.toInt_ofInt]
  exact Int.bmod_eq_of_le (by simpa using low) (by omega)

/-- A value is left as it is, or is beyond the end of the range that it becomes. -/
theorem saturate_cases (y : Int) :
    saturate y = y ∨ (saturate y ≠ y ∧ ((saturate y = 32767 ∧ 32767 < y) ∨ (saturate y = -32768 ∧ y < -32768))) := by
  unfold saturate
  omega

/-! ## Scaling (R67) -/

/-- The table A holds the nearest integers to 65536 × 10^(−k/40), in fortieth powers (R67). -/
theorem amplitudeFactor_nearest : ∀ k : Fin 32, (2 * amplitudeFactor k - 1) ^ 40 * 10 ^ k.val ≤ 131072 ^ 40 ∧
    131072 ^ 40 ≤ (2 * amplitudeFactor k + 1) ^ 40 * 10 ^ k.val := by decide

theorem amplitudeFactor_le : ∀ k : Fin 32, amplitudeFactor k ≤ 65536 := by decide

/-- A factor of at most 1 keeps a component within the range, so scaling never saturates. -/
theorem scaleComponent_toInt (x : BitVec 16) (k : Fin 32) :
    (scaleComponent x k).toInt = (x.toInt * amplitudeFactor k + 32768) / 65536 := by
  have low : -32768 ≤ x.toInt := BitVec.le_toInt x
  have high : x.toInt < 32768 := BitVec.toInt_lt
  have factor : (amplitudeFactor k : Int) ≤ 65536 := by exact_mod_cast amplitudeFactor_le k
  have least : -32768 * 65536 ≤ x.toInt * amplitudeFactor k := by nlinarith
  have most : x.toInt * amplitudeFactor k ≤ 32767 * 65536 := by nlinarith
  rw [scaleComponent, saturate_toInt, saturate]
  omega

/-- Step 0 has the factor 1 (R67). -/
theorem scaleComponent_zero (x : BitVec 16) : scaleComponent x 0 = x := by
  refine BitVec.eq_of_toInt_eq ?_
  have full : amplitudeFactor 0 = 65536 := rfl
  rw [scaleComponent_toInt, full]
  omega

/-! ## Combining (R76) -/

/-- The combiner's output before saturation is the weighted sum over two units, rounded half up. -/
theorem combineRaw_bounds (terms : List (BitVec 16 × Nat)) (shift : Nat) :
    let sum := (terms.map fun t => t.1.toInt * (t.2 : Int)).sum
    let unit : Int := 32 * 2 ^ shift
    (2 * combineRaw terms shift - 1) * unit ≤ sum ∧ sum < (2 * combineRaw terms shift + 1) * unit := by
  intro sum unit
  have half : (2 : Int) ^ (5 + shift) = unit := by rw [pow_add]; rfl
  have whole : (2 : Int) ^ (6 + shift) = 2 * unit := by rw [← half, ← pow_succ']; congr 1; omega
  have positive : 0 < unit := by positivity
  have raw : combineRaw terms shift = (sum + unit) / (2 * unit) := by rw [combineRaw, half, whole]
  have below := Int.mul_ediv_self_le (x := sum + unit) (k := 2 * unit) (by omega)
  have above := Int.lt_mul_ediv_self_add (x := sum + unit) (k := 2 * unit) (by omega)
  rw [← raw] at below above
  constructor <;> linarith

/-- Settles O53: the products are within the range, so scaling rounds alone, and a combined component is rounded before it
saturates. -/
theorem samplesAreRoundedHalfUpAndSaturate : Obligations.SamplesAreRoundedHalfUpAndSaturate := by
  unfold Obligations.SamplesAreRoundedHalfUpAndSaturate
  refine ⟨amplitudeFactor_nearest, fun x k => ?_, fun terms shift => ?_⟩
  · intro y
    have rounded : y = (x.toInt * amplitudeFactor k + 32768) / 65536 := scaleComponent_toInt x k
    exact ⟨by omega, by omega, scaleComponent_zero x⟩
  · intro sum unit y
    obtain ⟨below, above⟩ := combineRaw_bounds terms shift
    have saturates : y = saturate (combineRaw terms shift) := saturate_toInt _
    have positive : 0 < unit := by positivity
    obtain same | ⟨other, ends⟩ := saturate_cases (combineRaw terms shift)
    · rw [saturated, if_pos same, saturates, same]
      exact ⟨fun _ => ⟨below, above⟩, fun ne => absurd rfl ne⟩
    · rw [saturated, if_neg other]
      refine ⟨nofun, fun _ => ⟨rfl, ends.imp (fun ⟨top, beyond⟩ => ⟨saturates.trans top, ?_⟩) fun ⟨bottom, beyond⟩ =>
        ⟨saturates.trans bottom, ?_⟩⟩⟩
      · refine le_trans (mul_le_mul_of_nonneg_right ?_ positive.le) below
        omega
      · refine lt_of_lt_of_le above (mul_le_mul_of_nonneg_right ?_ positive.le)
        omega

end Sys2Proof.Machine
end

section
/-! SUPPORT. What a sample period makes of each part of the state (R64 to R69, R72 to R78). -/

namespace Sys2Proof.Machine

open Sys2Proof

/-! ## Lists of operations on one part of the state -/

/-- A list of indices without repeats, each with its entry changed: the entries listed are changed, each once. -/
theorem foldl_set_get {α : Type} {n : Nat} (f : Fin n → α → α) (l : List (Fin n)) (hl : l.Nodup) (v : Vector α n) (i : Fin n) :
    (l.foldl (fun v j => v.set j (f j v[j])) v)[i] = if i ∈ l then f i v[i] else v[i] := by
  induction l generalizing v with
  | nil => simp
  | cons j l ih =>
    obtain ⟨hj, hl⟩ := List.nodup_cons.1 hl
    rw [List.foldl_cons, ih hl, get_set]
    by_cases e : j = i
    · subst e
      simp [hj]
    · have e' : i ≠ j := fun x => e x.symm
      simp [e, e']

/-- A part of the state that is a vector, of which each operation of a list changes its own entry: every entry is changed. -/
theorem forAll_vector {α : Type} {n : Nat} (view : State → Vector α n) {g : Fin n → State → State} (f : Fin n → α → α)
    (h : ∀ i t, view (g i t) = (view t).set i (f i (view t)[i])) (s : State) :
    view (forAll (List.finRange n) g s) = Vector.ofFn fun i => f i (view s)[i] := by
  have folded : ∀ (l : List (Fin n)) (t : State), view (forAll l g t) = l.foldl (fun v j => v.set j (f j v[j])) (view t) := by
    intro l
    induction l with
    | nil => exact fun _ => rfl
    | cons j l ih => exact fun t => by rw [forAll_cons, ih, h, List.foldl_cons]
  refine Vector.ext fun i hi => ?_
  have own := foldl_set_get f _ (List.nodup_finRange n) (view s) ⟨i, hi⟩
  rw [if_pos (List.mem_finRange _), ← folded] at own
  rw [Vector.getElem_ofFn]
  exact own

/-- Operations that change the monitor of their carrier alone, one for each carrier: every monitor is changed. -/
theorem forAll_monitors {g : Carrier → State → State} {f : Carrier → SaturationMonitor → SaturationMonitor}
    (h : ∀ c t, g c t = t.modMonitor c (f c)) (s : State) :
    forAll allCarriers g s = { s with monitors := Vector.ofFn fun c => f c s.monitors[c] } := by
  have frame := forAll_keeps (fun t : State => { t with monitors := s.monitors }) g (fun c t => by rw [h]; rfl) allCarriers s
  have own := forAll_vector State.monitors (g := g) f (fun c t => by rw [h]; rfl) s
  exact (congrArg (fun t : State => { t with monitors := (forAll allCarriers g s).monitors }) frame).trans
    (congrArg (fun m => { s with monitors := m }) own)

/-- Operations that change the record of their head link alone, one for each head: every record is changed. -/
theorem forAll_heads {g : Head → State → State} {f : Head → HeadLink → HeadLink} (h : ∀ a t, g a t = t.modHead a (f a))
    (s : State) : forAll allHeads g s = { s with heads := Vector.ofFn fun a => f a s.heads[a] } := by
  have frame := forAll_keeps (fun t : State => { t with heads := s.heads }) g (fun a t => by rw [h]; rfl) allHeads s
  have own := forAll_vector State.heads (g := g) f (fun a t => by rw [h]; rfl) s
  exact (congrArg (fun t : State => { t with heads := (forAll allHeads g s).heads }) frame).trans
    (congrArg (fun x => { s with heads := x }) own)

/-! ## The reads of the buffers (R72 to R74) -/

/-- A buffer without its oldest group (R72). -/
def UplinkHead.popped (x : UplinkHead) : UplinkHead := { x with groups := x.groups.drop 1 }

/-- The read of a period makes the buffer of a head slip: it is RUNNING, and without its oldest group near an end. -/
def UplinkHead.readSlips (x : UplinkHead) : Bool := x.running && x.popped.nearEnd

/-- The buffer of a head after the read of a period: a RUNNING one gives up its oldest group, and slips where that leaves it
near an end (R72, R73, R74). -/
def UplinkHead.readOut (x : UplinkHead) : UplinkHead :=
  if x.readSlips = true then x.popped.slipped else if x.running = true then x.popped else x

theorem readOut_stopped {x : UplinkHead} (stopped : x.running = false) : x.readOut = x := by
  simp [UplinkHead.readOut, UplinkHead.readSlips, stopped]

theorem readOut_stays {x : UplinkHead} (running : x.running = true) (stays : x.readSlips = false) : x.readOut = x.popped := by
  simp [UplinkHead.readOut, stays, running]

theorem readOut_slips {x : UplinkHead} (slips : x.readSlips = true) : x.readOut = x.popped.slipped := if_pos slips

/-- The read of one head's buffer does nothing but to it, and raises BUFFER_SLIP with its fill where it slips. -/
theorem readGroup_eq (s : State) (h : Head) :
    s.readGroup h =
      if s.uplinks[h].readSlips = true then
        (s.modUplink h UplinkHead.readOut).raise .bufferSlip (.head h) (s.uplinks[h].groups.drop 1).length
      else s.modUplink h UplinkHead.readOut := by
  have named : ∀ x : UplinkHead, s.uplinks[h].readOut = x → (s.modUplink h UplinkHead.readOut) = s.modUplink h fun _ => x :=
    fun x e => by rw [State.modUplink, e]; rfl
  by_cases running : s.uplinks[h].running = true
  · by_cases slips : s.uplinks[h].readSlips = true
    · rw [if_pos slips, named _ (readOut_slips slips), State.readGroup, if_pos running]
      exact modUplink_slips running (Bool.and_eq_true_iff.1 slips).2
    · rw [if_neg slips, named _ (readOut_stays running (Bool.not_eq_true _ ▸ slips)), State.readGroup, if_pos running]
      exact modUplink_stays fun near => slips (Bool.and_eq_true_iff.2 near)
  · have stopped := Bool.not_eq_true _ ▸ running
    have still : s.uplinks[h].readSlips = false := by rw [UplinkHead.readSlips, stopped]; rfl
    rw [State.readGroup, if_neg running, if_neg (by rw [still]; decide), State.modUplink, readOut_stopped stopped]
    simp

/-- The state without the buffers, the alarm log and the ports. -/
def State.sansBuffers (s : State) : State := { s.sansLog with uplinks := Vector.replicate 16 UplinkHead.reset }

theorem sansBuffers_of_sansLog {s t : State} (e : t.sansLog = s.sansLog) : t.sansBuffers = s.sansBuffers :=
  congrArg (fun t : State => { t with uplinks := Vector.replicate 16 UplinkHead.reset }) e

theorem eq_of_sansBuffers {s t : State} (e : t.sansBuffers = s.sansBuffers) :
    t = { s with uplinks := t.uplinks, log := t.log, ports := t.ports } :=
  congrArg (fun x : State => { x with uplinks := t.uplinks, log := t.log, ports := t.ports }) e

theorem readGroup_sansBuffers (s : State) (h : Head) : (s.readGroup h).sansBuffers = s.sansBuffers := by
  rw [readGroup_eq]
  split
  · exact (sansBuffers_of_sansLog (raise_sansLog _ _ _ _)).trans rfl
  · rfl

theorem readGroup_uplinks (s : State) (h : Head) : (s.readGroup h).uplinks = s.uplinks.set h s.uplinks[h].readOut := by
  rw [readGroup_eq]
  split
  · exact raise_uplinks _ _ _ _
  · rfl

theorem readGroup_mp (s : State) (h : Head) : (s.readGroup h).ports[Port.mp] = s.ports[Port.mp] := by
  rw [readGroup_eq]
  split
  · exact (raise_messaged _ _ _ _).mp
  · rfl

/-- Every buffer is read. -/
def State.readAll (s : State) : State := forAll allHeads (fun h w => w.readGroup h) s

theorem readAll_eq (s : State) :
    s.readAll = { s with uplinks := Vector.ofFn fun h => s.uplinks[h].readOut, log := s.readAll.log, ports := s.readAll.ports } := by
  have frame := eq_of_sansBuffers (forAll_keeps State.sansBuffers _ (fun h t => readGroup_sansBuffers t h) allHeads s)
  have own := forAll_vector State.uplinks (fun _ => UplinkHead.readOut) (fun h t => readGroup_uplinks t h) s
  exact frame.trans (congrArg (fun x => { s with uplinks := x, log := s.readAll.log, ports := s.readAll.ports }) own)

/-- What BUFFER_SLIP tells of reads: the slips are raised in ascending head order, each with its fill. -/
theorem readAll_hears {s t : State} (h : s.hears t) (same : t.uplinks = s.uplinks) :
    ((allHeads.filter fun g => s.uplinks[g].readSlips).foldl
      (fun v g => v.raise .bufferSlip (.head g) (s.uplinks[g].groups.drop 1).length) s).hears t.readAll := by
  have each : ∀ (l : List Head), l.Nodup → ∀ {u v : State}, u.hears v → (∀ g ∈ l, v.uplinks[g] = s.uplinks[g]) →
      ((l.filter fun g => s.uplinks[g].readSlips).foldl
        (fun v g => v.raise .bufferSlip (.head g) (s.uplinks[g].groups.drop 1).length) u).hears
        (forAll l (fun h w => w.readGroup h) v) := by
    intro l
    induction l with
    | nil => exact fun _ _ _ h _ => h
    | cons g l ih =>
      intro nodup u v huv same
      obtain ⟨hg, nodup⟩ := List.nodup_cons.1 nodup
      have later : ∀ k ∈ l, (v.readGroup g).uplinks[k] = s.uplinks[k] := fun k hk => by
        rw [readGroup_uplinks, get_set, if_neg fun e : g = k => hg (e ▸ hk)]
        exact same k (List.mem_cons_of_mem g hk)
      have read : u.hears (v.modUplink g UplinkHead.readOut) := ⟨huv.log, huv.ports, huv.opened, huv.frame, huv.audience⟩
      rw [forAll_cons]
      by_cases slips : s.uplinks[g].readSlips = true
      · rw [List.filter_cons_of_pos (p := fun g : Head => s.uplinks[g].readSlips) slips, List.foldl_cons]
        refine ih nodup ?_ later
        rw [readGroup_eq, same g List.mem_cons_self, if_pos slips]
        exact hears_raise read _ _ _
      · rw [List.filter_cons_of_neg (p := fun g : Head => s.uplinks[g].readSlips) slips]
        refine ih nodup ?_ later
        rw [readGroup_eq, same g List.mem_cons_self, if_neg slips]
        exact read
  exact each allHeads (List.nodup_finRange 16) h fun g _ => by rw [same]

/-- Two states that agree in what a raise looks at and in MP's port agree in all ports. -/
theorem ports_of_hears {s t : State} (h : s.hears t) (mp : t.ports[Port.mp] = s.ports[Port.mp]) : t.ports = s.ports := by
  have each : ∀ p : Port, t.ports[p] = s.ports[p] := fun p => by
    obtain rfl | ⟨l, rfl⟩ := port_cases p
    · exact mp
    · exact h.ports l
  exact Vector.ext fun i hi => each ⟨i, hi⟩

/-! ## The period as a whole (R65) -/

/-- A head link after the period: in TEST the pattern has gone on by eight words (R115). -/
def HeadLink.afterPeriod (x : HeadLink) : HeadLink :=
  if x.state = .test then { x with test := { x.test with pattern := (patternWords 8 x.test.pattern).2 } } else x

/-- The monitors after the period: in RUN the saturated components are counted (R77). -/
def State.countedMonitors (s : State) : Vector SaturationMonitor 16 :=
  if s.mode = .run then
    Vector.ofFn fun c => { s.monitors[c] with count := min 65535 (s.monitors[c].count + s.saturations c) }
  else s.monitors

/-- The state before the buffers are read: the wires, placements, monitors and patterns of the period. -/
def State.sent (s : State) (streams : Streams) : State :=
  { s with
    wires := { s.wires with heads := Vector.ofFn fun h => s.transmission streams h
                            uplink := Vector.ofFn fun c => s.uplinkStream c }
    placements := s.placements.map fun p => s.advancePlacement streams p
    monitors := s.countedMonitors
    heads := Vector.ofFn fun h => s.heads[h].afterPeriod }

/-- The part of the period in one head's pattern. -/
theorem advancePattern_eq (s : State) (h : Head) (w : State) :
    (if s.heads[h].state = .test then w.modTest h fun x => { x with pattern := (patternWords 8 x.pattern).2 } else w) =
      w.modHead h fun x =>
        if s.heads[h].state = .test then { x with test := { x.test with pattern := (patternWords 8 x.test.pattern).2 } } else x := by
  split
  · rfl
  · simp [State.modHead]

/-- A carrier's monitor with the saturated components of a period counted (R77). -/
def State.monitorAfter (s : State) (c : Carrier) (m : SaturationMonitor) : SaturationMonitor :=
  { m with count := min 65535 (m.count + s.saturations c) }

theorem forAll_counted (s t : State) (same : t.monitors = s.monitors) :
    (if s.mode = .run then forAll allCarriers (fun c v => v.modMonitor c (s.monitorAfter c)) t else t) =
      { t with monitors := s.countedMonitors } := by
  rw [State.countedMonitors]
  split
  · rw [forAll_monitors (f := s.monitorAfter) (fun _ _ => rfl) t, same]
    rfl
  · rw [← same]

theorem forAll_tested (s t : State) (same : t.heads = s.heads) :
    forAll allHeads (fun h w =>
      if s.heads[h].state = .test then w.modTest h fun x => { x with pattern := (patternWords 8 x.pattern).2 } else w) t =
      { t with heads := Vector.ofFn fun h => s.heads[h].afterPeriod } := by
  rw [forAll_heads (fun h w => advancePattern_eq s h w) t, same]
  rfl

theorem wired_monitors (s : State) (w : Wires) (p : List Placement) : ((s.setWires w).setPlacements p).monitors = s.monitors := rfl

theorem wired_heads (s : State) (w : Wires) (p : List Placement) : ((s.setWires w).setPlacements p).heads = s.heads := rfl

theorem samplePeriod_eq (s : State) (streams : Streams) : s.samplePeriod streams = (s.sent streams).readAll := by
  have steps : ∀ (w : Wires) (p : List Placement),
      forAll allHeads (fun h w =>
        if s.heads[h].state = .test then w.modTest h fun x => { x with pattern := (patternWords 8 x.pattern).2 } else w)
        (if s.mode = .run then forAll allCarriers (fun c v => v.modMonitor c (s.monitorAfter c)) ((s.setWires w).setPlacements p)
         else (s.setWires w).setPlacements p) =
      { s with wires := w, placements := p, monitors := s.countedMonitors
               heads := Vector.ofFn fun h => s.heads[h].afterPeriod } := fun w p => by
    rw [forAll_counted s _ (wired_monitors s w p), forAll_tested s]
    · rfl
    · exact wired_heads s w p
  exact congrArg State.readAll (steps _ _)

end Sys2Proof.Machine
end

section
/-! PROOF of O51: the uplink of a sample period in RUN (R64, R75 to R77). -/

namespace Sys2Proof.Machine

open Sys2Proof

/-- A sample period with nothing due (R65). -/
theorem exec_samplePeriod {s : State} (awake : s.mode ≠ .reset) (idle : s.due = []) (streams : Streams) :
    exec (.samplePeriod streams) s = .next (s.sent streams).readAll := by
  change execSamplePeriod streams s = _
  rw [execSamplePeriod, headEvent, if_neg awake, flushDue_idle idle, samplePeriod_eq]

/-- What leaves a line of held sets is its oldest set, or the entering one where it holds none (R69). -/
theorem lineOut_eq_headD (line : List (List Sample)) (new : List Sample) : lineOut line new = line.headD new := by
  cases line <;> rfl

theorem lineNext_eq (line : List (List Sample)) (new : List Sample) :
    lineNext line new = if line = [] then [] else line.drop 1 ++ [new] := by
  cases line <;> rfl

/-- The set read for a placement, from its head's buffer (R64, R72). -/
theorem uplinkSet_eq (s : State) (p : Placement) :
    s.uplinkSet p =
      if s.uplinks[p.head].running = true then
        ((s.uplinks[p.head].groups.headD zeroGroup).toList.drop p.first.val).take p.units
      else List.replicate p.units zeroSample := by
  rw [State.uplinkSet, UplinkHead.oldest]
  by_cases running : s.uplinks[p.head].running = true
  · rw [if_pos running, if_pos running]
    rfl
  · rw [if_neg running, if_neg running]

/-- In RUN the contributions to a sample are those of the carrier's placements whose head's gate is open and that are not
EXCLUDED (R75). -/
theorem contributions_eq {s : State} (run : s.mode = .run) (c : Carrier) (j : Nat) :
    s.contributions c j = (s.placements.filter fun p =>
      decide (p.carrier = c) && (s.headGateOpen p.head && decide (p.exclusion = .none))).map fun p =>
        ((p.upHeld.headD (s.uplinkSet p)).getD j zeroSample, s.uplinks[p.head].gain) := by
  unfold State.contributions State.placementsOf
  rw [List.filter_filter]
  simp only [State.contributes, State.alignedSet, run, decide_true, Bool.true_and, Bool.and_comm, lineOut_eq_headD]

theorem uplinkStream_run {s : State} (run : s.mode = .run) {c : Carrier} (up : s.linkUp c.owner = true) :
    s.uplinkStream c = s.combined c := by
  simp [State.uplinkStream, up, run]

/-- Settles O51: the terms of the statement are the model's contributions, carrier by carrier and sample by sample. -/
theorem aSamplePeriodCombinesTheUplink : Obligations.ASamplePeriodCombinesTheUplink := by
  unfold Obligations.ASamplePeriodCombinesTheUplink
  intro s streams run idle zero read gate terms left right
  have terms_eq : ∀ c j, terms c j = s.contributions c j := fun c j => by
    rw [contributions_eq run, show s.uplinkSet = read from funext fun p => uplinkSet_eq s p]
    rfl
  have combined : ∀ c, s.combined c = (List.range s.carriers[c].width.units).map fun j =>
      { i := combineComponent (left c j) s.carriers[c].shift, q := combineComponent (right c j) s.carriers[c].shift } := fun c => by
    simp only [left, right, terms_eq]
    rfl
  have counted : ∀ c, s.saturations c = ((List.range s.carriers[c].width.units).map fun j =>
      saturated (left c j) s.carriers[c].shift + saturated (right c j) s.carriers[c].shift).sum := fun c => by
    simp only [left, right, terms_eq]
    rfl
  refine ⟨_, exec_samplePeriod (by rw [run]; decide) idle streams, fun c => ?_⟩
  rw [readAll_eq]
  constructor
  · intro up
    calc (Vector.ofFn fun c => s.uplinkStream c)[c] = s.uplinkStream c := by simp
      _ = _ := by rw [uplinkStream_run run up, combined]
  · calc s.countedMonitors[c] = s.monitorAfter c s.monitors[c] := by simp [State.countedMonitors, run, State.monitorAfter]
      _ = _ := by rw [State.monitorAfter, counted]

end Sys2Proof.Machine
end

section
/-! PROOF of O50: what a sample period sends, moves and slips. -/

namespace Sys2Proof.Machine

open Sys2Proof

/-! ## Samples -/

/-- The energy of a sample, over the integers (R78). -/
theorem energy_eq (x : Sample) : Sample.energy x = (x.i.toInt * x.i.toInt + x.q.toInt * x.q.toInt).toNat := by
  rw [← Int.natAbs_mul_self, ← Int.natAbs_mul_self, ← Int.natCast_add, Int.toNat_natCast]
  rfl

/-- A sample of value 0 stays 0 at every step (R67). -/
theorem scale_zero (k : Fin 32) : Sample.scale zeroSample k = zeroSample := by
  have component : scaleComponent (0#16) k = 0#16 := by
    rw [scaleComponent, BitVec.toInt_zero, Int.zero_mul]
    rfl
  exact congrArg₂ Sample.mk component component

theorem getD_scaled (l : List Sample) (k : Fin 32) (i : Nat) :
    (l.map fun x => Sample.scale x k).getD i zeroSample = Sample.scale (l.getD i zeroSample) k := by
  conv_lhs => rw [← scale_zero k]
  exact List.getD_map l _ _

/-- The parity bits of a word sent, from the word's own bits (R107). -/
theorem parityBits_getLsbD (w : Word) (j : Nat) (hj : j < 4) :
    (parityBits w).getLsbD j = (List.range 8).foldl (fun b n => b ^^ w.getLsbD (8 * j + n)) Config.oddParity := by
  have bits : ¬ ∃ j : Fin 4, (parityBits w).getLsbD j ≠ byteParity (w.extractLsb' (8 * j) 8) := fun failing => by
    have fails := (parityFails_iff w (parityBits w)).2 failing
    rw [parityFails_parityBits] at fails
    exact absurd fails (by decide)
  exact (not_not.1 fun e => bits ⟨⟨j, hj⟩, e⟩).trans (byteParity_extract w ⟨j, hj⟩)

/-! ## The units of a head in RUN (R65, R66) -/

theorem run_of_radiating {s : State} {p : Placement} (h : s.downlinkState p = .radiating) : s.mode = .run := by
  by_contra run
  rw [State.downlinkState] at h
  split at h
  · cases h
  · cases h

theorem inService_of_radiating {s : State} {p : Placement} (h : s.downlinkState p = .radiating) : s.inService p.head = true := by
  have run := run_of_radiating h
  by_contra out
  rw [State.downlinkState] at h
  split at h
  · cases h
  · simp [run, Bool.eq_false_iff.2 out] at h

/-- What a head in service carries. -/
theorem transmission_inService {s : State} {h : Head} (served : s.inService h = true) (streams : Streams) :
    s.transmission streams h = .lanes (s.laneSamples streams h) := by
  have state : s.heads[h].state = .up ∨ s.heads[h].state = .degraded := by
    change s.heads[h].state.inService = true at served
    revert served
    cases s.heads[h].state <;> simp [LinkState.inService]
  rw [State.transmission]
  obtain state | state := state <;> rw [state]

/-- A placement covers a unit, as the sample switch asks it. -/
def onUnit (u : LaneIndex) (p : Placement) : Bool := decide (p.first.val ≤ u.val) && decide (u.val < p.first.val + p.units)

theorem onUnit_iff (u : LaneIndex) (p : Placement) : onUnit u p = true ↔ covers p.first.val p.units u := by
  simp [onUnit, covers]

/-- The sample on one unit of a head in RUN: that of the placement which covers the unit (R65). -/
def State.unitSample (s : State) (streams : Streams) (h : Head) (u : LaneIndex) : Sample :=
  match (s.placementsOn h).find? (onUnit u) with
  | none => zeroSample
  | some p => (s.emission streams p).getD (u.val - p.first.val) zeroSample

/-- The placement that a unit's sample is taken from is on the head and covers the unit. -/
theorem of_found {s : State} {h : Head} {u : LaneIndex} {p : Placement} (found : (s.placementsOn h).find? (onUnit u) = some p) :
    p ∈ s.placements ∧ p.head = h ∧ covers p.first.val p.units u := by
  have here := List.mem_filter.1 (List.mem_of_find?_eq_some found)
  exact ⟨here.1, of_decide_eq_true here.2, (onUnit_iff u p).1 (List.find?_some found)⟩

theorem laneSamples_run {s : State} (run : s.mode = .run) (streams : Streams) (h : Head) :
    s.laneSamples streams h = (List.finRange 8).map (s.unitSample streams h) := by
  rw [State.laneSamples, run]
  rfl

theorem laneSamples_get {s : State} (run : s.mode = .run) (streams : Streams) (h : Head) (u : LaneIndex) :
    (s.laneSamples streams h)[u.val]? = some (s.unitSample streams h u) := by
  rw [laneSamples_run run, List.getElem?_map, List.getElem?_eq_getElem (by simp)]
  simp

theorem laneSamples_length {s : State} (run : s.mode = .run) (streams : Streams) (h : Head) :
    (s.laneSamples streams h).length = 8 := by
  rw [laneSamples_run run, List.length_map, List.length_finRange]

/-- On a unit that one placement alone covers, the head carries what that placement emits. -/
theorem unitSample_covered {s : State} {p : Placement} {h : Head} {u : LaneIndex} (mem : p ∈ s.placements) (on : p.head = h)
    (covered : covers p.first.val p.units u)
    (alone : ∀ q ∈ s.placements, q.head = h → q ≠ p → ¬ covers q.first.val q.units u) (streams : Streams) :
    s.unitSample streams h u = (s.emission streams p).getD (u.val - p.first.val) zeroSample := by
  have found : ∃ q, (s.placementsOn h).find? (onUnit u) = some q := by
    rw [← Option.isSome_iff_exists, List.find?_isSome]
    exact ⟨p, List.mem_filter.2 ⟨mem, decide_eq_true on⟩, (onUnit_iff u p).2 covered⟩
  obtain ⟨q, found⟩ := found
  obtain ⟨mem', on', covered'⟩ := of_found found
  have same : q = p := not_not.1 fun ne => alone q mem' on' ne covered'
  rw [State.unitSample, found, same]

/-- On a unit that no RADIATING placement covers, the head carries a sample of value 0. -/
theorem unitSample_silent {s : State} {h : Head} {u : LaneIndex}
    (silent : ∀ p ∈ s.placements, p.head = h → s.downlinkState p = .radiating → ¬ covers p.first.val p.units u) (streams : Streams) :
    s.unitSample streams h u = zeroSample := by
  rw [State.unitSample]
  split
  · rfl
  · next p found =>
    obtain ⟨mem, on, covered⟩ := of_found found
    have quiet : s.downlinkState p ≠ .radiating := fun radiating => silent p mem on radiating covered
    rw [State.emission, if_neg quiet, List.getD_eq_getElem?_getD, List.getElem?_replicate]
    split <;> rfl

/-! ## The slips of a period -/

/-- What the slips of a period raise: each in ascending head order, with the fill that the read left. -/
def State.slipsRaised (s : State) : State :=
  (allHeads.filter fun h => s.uplinks[h].readSlips).foldl
    (fun v h => v.raise .bufferSlip (.head h) (s.uplinks[h].groups.drop 1).length) s

/-- The operators of the carriers on a head, which a raise looks at, are as they were. -/
theorem sent_hears (s : State) (streams : Streams) : s.hears (s.sent streams) := by
  refine ⟨rfl, fun _ => rfl, fun _ => rfl, rfl, funext fun x => funext fun l => ?_⟩
  cases x with
  | head h => exact List.any_map
  | carrier c => rfl
  | carrierHead c h => rfl
  | link k => rfl

theorem slipsRaised_mp (s : State) : s.slipsRaised.ports[Port.mp] = s.ports[Port.mp] :=
  forAll_keeps (fun t : State => t.ports[Port.mp]) _ (fun _ t => (raise_messaged t _ _ _).mp) _ s

theorem readAll_mp (s : State) : s.readAll.ports[Port.mp] = s.ports[Port.mp] :=
  forAll_keeps (fun t : State => t.ports[Port.mp]) _ (fun h t => readGroup_mp t h) _ s

/-- The period as a whole, with nothing due: what it sends and moves, and what its slips raise. -/
theorem exec_samplePeriod_slips {s : State} (awake : s.mode ≠ .reset) (idle : s.due = []) (streams : Streams) :
    exec (.samplePeriod streams) s = .next { s.sent streams with
      uplinks := Vector.ofFn fun h => s.uplinks[h].readOut, log := s.slipsRaised.log, ports := s.slipsRaised.ports } := by
  have heard : s.slipsRaised.hears (s.sent streams).readAll := readAll_hears (sent_hears s streams) rfl
  have mp : (s.sent streams).readAll.ports[Port.mp] = s.slipsRaised.ports[Port.mp] := by
    rw [readAll_mp, slipsRaised_mp]
    rfl
  rw [exec_samplePeriod awake idle, readAll_eq, heard.log, ports_of_hears heard mp]
  rfl

/-! ## What the wires and the placements carry -/

/-- A placement after a period: its held sets have moved on by one and its meter has taken what was read (R69, R78). -/
theorem advancePlacement_eq (s : State) (streams : Streams) (p : Placement) :
    s.advancePlacement streams p =
      { p with
        downHeld := if p.downHeld = [] then [] else p.downHeld.drop 1 ++ [s.downlinkSet streams p]
        upHeld := if p.upHeld = [] then [] else p.upHeld.drop 1 ++ [s.uplinkSet p]
        meter :=
          if s.uplinks[p.head].running = true then
            { p.meter with
              sum := p.meter.sum +
                ((s.uplinkSet p).map fun x => (x.i.toInt * x.i.toInt + x.q.toInt * x.q.toInt).toNat).sum
              count := p.meter.count + (s.uplinkSet p).length }
          else p.meter } := by
  rw [State.advancePlacement, lineNext_eq, lineNext_eq, Meter.take, show Sample.energy = _ from funext energy_eq]

/-- The anchor sample of the uplink takes U0 of every head whose gate is open, at gain 64 and shift 4 (R196). -/
theorem anchorUplink_eq (s : State) :
    s.anchorUplink =
      let terms := (allHeads.filter s.headGateOpen).map fun h =>
        if s.uplinks[h].running = true then (s.uplinks[h].groups.headD zeroGroup)[0] else zeroSample
      { i := combineComponent (terms.map fun x => (x.i, 64)) 4, q := combineComponent (terms.map fun x => (x.q, 64)) 4 } := by
  have first : ∀ h : Head, (s.uplinks[h].oldest.getD zeroGroup)[0] =
      if s.uplinks[h].running = true then (s.uplinks[h].groups.headD zeroGroup)[0] else zeroSample := fun h => by
    rw [UplinkHead.oldest]
    split <;> rfl
  unfold State.anchorUplink State.anchorContributions combineSample
  simp only [List.map_map, Function.comp_def, first]

/-- On the units of a RADIATING placement that no other placement overlaps, the head carries the oldest set that the placement
holds back, or its carrier's samples where it holds none, scaled by the attenuation in use (R65 to R67, R69). -/
theorem laneSamples_radiating {s : State} {p : Placement} {h : Head} (mem : p ∈ s.placements) (on : p.head = h)
    (radiating : s.downlinkState p = .radiating)
    (apart : ∀ q ∈ s.placements, q.head = h → q ≠ p →
      q.first.val + q.units ≤ p.first.val ∨ p.first.val + p.units ≤ q.first.val)
    (fits : p.first.val + p.units ≤ 8) (streams : Streams) {i : Nat} (hi : i < p.units) :
    (s.laneSamples streams h)[p.first.val + i]? =
      some (Sample.scale ((p.downHeld.headD (s.downlinkSet streams p)).getD i zeroSample) p.inUse) := by
  let u : LaneIndex := ⟨p.first.val + i, by omega⟩
  have covered : covers p.first.val p.units u := ⟨Nat.le_add_right _ _, Nat.add_lt_add_left hi _⟩
  have alone : ∀ q ∈ s.placements, q.head = h → q ≠ p → ¬ covers q.first.val q.units u := fun q hq onq ne shared => by
    have at_least : q.first.val ≤ p.first.val + i := shared.1
    have below : p.first.val + i < q.first.val + q.units := shared.2
    have := apart q hq onq ne
    omega
  rw [laneSamples_get (run_of_radiating radiating) streams h u, unitSample_covered mem on covered alone, State.emission,
    if_pos radiating, getD_scaled, lineOut_eq_headD, Nat.add_sub_cancel_left]

/-- Settles O50: each part of the state after the period is a function of the state before it, and the statement reads these
off one by one. -/
theorem aSamplePeriodMovesTheSamples : Obligations.ASamplePeriodMovesTheSamples := by
  unfold Obligations.ASamplePeriodMovesTheSamples
  intro s streams awake idle zero read copied shifted left slips centred
  have read_eq : s.uplinkSet = read := funext fun p => uplinkSet_eq s p
  refine ⟨_, exec_samplePeriod_slips awake idle streams, rfl, rfl, rfl, ?_, fun hold => ?_, fun h => ?_, ⟨rfl, rfl⟩, fun c => ?_⟩
  · refine List.map_congr_left fun p _ => ?_
    rw [advancePlacement_eq, read_eq]
    rfl
  · exact if_neg (by rw [hold]; decide)
  · intro zeros
    have wire : (Vector.ofFn fun h => s.transmission streams h)[h] = s.transmission streams h := by simp
    have link : (Vector.ofFn fun h : Head => s.heads[h].afterPeriod)[h] = s.heads[h].afterPeriod := by simp
    have buffer : (Vector.ofFn fun h : Head => s.uplinks[h].readOut)[h] = s.uplinks[h].readOut := by simp
    have served_wire : s.inService h = true → (Vector.ofFn fun h => s.transmission streams h)[h] = .lanes (s.laneSamples streams h) :=
      fun served => wire.trans (transmission_inService served streams)
    refine ⟨fun off => wire.trans ?_, fun unserved => wire.trans ?_, fun test => ?_, fun other => link.trans (if_neg other),
      fun served hold => (served_wire served).trans ?_, fun p mem on radiating apart fits => ?_, fun served run => ?_,
      fun stopped => buffer.trans (readOut_stopped stopped), fun running stays => buffer.trans (readOut_stays running stays),
      fun slipping => ⟨recentre_length _, buffer.trans (readOut_slips slipping)⟩⟩
    · rw [State.transmission, off]
    · obtain state | state | state := unserved <;> rw [State.transmission, state] <;> rfl
    · refine ⟨(patternWords 8 s.heads[h].test.pattern).1.map testWord, wire.trans ?_, ?_, ?_, link.trans (if_pos test)⟩
      · rw [State.transmission, test]
      · rw [List.map_map]
        exact List.map_id _
      · intro w hw j hj
        obtain ⟨d, -, rfl⟩ := List.mem_map.1 hw
        exact parityBits_getLsbD d j hj
    · rw [State.laneSamples, hold]
      rfl
    · refine ⟨_, served_wire (on ▸ inService_of_radiating radiating), laneSamples_length (run_of_radiating radiating) _ _, ?_⟩
      exact fun i hi => laneSamples_radiating mem on radiating apart fits streams hi
    · refine ⟨_, served_wire served, laneSamples_length run _ _, fun u silent => ?_⟩
      rw [laneSamples_get run, unitSample_silent silent]
      rfl
  · have wire : (Vector.ofFn fun c => s.uplinkStream c)[c] = s.uplinkStream c := by simp
    refine ⟨fun down => wire.trans ?_, fun up hold other => wire.trans ?_, fun up hold first => wire.trans ?_⟩
    · simp [State.uplinkStream, down]
    · rw [State.uplinkStream, up, hold]
      exact if_neg other
    · have anchored : s.uplinkStream c = [s.anchorUplink] := by simp [State.uplinkStream, ← first, up, hold]
      rw [anchored, anchorUplink_eq]
      rfl

end Sys2Proof.Machine
end

section
/-! SUPPORT. Proposals and the evaluation of triggers, whatever the load monitor and the dues hold (R131 to R133, R148). -/

namespace Sys2Proof.Machine

open Sys2Proof

/-! ## Proposals do not look at the load monitor or at what is due -/

/-- The state with another load monitor and other things due. -/
def State.reloaded (s : State) (x : LoadMonitor) (z : List Due) : State := { s with load := x, due := z }

section reloaded
variable (s : State) (x : LoadMonitor) (z : List Due)

theorem forAll_reloaded {α : Type} {g : α → State → State} (hg : ∀ a t, g a (State.reloaded t x z) = (g a t).reloaded x z) (l : List α) :
    forAll l g (s.reloaded x z) = (forAll l g s).reloaded x z := by
  induction l generalizing s with
  | nil => rfl
  | cons a l ih => rw [forAll_cons, forAll_cons, hg, ih]

theorem sendUnsolicited_reloaded (p : Port) (m : Message) :
    (s.reloaded x z).sendUnsolicited p m = (s.sendUnsolicited p m).reloaded x z := by
  change (if s.portOpen p && s.room p 1 then _ else _) = _
  rw [State.sendUnsolicited]
  split <;> rfl

theorem sendEach_reloaded {α : Type} (port : α → Port) (m : Message) (l : List α) :
    forAll l (fun a u => u.sendUnsolicited (port a) m) (s.reloaded x z) =
      (forAll l (fun a u => u.sendUnsolicited (port a) m) s).reloaded x z :=
  forAll_reloaded s x z (fun a t => sendUnsolicited_reloaded t x z (port a) m) l

theorem recordOutcome_reloaded (o : Outcome) (slot : PlanSlot) :
    (s.reloaded x z).recordOutcome o slot = (s.recordOutcome o slot).reloaded x z :=
  sendEach_reloaded ((s.setPlans { s.plans with last := some o }).setSlot o.slot slot) x z id (outcomeMessage o) _

theorem offerSlot_reloaded (k : SlotIndex) (map : SectorMap) (layout : List HeadLayout) (source : PlanSource) :
    (s.reloaded x z).offerSlot k map layout source = (s.offerSlot k map layout source).reloaded x z := by
  unfold State.offerSlot
  change (if (s.affectedSet map).isEmpty then _ else _) = _
  dsimp only
  split
  · rfl
  · exact sendEach_reloaded (((s.setPlans { s.plans with counter := nextNumber s.plans.counter })).setSlot k _) x z Port.ofLink _ _

theorem admitInOrder_reloaded (h : Head) (newHeads : Carrier → List Head) (l : List Carrier) (lanes : Vector LaneUnit 8) :
    (s.reloaded x z).admitInOrder h newHeads l lanes = s.admitInOrder h newHeads l lanes := by
  induction l generalizing lanes with
  | nil => rfl
  | cons c l ih =>
    unfold State.admitInOrder
    simp only [ih]
    rfl

theorem validateMap_reloaded (map : SectorMap) : (s.reloaded x z).validateMap map = s.validateMap map := by
  have admitted : (s.reloaded x z).admitMap = s.admitMap := by
    funext map h
    exact admitInOrder_reloaded s x z h _ _ _
  unfold State.validateMap State.mapFailure State.mapLayout
  rw [admitted]
  rfl

/-- A taken proposal does the same whatever the load monitor and the dues hold (R146). -/
theorem propose_reloaded (k : SlotIndex) (source : PlanSource) :
    (s.reloaded x z).propose k source = (s.propose k source).reloaded x z := by
  unfold State.propose
  change (match s.plans.slots[k].map? with | none => _ | some map => _) = _
  cases s.plans.slots[k].map? with
  | none => exact recordOutcome_reloaded s x z _ _
  | some map =>
    dsimp only
    rw [validateMap_reloaded]
    cases s.validateMap map with
    | valid layout => exact offerSlot_reloaded s x z k map layout source
    | invalid f => exact recordOutcome_reloaded s x z _ _

end reloaded

/-- The state without the plans and the ports. -/
def State.sansPlans (s t : State) : State := { s with plans := t.plans, ports := t.ports }

theorem sendEach_sansPlans {α : Type} (port : α → Port) (m : Message) (l : List α) (s t : State) :
    (forAll l (fun a u => u.sendUnsolicited (port a) m) s).sansPlans t = s.sansPlans t := by
  refine forAll_keeps (fun u : State => u.sansPlans t) _ (fun a u => ?_) l s
  rw [State.sendUnsolicited]
  split <;> rfl

/-- A taken proposal changes the plans and the ports alone (R146, R147). -/
theorem propose_whole (s : State) (k : SlotIndex) (source : PlanSource) :
    s.propose k source = { s with plans := (s.propose k source).plans, ports := (s.propose k source).ports } := by
  have recorded : ∀ (o : Outcome) (slot : PlanSlot), (s.recordOutcome o slot).sansPlans s = s := fun o slot =>
    sendEach_sansPlans id _ _ _ s
  have offered : ∀ map layout, (s.offerSlot k map layout source).sansPlans s = s := fun map layout => by
    unfold State.offerSlot
    dsimp only
    split
    · rfl
    · exact sendEach_sansPlans Port.ofLink _ _ _ s
  have frame : (s.propose k source).sansPlans s = s := by
    unfold State.propose
    split
    · exact recorded _ _
    · split
      · exact offered _ _
      · exact recorded _ _
  have whole : ∀ u : State, u.sansPlans s = s → u = { s with plans := u.plans, ports := u.ports } := fun u e =>
    (congrArg (fun v : State => v.sansPlans u) e : (u.sansPlans s).sansPlans u = s.sansPlans u)
  exact whole _ frame

/-! ## Firings (R132, R148) -/

/-- What the plan controller makes of a firing: it takes the proposal of the trigger's slot, or defers it. -/
def State.answeredFiring (s : State) (k : SlotIndex) (i : TriggerIndex) : State :=
  if s.defersTrigger then s else s.propose k (.trigger i)

theorem answeredFiring_whole (s : State) (k : SlotIndex) (i : TriggerIndex) :
    s.answeredFiring k i =
      { s with plans := (s.answeredFiring k i).plans, ports := (s.answeredFiring k i).ports } := by
  unfold State.answeredFiring
  split
  · rfl
  · exact propose_whole s k _

/-- A trigger's record as its firing leaves it (R131, R132). -/
def Trigger.fired (x : Trigger) : Trigger := { x with count := x.windows, awaiting := true }

theorem fireTrigger_reloaded (s : State) (x : LoadMonitor) (z : List Due) (loads : Vector Load 12) (i : TriggerIndex) :
    (s.reloaded x z).fireTrigger loads i =
      (s.answeredFiring x.triggers[i].slot i).reloaded
        { x with triggers := x.triggers.set i { x.triggers[i] with awaiting := true } }
        (.triggerAnswer i s.defersTrigger loads :: z) := by
  have waiting : (s.reloaded x z).modTrigger i (fun y => { y with awaiting := true }) =
      s.reloaded { x with triggers := x.triggers.set i { x.triggers[i] with awaiting := true } } z := rfl
  have defers : (s.reloaded x z).defersTrigger = s.defersTrigger := rfl
  unfold State.fireTrigger State.answeredFiring
  rw [waiting, defers]
  dsimp only
  split
  · rfl
  · rw [propose_reloaded]
    rfl

/-! ## The evaluation of triggers in turn (R131) -/

/-- A trigger is not evaluated: it is not armed, or awaits an answer. -/
def Trigger.waits (x : Trigger) : Bool := !x.armed || x.awaiting

/-- A trigger that is evaluated fires: its test holds, and this is the last of its windows. -/
def Trigger.fires (x : Trigger) (loads : Vector Load 12) : Bool :=
  !x.waits && x.holds loads[x.sector] && decide (x.windows ≤ x.count + 1)

/-- A trigger's record as an evaluation that does not fire it leaves it. -/
def Trigger.passed (x : Trigger) (loads : Vector Load 12) : Trigger :=
  if x.waits then x
  else if x.holds loads[x.sector] then { x with count := x.count + 1 } else { x with count := 0, deferred := false }

theorem fires_iff (x : Trigger) (loads : Vector Load 12) :
    x.fires loads = true ↔ x.waits = false ∧ x.holds loads[x.sector] = true ∧ x.windows ≤ x.count + 1 := by
  simp [Trigger.fires, and_assoc]

theorem evalTriggers_fires_first {s : State} {loads : Vector Load 12} {t : TriggerIndex} (l : List TriggerIndex)
    (fires : s.load.triggers[t].fires loads = true) :
    s.evalTriggers loads (t :: l) =
      (s.modTrigger t fun x => { x with count := s.load.triggers[t].windows }).fireTrigger loads t := by
  obtain ⟨active, holds, last⟩ := (fires_iff _ _).1 fires
  unfold State.evalTriggers
  dsimp only
  rw [Trigger.waits] at active
  rw [active, holds, Nat.min_eq_left last]
  simp

theorem evalTriggers_passes_first {s : State} {loads : Vector Load 12} {t : TriggerIndex} (l : List TriggerIndex)
    (passes : s.load.triggers[t].fires loads = false) :
    s.evalTriggers loads (t :: l) = (s.modTrigger t fun x => x.passed loads).evalTriggers loads l := by
  have named : ∀ f : Trigger → Trigger, f s.load.triggers[t] = s.load.triggers[t].passed loads →
      (s.modTrigger t fun x => x.passed loads) = s.modTrigger t f := fun f e => by
    rw [State.modTrigger, State.modTrigger, e]
  conv_lhs => unfold State.evalTriggers
  dsimp only
  by_cases waits : s.load.triggers[t].waits = true
  · have kept : s.load.triggers[t] = s.load.triggers[t].passed loads := (if_pos waits).symm
    rw [named id kept, if_pos (show (!s.load.triggers[t].armed || s.load.triggers[t].awaiting) = true from waits)]
    simp [State.modTrigger, State.setLoad]
  · rw [if_neg (show ¬ (!s.load.triggers[t].armed || s.load.triggers[t].awaiting) = true from waits)]
    by_cases holds : s.load.triggers[t].holds loads[s.load.triggers[t].sector] = true
    · have short : ¬ s.load.triggers[t].windows ≤ s.load.triggers[t].count + 1 := fun last => by
        rw [(fires_iff _ _).2 ⟨Bool.not_eq_true _ ▸ waits, holds, last⟩] at passes
        cases passes
      rw [if_pos holds, Nat.min_eq_right (by omega), if_neg (by omega),
        named fun y => { y with count := s.load.triggers[t].count + 1 }]
      rw [Trigger.passed, if_neg waits, if_pos holds]
    · rw [if_neg holds, named fun y => { y with count := 0, deferred := false }]
      rw [Trigger.passed, if_neg waits, if_neg holds]

/-- The evaluation of an ascending list of triggers: either none of them fires and all are passed, or those before the first
that fires are passed, it fires, and those behind it are left. -/
theorem evalTriggers_cases (loads : Vector Load 12) (l : List TriggerIndex) (ascending : l.Pairwise (· < ·)) (s : State) :
    (∃ y : Vector Trigger 8, s.evalTriggers loads l = s.setTriggers y ∧
      (∀ i ∈ l, s.load.triggers[i].fires loads = false ∧ y[i] = s.load.triggers[i].passed loads) ∧
      ∀ i ∉ l, y[i] = s.load.triggers[i]) ∨
    ∃ k ∈ l, ∃ y : Vector Trigger 8, s.load.triggers[k].fires loads = true ∧
      s.evalTriggers loads l = (s.setTriggers y).fireTrigger loads k ∧
      (∀ i ∈ l, i < k → s.load.triggers[i].fires loads = false ∧ y[i] = s.load.triggers[i].passed loads) ∧
      y[k] = { s.load.triggers[k] with count := s.load.triggers[k].windows } ∧
      ∀ i, k < i ∨ i ∉ l → y[i] = s.load.triggers[i] := by
  induction l generalizing s with
  | nil => exact .inl ⟨s.load.triggers, rfl, nofun, fun _ _ => rfl⟩
  | cons t l ih =>
    obtain ⟨below, ascending⟩ := List.pairwise_cons.1 ascending
    by_cases fires : s.load.triggers[t].fires loads = true
    · refine .inr ⟨t, List.mem_cons_self, s.load.triggers.set t { s.load.triggers[t] with count := s.load.triggers[t].windows },
        fires, evalTriggers_fires_first l fires, fun i hi before => ?_, by rw [get_set, if_pos rfl], fun i hi => ?_⟩
      · obtain rfl | hi := List.mem_cons.1 hi
        · exact absurd before (lt_irrefl i)
        · exact absurd before (lt_asymm (below i hi))
      · have other : t ≠ i := by
          rintro rfl
          exact hi.elim (lt_irrefl _) fun x => x List.mem_cons_self
        rw [get_set, if_neg other]
    · have passes := Bool.eq_false_iff.2 fires
      have own : (s.modTrigger t fun x => x.passed loads).load.triggers[t] = s.load.triggers[t].passed loads := by
        rw [modTrigger_get, if_pos rfl]
      have other : ∀ i, t ≠ i → (s.modTrigger t fun x => x.passed loads).load.triggers[i] = s.load.triggers[i] := fun i ne => by
        rw [modTrigger_get, if_neg ne]
      have here : t ∉ l := fun mem => lt_irrefl t (below t mem)
      have later : ∀ i ∈ l, (s.modTrigger t fun x => x.passed loads).load.triggers[i] = s.load.triggers[i] := fun i hi =>
        other i fun e => here (e ▸ hi)
      rw [evalTriggers_passes_first l passes]
      obtain ⟨y, whole, each, rest⟩ | ⟨k, mem, y, fires, whole, each, fired, rest⟩ := ih ascending (s.modTrigger t fun x => x.passed loads)
      · refine .inl ⟨y, whole, fun i hi => ?_, fun i hi => ?_⟩
        · obtain rfl | hi := List.mem_cons.1 hi
          · exact ⟨passes, (rest i here).trans own⟩
          · rw [← later i hi]
            exact each i hi
        · rw [List.mem_cons, not_or] at hi
          exact (rest i hi.2).trans (other i (Ne.symm hi.1))
      · refine .inr ⟨k, List.mem_cons_of_mem t mem, y, later k mem ▸ fires, whole, fun i hi before => ?_,
          fired.trans (by rw [later k mem]), fun i hi => ?_⟩
        · obtain rfl | hi := List.mem_cons.1 hi
          · exact ⟨passes, (rest i (.inr here)).trans own⟩
          · rw [← later i hi]
            exact each i hi before
        · have ne : t ≠ i := by
            rintro rfl
            exact hi.elim (lt_asymm (below k mem)) fun x => x List.mem_cons_self
          have outside : k < i ∨ i ∉ l := hi.imp_right fun x y => x (List.mem_cons_of_mem t y)
          exact (rest i outside).trans (other i ne)

end Sys2Proof.Machine
end

section
/-! PROOF of O49: the ends of the saturation window and of the load window. -/

namespace Sys2Proof.Machine

open Sys2Proof

/-! ## The saturation window (R77) -/

/-- The count of a carrier calls for UPLINK_SATURATION at the window end. -/
def State.saturates (s : State) (c : Carrier) : Bool :=
  decide (0 < s.monitors[c].threshold) && decide (s.monitors[c].threshold ≤ s.monitors[c].count)

/-- What the end of the saturation window raises, in ascending carrier order. -/
def State.saturationRaised (s : State) : State :=
  (allCarriers.filter s.saturates).foldl (fun v c => v.raise .uplinkSaturation (.carrier c) s.monitors[c].count) s

theorem judgeMonitor_eq {s v : State} (same : v.monitors = s.monitors) (c : Carrier) :
    v.judgeMonitor c = if s.saturates c = true then v.raise .uplinkSaturation (.carrier c) s.monitors[c].count else v := by
  simp only [State.judgeMonitor, same, State.saturates, Bool.and_eq_true, decide_eq_true_iff]

theorem forAll_judgeMonitor (s : State) : forAll allCarriers (fun c t => t.judgeMonitor c) s = s.saturationRaised := by
  have each : ∀ (l : List Carrier) (v : State), v.monitors = s.monitors →
      forAll l (fun c t => t.judgeMonitor c) v =
        (l.filter s.saturates).foldl (fun v c => v.raise .uplinkSaturation (.carrier c) s.monitors[c].count) v := by
    intro l
    induction l with
    | nil => exact fun _ _ => rfl
    | cons c l ih =>
      intro v same
      rw [forAll_cons, judgeMonitor_eq same]
      by_cases met : s.saturates c = true
      · rw [if_pos met, List.filter_cons_of_pos met, List.foldl_cons]
        exact ih _ ((raise_monitors v _ _ _).trans same)
      · rw [if_neg met, List.filter_cons_of_neg met]
        exact ih v same
  exact each allCarriers s rfl

/-- Raises commute with other dues. -/
theorem raise_otherDues (s : State) (z : List Due) (k : AlarmKind) (x : Subject) (d : Nat) :
    (s.setDue z).raise k x d = (s.raise k x d).setDue z :=
  (raise_uplinks_due s s.uplinks z k x d).trans (by rw [← raise_uplinks s k x d]; rfl)

theorem saturationRaised_setDue (s : State) (z : List Due) : (s.setDue z).saturationRaised = s.saturationRaised.setDue z := by
  have each : ∀ (l : List Carrier) (v : State),
      l.foldl (fun v c => v.raise .uplinkSaturation (.carrier c) s.monitors[c].count) (v.setDue z) =
        (l.foldl (fun v c => v.raise .uplinkSaturation (.carrier c) s.monitors[c].count) v).setDue z := by
    intro l
    induction l with
    | nil => exact fun _ => rfl
    | cons c l ih =>
      intro v
      rw [List.foldl_cons, List.foldl_cons, raise_otherDues, ih]
  exact each _ s

theorem saturationRaised_whole (s : State) :
    s.saturationRaised = { s with log := s.saturationRaised.log, ports := s.saturationRaised.ports } :=
  eq_of_sansLog (forAll_keeps State.sansLog _ (fun _ t => raise_sansLog t _ _ _) _ s)

/-- A monitor as the end of its window leaves it. -/
def SaturationMonitor.closed (m : SaturationMonitor) : SaturationMonitor := { m with last := m.count, count := 0 }

theorem endSatWindow_eq {s : State} (full : s.satFrames = 99) (rest : List Due) :
    (s.setDue rest).endSatWindow =
      { s with monitors := Vector.ofFn fun c => s.monitors[c].closed, satFrames := 0
               log := s.saturationRaised.log, ports := s.saturationRaised.ports, due := rest } := by
  have closes : ∀ v : State, forAll allCarriers (fun c t => t.modMonitor c fun m => { m with last := m.count, count := 0 }) v =
      { v with monitors := Vector.ofFn fun c => v.monitors[c].closed } :=
    forAll_monitors (f := fun _ m => m.closed) fun _ _ => rfl
  have taken : (s.setDue rest).satFrames = 99 := full
  rw [State.endSatWindow, if_pos taken, closes, forAll_judgeMonitor, saturationRaised_setDue, saturationRaised_whole]
  rfl

/-! ## The load window (R126 to R133) -/

theorem holds_iff (x : Trigger) (y : Load) :
    x.holds y = true ↔ y.measured = true ∧ (x.direction = .above → x.mark ≤ y.load) ∧ (x.direction = .below → y.load ≤ x.mark) := by
  cases direction : x.direction <;> simp [Trigger.holds, direction]

theorem waits_iff (x : Trigger) : x.waits = true ↔ x.armed = false ∨ x.awaiting = true := by
  simp [Trigger.waits]

/-- The evaluation of the triggers of a load monitor, with the answer of the plan controller to the first that fires. -/
theorem evalTriggers_reloaded (s : State) (x : LoadMonitor) (z : List Due) (loads : Vector Load 12) (l : List TriggerIndex)
    (ascending : l.Pairwise (· < ·)) :
    (∃ y : Vector Trigger 8, (s.reloaded x z).evalTriggers loads l = s.reloaded { x with triggers := y } z ∧
      (∀ i ∈ l, x.triggers[i].fires loads = false ∧ y[i] = x.triggers[i].passed loads) ∧
      ∀ i ∉ l, y[i] = x.triggers[i]) ∨
    ∃ k ∈ l, ∃ y : Vector Trigger 8, x.triggers[k].fires loads = true ∧
      (s.reloaded x z).evalTriggers loads l =
        (s.answeredFiring x.triggers[k].slot k).reloaded { x with triggers := y } (.triggerAnswer k s.defersTrigger loads :: z) ∧
      (∀ i ∈ l, i < k → x.triggers[i].fires loads = false ∧ y[i] = x.triggers[i].passed loads) ∧
      y[k] = x.triggers[k].fired ∧
      ∀ i, k < i ∨ i ∉ l → y[i] = x.triggers[i] := by
  obtain ⟨y, whole, each, rest⟩ | ⟨k, mem, y, fires, whole, each, fired, rest⟩ :=
    evalTriggers_cases loads l ascending (s.reloaded x z)
  · exact .inl ⟨y, whole, each, rest⟩
  · have other : ∀ i, k ≠ i → (y.set k { y[k] with awaiting := true })[i] = y[i] := fun i ne => by rw [get_set, if_neg ne]
    have slot : y[k].slot = x.triggers[k].slot := by rw [fired]; rfl
    refine .inr ⟨k, mem, y.set k { y[k] with awaiting := true }, fires, whole.trans ?_, fun i hi before => ?_, ?_, fun i hi => ?_⟩
    · rw [← slot]
      exact fireTrigger_reloaded s { x with triggers := y } z loads k
    · rw [other i (ne_of_gt before)]
      exact each i hi before
    · rw [get_set, if_pos rfl, fired]
      rfl
    · have ne : k ≠ i := by
        rintro rfl
        exact hi.elim (lt_irrefl _) fun x => x mem
      rw [other i ne]
      exact rest i hi

/-- The load monitor with the ending window published and the next one begun (R126). -/
def State.publishedLoad (s : State) : LoadMonitor := { s.load.clearWindow s.frame with published := some s.report }

theorem endWindow_eq {s : State} (full : s.load.windowFrames = s.load.window) (rest : List Due) :
    (s.setDue rest).endWindow = (s.reloaded s.publishedLoad rest).evalTriggers s.report.sectors allTriggers := if_pos full

/-- The load monitor with the answer to a trigger's firing written (R133). -/
def State.answeredLoad (s : State) (i : TriggerIndex) (deferred : Bool) : LoadMonitor :=
  if s.load.triggers[i].awaiting = true then
    { s.load with triggers := s.load.triggers.set i (s.load.triggers[i].answered deferred) }
  else s.load

theorem answerTrigger_eq (s : State) (i : TriggerIndex) (deferred : Bool) (loads : Vector Load 12) (rest : List Due) :
    (s.setDue rest).answerTrigger i deferred loads =
      (s.reloaded (s.answeredLoad i deferred) rest).evalTriggers loads (allTriggers.filter fun j => decide (i < j)) := by
  unfold State.answerTrigger State.answeredLoad
  change State.evalTriggers (if s.load.triggers[i].awaiting = true then _ else _) _ _ = _
  split <;> rfl

theorem exec_saturationWindowEnd {s : State} (awake : s.mode ≠ .reset) {rest : List Due} (due : s.due = .saturationWindow :: rest) :
    exec .saturationWindowEnd s = .next (s.setDue rest).endSatWindow := headEvent_front awake due rfl

theorem exec_loadWindowEnd {s : State} (awake : s.mode ≠ .reset) {rest : List Due} (due : s.due = .loadWindow :: rest) :
    exec .loadWindowEnd s = .next (s.setDue rest).endWindow := headEvent_front awake due rfl

theorem exec_triggerAnswer {s : State} (awake : s.mode ≠ .reset) {rest : List Due} {i : TriggerIndex} {deferred : Bool}
    {loads : Vector Load 12} (due : s.due = .triggerAnswer i deferred loads :: rest) :
    exec .loadWindowEnd s = .next ((s.setDue rest).answerTrigger i deferred loads) := headEvent_front awake due rfl

/-- The end of the load window as the statement reads it: from the evaluation of T0 to T7 on the published loads. -/
theorem loadWindow_ends {s t : State} {rest : List Due} (whole : t = (s.setDue rest).endWindow)
    (full : s.load.windowFrames = s.load.window) :
    t = { s with load := t.load, plans := t.plans, ports := t.ports, due := t.due } ∧
      t.load = { s.publishedLoad with triggers := t.load.triggers } ∧
      (∀ i : TriggerIndex, (∀ j, j ≤ i → s.load.triggers[j].fires s.report.sectors = false) →
        t.load.triggers[i] = s.load.triggers[i].passed s.report.sectors) ∧
      (∀ i : TriggerIndex, s.load.triggers[i].fires s.report.sectors = true →
        (∀ j, j < i → s.load.triggers[j].fires s.report.sectors = false) →
        t.load.triggers[i] = s.load.triggers[i].fired ∧ (∀ j, i < j → t.load.triggers[j] = s.load.triggers[j]) ∧
        t.due = .triggerAnswer i s.defersTrigger s.report.sectors :: rest ∧
        t.plans = (s.answeredFiring s.load.triggers[i].slot i).plans ∧
        t.ports = (s.answeredFiring s.load.triggers[i].slot i).ports) ∧
      ((∀ i : TriggerIndex, s.load.triggers[i].fires s.report.sectors = false) →
        t.due = rest ∧ t.plans = s.plans ∧ t.ports = s.ports) := by
  rw [endWindow_eq full] at whole
  have all : ∀ i : TriggerIndex, i ∈ allTriggers := List.mem_finRange
  obtain ⟨y, eval, each, -⟩ | ⟨k, -, y, fires, eval, each, fired, behind⟩ :=
    evalTriggers_reloaded s s.publishedLoad rest s.report.sectors allTriggers (List.pairwise_lt_finRange 8)
  · rw [eval] at whole
    subst whole
    refine ⟨rfl, rfl, fun i _ => (each i (all i)).2, fun i fires _ => ?_, fun _ => ⟨rfl, rfl, rfl⟩⟩
    rw [show s.load.triggers[i].fires s.report.sectors = false from (each i (all i)).1] at fires
    cases fires
  · have fires : s.load.triggers[k].fires s.report.sectors = true := fires
    have contradicts : ∀ {P : Prop}, s.load.triggers[k].fires s.report.sectors = false → P := fun quiet => by
      rw [quiet] at fires
      cases fires
    rw [eval, answeredFiring_whole] at whole
    subst whole
    refine ⟨rfl, rfl, fun i before => ?_, fun i here before => ?_, fun none => contradicts (none k)⟩
    · have first : i < k := by
        by_contra late
        exact contradicts (before k (not_lt.1 late))
      exact (each i (all i) first).2
    · obtain early | same | late := lt_trichotomy i k
      · rw [show s.load.triggers[i].fires s.report.sectors = false from (each i (all i) early).1] at here
        cases here
      · subst same
        exact ⟨fired, fun j hj => behind j (.inl hj), rfl, rfl, rfl⟩
      · exact contradicts (before k late)

/-- The answer to a firing as the statement reads it: it is written, and the later triggers alone are evaluated. -/
theorem triggerAnswer_ends {s t : State} {rest : List Due} {i : TriggerIndex} {deferred : Bool} {loads : Vector Load 12}
    (whole : t = (s.setDue rest).answerTrigger i deferred loads) :
    t = { s with load := { s.load with triggers := t.load.triggers }, plans := t.plans, ports := t.ports, due := t.due } ∧
      (∀ j, j ≤ i → t.load.triggers[j] = (s.answeredLoad i deferred).triggers[j]) ∧
      ((∀ j, i < j → s.load.triggers[j].waits = true) →
        (∀ j, i < j → t.load.triggers[j] = s.load.triggers[j]) ∧ t.due = rest ∧ t.plans = s.plans ∧ t.ports = s.ports) := by
  have answered : ∀ y : Vector Trigger 8, { s.answeredLoad i deferred with triggers := y } = { s.load with triggers := y } := fun y => by
    unfold State.answeredLoad
    split <;> rfl
  have later : ∀ j, i < j → (s.answeredLoad i deferred).triggers[j] = s.load.triggers[j] := fun j hj => by
    unfold State.answeredLoad
    split
    · exact (get_set _ _ _ _).trans (if_neg (ne_of_lt hj))
    · rfl
  have mem : ∀ j : TriggerIndex, j ∈ allTriggers.filter (fun j => decide (i < j)) ↔ i < j := fun j => by simp [allTriggers]
  have quiet : ∀ j : TriggerIndex, s.load.triggers[j].waits = true → s.load.triggers[j].fires loads = false ∧
      s.load.triggers[j].passed loads = s.load.triggers[j] := fun j waits => ⟨by rw [Trigger.fires, waits]; rfl, if_pos waits⟩
  rw [answerTrigger_eq] at whole
  obtain ⟨y, eval, each, behind⟩ | ⟨k, hk, y, fires, eval, each, -, behind⟩ :=
    evalTriggers_reloaded s (s.answeredLoad i deferred) rest loads (allTriggers.filter fun j => decide (i < j))
      ((List.pairwise_lt_finRange 8).filter _)
  · rw [eval, answered] at whole
    subst whole
    refine ⟨rfl, fun j hj => behind j fun x => not_lt.2 hj ((mem j).1 x), fun waiting => ⟨fun j hj => ?_, rfl, rfl, rfl⟩⟩
    have passed := (each j ((mem j).2 hj)).2
    rw [later j hj, (quiet j (waiting j hj)).2] at passed
    exact passed
  · rw [eval, answered, answeredFiring_whole] at whole
    subst whole
    refine ⟨rfl, fun j hj => behind j (.inr fun x => not_lt.2 hj ((mem j).1 x)), fun waiting => ?_⟩
    have after : i < k := (mem k).1 hk
    rw [later k after, (quiet k (waiting k after)).1] at fires
    cases fires

/-- Settles O49: the saturation window closes in one step; the load window goes by the evaluation of the triggers in turn. -/
theorem windowsEndWhenDue : Obligations.WindowsEndWhenDue := by
  unfold Obligations.WindowsEndWhenDue
  intro s rest awake
  refine ⟨fun due full => ?_, fun due full => ?_, fun i deferred loads due => ?_⟩
  · refine ⟨_, (exec_saturationWindowEnd awake due).trans (congrArg _ (endSatWindow_eq full rest)), rfl, fun c => ?_, rfl, rfl⟩
    exact (by simp : (Vector.ofFn fun c : Carrier => s.monitors[c].closed)[c] = s.monitors[c].closed)
  · obtain ⟨frame, load, passed, fired, quiet⟩ := loadWindow_ends (s := s) (rest := rest) rfl full
    have idle_iff : ∀ i : TriggerIndex, s.load.triggers[i].fires s.report.sectors = false ↔
        ¬ (¬ (s.load.triggers[i].armed = false ∨ s.load.triggers[i].awaiting = true) ∧
          (s.report.sectors[s.load.triggers[i].sector].measured = true ∧
            (s.load.triggers[i].direction = .above →
              s.load.triggers[i].mark ≤ s.report.sectors[s.load.triggers[i].sector].load) ∧
            (s.load.triggers[i].direction = .below →
              s.report.sectors[s.load.triggers[i].sector].load ≤ s.load.triggers[i].mark)) ∧
          s.load.triggers[i].windows ≤ s.load.triggers[i].count + 1) := fun i => by
      rw [← waits_iff, ← holds_iff, Bool.not_eq_true, ← fires_iff, Bool.not_eq_true]
    refine ⟨_, s.report, exec_loadWindowEnd awake due, frame, ?_, rfl, rfl, fun h => ?_, fun x => ?_, ?_, ?_, ?_, fun h => ?_,
      fun i before => ?_, fun i fires before => ?_, fun none => quiet fun i => (idle_iff i).2 (none i)⟩
    · rw [load]; rfl
    · exact Vector.getElem_ofFn _
    · exact Vector.getElem_ofFn _
    · rw [load]; rfl
    · rw [load]; rfl
    · rw [load]; rfl
    · rw [load]
      exact Vector.getElem_ofFn _
    · have own := passed i fun j hj => (idle_iff j).2 (before j hj)
      refine ⟨fun waits => own.trans (if_pos ((waits_iff _).2 waits)), fun active fails => ?_, fun active holds => ?_⟩
      · rw [own, Trigger.passed, if_neg (by rwa [waits_iff]), if_neg (by rwa [holds_iff])]
      · rw [own, Trigger.passed, if_neg (by rwa [waits_iff]), if_pos ((holds_iff _ _).2 holds)]
    · have here : s.load.triggers[i].fires s.report.sectors = true := by
        rw [← Bool.not_eq_false, idle_iff]
        exact not_not.2 fires
      obtain ⟨own, behind, queue, plans, ports⟩ := fired i here fun j hj => (idle_iff j).2 (before j hj)
      refine ⟨own, behind, queue, fun deferred => ?_, fun taken => ?_⟩
      · rw [plans, ports, State.answeredFiring, if_pos (show s.defersTrigger = true from deferred)]
        exact ⟨rfl, rfl⟩
      · rw [plans, ports, State.answeredFiring, if_neg (show ¬ s.defersTrigger = true from Bool.eq_false_iff.1 taken)]
        exact ⟨rfl, rfl⟩
  · intro x
    obtain ⟨frame, upto, waiting⟩ := triggerAnswer_ends (s := s) (rest := rest) (i := i) (deferred := deferred) (loads := loads) rfl
    refine ⟨_, exec_triggerAnswer awake due, frame, fun awaits => ?_, fun answered => ?_, fun j hj => ?_, fun waits => ?_⟩
    · rw [upto i le_rfl, State.answeredLoad, if_pos awaits]
      exact (get_set _ _ _ _).trans (if_pos rfl)
    · rw [upto i le_rfl, State.answeredLoad, if_neg (Bool.eq_false_iff.1 answered)]
    · rw [upto j hj.le, State.answeredLoad]
      split
      · exact (get_set _ _ _ _).trans (if_neg (ne_of_gt hj))
      · rfl
    · exact waiting fun j hj => (waits_iff _).2 (waits j hj)

end Sys2Proof.Machine
end

section
/-! SUPPORT. What a frame boundary makes of the recomputes' placements, and of the meters and offsets (R52, R68, R69, R78, R79). -/

namespace Sys2Proof.Machine

open Sys2Proof

/-! ## The recomputes that complete at a boundary leave the sample switch as it is (R52) -/

/-- A placement without what the power sharing unit installs. -/
def Placement.unpowered (p : Placement) : Placement := { p with grant := 0, step := 0, outcome := .none, basis := none, inUse := 0 }

/-- The state without what recomputes change. -/
def State.unpowered (s : State) : State :=
  { s.sansLog with placements := s.placements.map Placement.unpowered, power := Vector.replicate 16 PowerHead.reset }

theorem unpowered_of_sansLog {s t : State} (h : t.sansLog = s.sansLog) : t.unpowered = s.unpowered :=
  show t.sansLog.unpowered = s.sansLog.unpowered from congrArg State.unpowered h

theorem unpowered_ite {P : Prop} [Decidable P] {t u a : State} (ht : t.unpowered = a) (hu : u.unpowered = a) :
    (if P then t else u).unpowered = a := by
  split <;> assumption

theorem modPlacement_unpowered (s : State) (h : Head) (c : Carrier) {f : Placement → Placement}
    (hf : ∀ p, (f p).unpowered = p.unpowered) : (s.modPlacement h c f).unpowered = s.unpowered := by
  have same : (s.modPlacement h c f).placements.map Placement.unpowered = s.placements.map Placement.unpowered := by
    rw [State.modPlacement, State.setPlacements_placements, List.map_map]
    refine List.map_congr_left fun p _ => ?_
    rw [Function.comp_apply]
    split
    · exact hf p
    · rfl
  exact congrArg (fun l => { s.sansLog with placements := l, power := Vector.replicate 16 PowerHead.reset }) same

theorem installEntry_unpowered (s : State) (h : Head) (x : Snapshot) (e : Carrier × Nat) :
    (s.installEntry h x e).unpowered = s.unpowered := by
  unfold State.installEntry
  split
  · rfl
  · refine unpowered_ite ?_ rfl
    extract_lets grant step outcome t
    have installed : t.unpowered = s.unpowered := modPlacement_unpowered s h e.1 fun _ => rfl
    exact unpowered_ite ((unpowered_of_sansLog (raise_sansLog _ _ _ _)).trans installed)
      (unpowered_ite ((unpowered_of_sansLog (clear_sansLog _ _ _ _)).trans installed) installed)

theorem completeRecompute_unpowered (s : State) (h : Head) : (s.completeRecompute h).unpowered = s.unpowered := by
  unfold State.completeRecompute
  split
  · rfl
  · next x _ =>
    extract_lets t
    have installed : t.unpowered = s.unpowered :=
      (forAll_keeps State.unpowered _ (fun e u => installEntry_unpowered u h x e) x.entries _).trans rfl
    clear_value t
    exact unpowered_ite installed installed

theorem completeAged_unpowered (s : State) : s.completeAged.unpowered = s.unpowered := by
  refine forAll_keeps State.unpowered _ (fun h t => ?_) allHeads s
  exact unpowered_ite (completeRecompute_unpowered t h) (unpowered_ite rfl rfl)

/-- The frame of the view, as an equation on the whole state. -/
theorem eq_of_unpowered {s t : State} (e : t.unpowered = s.unpowered) :
    t = { s with placements := t.placements, power := t.power, log := t.log, ports := t.ports } :=
  congrArg (fun x : State => { x with placements := t.placements, power := t.power, log := t.log, ports := t.ports }) e

theorem placements_of_unpowered {s t : State} (e : t.unpowered = s.unpowered) :
    t.placements.map Placement.unpowered = s.placements.map Placement.unpowered := (congrArg State.placements e :)

/-! ## The alignment offset (R68) -/

theorem foldl_max_bounds (l : List Nat) (m : Nat) : m ≤ l.foldl max m ∧ ∀ e ∈ l, e ≤ l.foldl max m := by
  induction l generalizing m with
  | nil => exact ⟨le_rfl, nofun⟩
  | cons a l ih =>
    obtain ⟨start, each⟩ := ih (max m a)
    refine ⟨(le_max_left m a).trans start, fun e he => ?_⟩
    obtain rfl | he := List.mem_cons.1 he
    · exact (le_max_right m e).trans start
    · exact each e he

theorem foldl_max_attained (l : List Nat) (m : Nat) : l.foldl max m = m ∨ l.foldl max m ∈ l := by
  induction l generalizing m with
  | nil => exact .inl rfl
  | cons a l ih =>
    rw [List.foldl_cons]
    obtain same | mem := ih (max m a)
    · rw [same]
      obtain e | e := max_choice m a
      · exact .inl e
      · exact .inr (List.mem_cons.2 (.inl e))
    · exact .inr (List.mem_cons_of_mem a mem)

/-- A placement takes part in its carrier's alignment with a delay: it is not EXCLUDED, and its head's delay is known (R68). -/
def State.alignedAt (s : State) (c : Carrier) (r : Placement) (e : Nat) : Prop :=
  r.carrier = c ∧ r.exclusion = .none ∧ s.heads[r.head].delay = some e

/-- The delays that a carrier's alignment is taken over (R68). -/
def State.delays (s : State) (c : Carrier) : List Nat :=
  ((s.placementsOf c).filter fun p => decide (p.exclusion = .none)).filterMap fun p => s.heads[p.head].delay

theorem mem_delays (s : State) (c : Carrier) (e : Nat) : e ∈ s.delays c ↔ ∃ r ∈ s.placements, s.alignedAt c r e := by
  simp [State.delays, State.placementsOf, State.alignedAt, and_assoc, and_left_comm]

/-- The largest delay of a carrier that has one is the delay of one of its placements, and no other exceeds it (R68). -/
theorem delayMax_spec {s : State} {c : Carrier} {p : Placement} {d : Nat} (mem : p ∈ s.placements) (known : s.alignedAt c p d) :
    (∃ r ∈ s.placements, s.alignedAt c r (s.delayMax c)) ∧
      ∀ r ∈ s.placements, ∀ e, s.alignedAt c r e → e ≤ s.delayMax c := by
  have bounds : ∀ r ∈ s.placements, ∀ e, s.alignedAt c r e → e ≤ s.delayMax c := fun r hr e he =>
    (foldl_max_bounds (s.delays c) 0).2 e ((mem_delays s c e).2 ⟨r, hr, he⟩)
  refine ⟨?_, bounds⟩
  obtain zero | attained := foldl_max_attained (s.delays c) 0
  · have zero : s.delayMax c = 0 := zero
    have least : d = 0 := Nat.le_zero.1 (zero ▸ bounds p mem d known)
    exact ⟨p, mem, by rw [zero, ← least]; exact known⟩
  · exact (mem_delays s c _).1 attained

theorem offsetOf_none {s : State} {p : Placement} (h : p.exclusion ≠ .none ∨ s.heads[p.head].delay = none) : s.offsetOf p = 0 := by
  unfold State.offsetOf
  split
  · next e d =>
    obtain h | h := h
    · exact absurd e h
    · rw [h] at d
      cases d
  · rfl

theorem offsetOf_known {s : State} {p : Placement} {d : Nat} (h : p.exclusion = .none) (known : s.heads[p.head].delay = some d) :
    s.offsetOf p = s.delayMax p.carrier - d := by
  rw [State.offsetOf, h, known]

/-! ## What the boundary makes of a placement (R68, R69, R78, R79) -/

/-- A placement as the boundary leaves it. -/
def State.closedPlacement (s : State) (p : Placement) : Placement :=
  { p.align (s.offsetOf p) with meter := p.meter.close p.units s.load.heads[p.head].whole }

/-- The frame mean of a placement's samples (R79). -/
def frameMean (p : Placement) : Nat := if p.meter.count = 0 then 0 else p.meter.sum / p.meter.count

/-- The frame of a placement is complete (R78, R124). -/
def State.frameComplete (s : State) (p : Placement) : Bool :=
  s.load.heads[p.head].whole && decide (p.meter.count = 12800 * p.units)

theorem closeMeters_realign (s : State) :
    s.realign.closeMeters = s.setPlacements (s.placements.map s.closedPlacement) := by
  unfold State.closeMeters State.realign
  rw [State.setPlacements_placements, List.map_map]
  rfl

/-- A line of held sets after the boundary, by its length (R69). -/
theorem resizeLine_spec (line : List (List Sample)) (k units : Nat) :
    (k ≤ line.length → resizeLine line k units = line.drop (line.length - k)) ∧
      (line.length < k → resizeLine line k units =
        List.replicate (k - line.length) (List.replicate units zeroSample) ++ line) :=
  ⟨fun h => if_pos h, fun h => if_neg (not_le.2 h)⟩

/-! ## The results of a frame -/

/-- What the noise guards and the load monitor read of a placement after its meter has closed. -/
structure FrameResult where
  head : Head
  carrier : Carrier
  mean : Nat
  complete : Bool

def Placement.result (p : Placement) : FrameResult := ⟨p.head, p.carrier, p.meter.lastMean, p.meter.lastComplete⟩

/-- The result that a placement's meter comes to at the boundary. -/
def State.resultOf (s : State) (p : Placement) : FrameResult := ⟨p.head, p.carrier, frameMean p, s.frameComplete p⟩

theorem result_closedPlacement (s : State) (p : Placement) : (s.closedPlacement p).result = s.resultOf p := rfl

end Sys2Proof.Machine
end

section
/-! SUPPORT. The guards, gates and windows at a frame boundary, and the load monitor's counts (R74, R77, R81, R124 to R126). -/

namespace Sys2Proof.Machine

open Sys2Proof

theorem addDue_uplinks (s : State) (d : Due) : (s.addDue d).uplinks = s.uplinks := by
  unfold State.addDue
  split <;> rfl

theorem addDue_load (s : State) (d : Due) : (s.addDue d).load = s.load := by
  unfold State.addDue
  split <;> rfl

theorem addDue_satFrames (s : State) (d : Due) : (s.addDue d).satFrames = s.satFrames := by
  unfold State.addDue
  split <;> rfl

/-! ## The smallest mean of a head (R81) -/

/-- The smallest of some means. -/
def smallestOf : List Nat → Nat
  | [] => 0
  | m :: rest => rest.foldl min m

theorem smallestMean_eq (ps : List Placement) : smallestMean ps = smallestOf (ps.map fun p => p.meter.lastMean) := by
  cases ps with
  | nil => rfl
  | cons p rest => exact (List.foldl_map (f := fun q : Placement => q.meter.lastMean) (g := min)).symm

theorem foldl_min_spec (l : List Nat) (m : Nat) :
    l.foldl min m ∈ m :: l ∧ ∀ e ∈ m :: l, l.foldl min m ≤ e := by
  induction l generalizing m with
  | nil => simp
  | cons a l ih =>
    obtain ⟨mem, least⟩ := ih (min m a)
    rw [List.foldl_cons]
    have first := least _ List.mem_cons_self
    refine ⟨?_, fun e he => ?_⟩
    · obtain e | mem := List.mem_cons.1 mem
      · obtain c | c := min_choice m a
        · exact List.mem_cons.2 (.inl (e.trans c))
        · exact List.mem_cons_of_mem m (List.mem_cons.2 (.inl (e.trans c)))
      · exact List.mem_cons_of_mem m (List.mem_cons_of_mem a mem)
    · obtain rfl | he := List.mem_cons.1 he
      · exact first.trans (min_le_left e a)
      · obtain rfl | he := List.mem_cons.1 he
        · exact first.trans (min_le_right m e)
        · exact least e (List.mem_cons_of_mem _ he)

theorem smallestOf_spec {l : List Nat} (h : l ≠ []) : smallestOf l ∈ l ∧ ∀ e ∈ l, smallestOf l ≤ e := by
  cases l with
  | nil => exact absurd rfl h
  | cons m l => exact foldl_min_spec l m

/-! ## The noise guard and the slip gate of a head (R74, R81) -/

/-- The results of a head's placements make it loud: no mean is below the ceiling (R81). -/
def UplinkHead.loudWith (x : UplinkHead) (rs : List FrameResult) : Bool := decide (x.ceiling ≤ smallestOf (rs.map FrameResult.mean))

/-- The noise guard of a head after the results of a frame (R81). -/
def UplinkHead.guarded (x : UplinkHead) (rs : List FrameResult) : UplinkHead :=
  if rs = [] then { x with muted := false, loud := 0, quiet := 0 }
  else if ∃ r ∈ rs, r.complete = false then x
  else if x.muted = false then { x with loud := if x.loudWith rs then min 1000 (x.loud + 1) else 0 }
  else { x with quiet := if x.loudWith rs then 0 else min 1000 (x.quiet + 1) }

/-- What the noise guard of a head calls for (R81). -/
def UplinkHead.guardCalls (x : UplinkHead) (h : Head) (rs : List FrameResult) (d : Due) : Prop :=
  rs ≠ [] ∧ (∀ r ∈ rs, r.complete = true) ∧
    ((x.muted = false ∧ x.loudWith rs = true ∧ x.onset ≤ min 1000 (x.loud + 1) ∧
        d = .mute h (smallestOf (rs.map FrameResult.mean))) ∨
      (x.muted = true ∧ x.loudWith rs = false ∧ x.release ≤ min 1000 (x.quiet + 1) ∧ d = .unmute h))

/-- The slip gate of a head after a boundary: from 1 it is left to its opening (R74). -/
def UplinkHead.gated (x : UplinkHead) : UplinkHead :=
  { x with slipGate := if x.slipGate = 1 then 1 else x.slipGate - 1 }

/-- A guard counts a frame, and calls for something where its run has come to a length. -/
theorem count_uplinks (s : State) (h : Head) (f : UplinkHead → UplinkHead) {P : Prop} [Decidable P] (d : Due) :
    (if P then (s.modUplink h f).addDue d else s.modUplink h f).uplinks = s.uplinks.set h (f s.uplinks[h]) := by
  split
  · exact addDue_uplinks _ _
  · rfl

theorem count_due (s : State) {P : Prop} [Decidable P] (hP : P) (d : Due) : d ∈ (if P then s.addDue d else s).due := by
  rw [if_pos hP]
  exact mem_addDue s d

/-- The part of a boundary in the noise guard of a head, on the results of its placements (R81). -/
theorem guardBoundary_eq (s : State) (h : Head) :
    ((s.guardBoundary h).uplinks = s.uplinks.set h (s.uplinks[h].guarded ((s.placementsOn h).map Placement.result))) ∧
      ∀ d, s.uplinks[h].guardCalls h ((s.placementsOn h).map Placement.result) d → d ∈ (s.guardBoundary h).due := by
  obtain ⟨ps, hps⟩ : ∃ ps, ps = s.placementsOn h := ⟨_, rfl⟩
  obtain ⟨x, hx⟩ : ∃ x, x = s.uplinks[h] := ⟨_, rfl⟩
  have means : smallestOf ((ps.map Placement.result).map FrameResult.mean) = smallestMean ps := by
    rw [smallestMean_eq, List.map_map]
    rfl
  have loud : x.loudWith (ps.map Placement.result) = decide (x.ceiling ≤ smallestMean ps) := by rw [UplinkHead.loudWith, means]
  have broken : (∃ r ∈ ps.map Placement.result, r.complete = false) ↔ (ps.any fun p => !p.meter.lastComplete) = true := by
    simp [Placement.result]
  rw [State.guardBoundary, UplinkHead.guarded, ← hps, ← hx]
  unfold UplinkHead.guardCalls
  rw [loud, means]
  dsimp only
  by_cases none : ps = []
  · rw [if_pos (List.isEmpty_iff.2 none), if_pos (by rw [none]; rfl), hx]
    exact ⟨(clear_uplinks _ _ _ _).trans rfl, fun d calls => absurd (by rw [none]; rfl) calls.1⟩
  have results : ¬ ps.map Placement.result = [] := by rwa [List.map_eq_nil_iff]
  have placed : ¬ ps.isEmpty = true := by rwa [List.isEmpty_iff]
  rw [if_neg placed, if_neg results]
  by_cases incomplete : (ps.any fun p => !p.meter.lastComplete) = true
  · rw [if_pos incomplete, if_pos (broken.2 incomplete)]
    refine ⟨by simp [hx], fun d calls => ?_⟩
    obtain ⟨r, hr, bad⟩ := broken.2 incomplete
    rw [calls.2.1 r hr] at bad
    cases bad
  rw [if_neg incomplete, if_neg (mt broken.1 incomplete)]
  cases muted : x.muted <;> by_cases high : x.ceiling ≤ smallestMean ps
  · simp only [high, decide_true, Bool.not_false, if_true]
    refine ⟨?_, fun d calls => ?_⟩
    · rw [count_uplinks, ← hx, muted]
    · obtain ⟨-, -, ⟨-, -, long, rfl⟩ | ⟨x, -⟩⟩ := calls
      · exact count_due _ long _
      · cases x
  · simp only [high, decide_false, Bool.not_false, if_true, Bool.false_eq_true, if_false]
    refine ⟨by rw [State.modUplink_uplinks, ← hx, muted], fun d calls => ?_⟩
    obtain ⟨-, -, ⟨-, x, -⟩ | ⟨x, -⟩⟩ := calls <;> cases x
  · simp only [high, decide_true, Bool.not_true, Bool.false_eq_true, Bool.true_eq_false, if_true, if_false]
    refine ⟨by rw [State.modUplink_uplinks, ← hx, muted], fun d calls => ?_⟩
    obtain ⟨-, -, ⟨x, -⟩ | ⟨-, x, -⟩⟩ := calls <;> cases x
  · simp only [high, decide_false, Bool.not_true, Bool.false_eq_true, Bool.true_eq_false, if_false]
    refine ⟨?_, fun d calls => ?_⟩
    · rw [count_uplinks, ← hx, muted]
    · obtain ⟨-, -, ⟨x, -⟩ | ⟨-, -, long, rfl⟩⟩ := calls
      · cases x
      · exact count_due _ long _

theorem gateBoundary_uplinks (s : State) (h : Head) : (s.gateBoundary h).uplinks = s.uplinks.set h s.uplinks[h].gated := by
  unfold State.gateBoundary
  split
  · next open_ =>
    have own : s.uplinks[h].gated = s.uplinks[h] := by rw [UplinkHead.gated, if_pos open_, ← open_]
    rw [addDue_uplinks, own]
    simp
  · next closed =>
    rw [UplinkHead.gated, if_neg closed]
    rfl

theorem gateBoundary_due {s : State} {h : Head} (open_ : s.uplinks[h].slipGate = 1) : .slipGate h ∈ (s.gateBoundary h).due := by
  rw [State.gateBoundary, if_pos open_]
  exact mem_addDue _ _

/-! ## What each block leaves as it is -/

/-- The state without guards, buffers, gates, the log, the ports and what is due. -/
def State.sansGuards (s : State) : State := { s.sansBuffers with due := [] }

theorem sansGuards_ite {P : Prop} [Decidable P] {t u a : State} (ht : t.sansGuards = a) (hu : u.sansGuards = a) :
    (if P then t else u).sansGuards = a := by
  split <;> assumption

theorem addDue_sansGuards (s : State) (d : Due) : (s.addDue d).sansGuards = s.sansGuards := sansGuards_ite rfl rfl

theorem resetGuard_sansGuards (s : State) (h : Head) : (s.resetGuard h).sansGuards = s.sansGuards :=
  (congrArg (fun t : State => { t with due := [] }) (sansBuffers_of_sansLog (clear_sansLog _ _ _ _))).trans rfl

theorem guardBoundary_sansGuards (s : State) (h : Head) : (s.guardBoundary h).sansGuards = s.sansGuards := by
  have loud : ∀ n m, (if s.uplinks[h].onset ≤ n then
      (s.modUplink h fun y => { y with loud := n }).addDue (.mute h m) else
      s.modUplink h fun y => { y with loud := n }).sansGuards = s.sansGuards := fun n m => sansGuards_ite (addDue_sansGuards _ _) rfl
  have quiet : ∀ n, (if s.uplinks[h].release ≤ n then
      (s.modUplink h fun y => { y with quiet := n }).addDue (.unmute h) else
      s.modUplink h fun y => { y with quiet := n }).sansGuards = s.sansGuards := fun n => sansGuards_ite (addDue_sansGuards _ _) rfl
  exact sansGuards_ite (resetGuard_sansGuards s h)
    (sansGuards_ite rfl (sansGuards_ite (sansGuards_ite (loud _ _) rfl) (sansGuards_ite rfl (quiet _))))

theorem gateBoundary_sansGuards (s : State) (h : Head) : (s.gateBoundary h).sansGuards = s.sansGuards :=
  sansGuards_ite (addDue_sansGuards _ _) rfl

/-- The guard and the gate of a head at a boundary. -/
def State.closeGuard (s : State) (h : Head) : State := (s.guardBoundary h).gateBoundary h

theorem closeGuard_sansGuards (s : State) (h : Head) : (s.closeGuard h).sansGuards = s.sansGuards :=
  (gateBoundary_sansGuards _ h).trans (guardBoundary_sansGuards s h)

theorem placements_of_sansGuards {s t : State} (e : t.sansGuards = s.sansGuards) : t.placements = s.placements :=
  (congrArg State.placements e :)

theorem closeGuard_placements (s : State) (h : Head) : (s.closeGuard h).placements = s.placements :=
  placements_of_sansGuards (closeGuard_sansGuards s h)

theorem staysDue_closeGuard (s : State) (h : Head) : s.staysDue (s.closeGuard h) :=
  staysDue_trans (staysDue_guardBoundary s h) (staysDue_gateBoundary _ h)

theorem guarded_slipGate (x : UplinkHead) (rs : List FrameResult) : (x.guarded rs).slipGate = x.slipGate := by
  unfold UplinkHead.guarded
  split
  · rfl
  · split
    · rfl
    · split <;> rfl

theorem closeGuard_uplinks (s : State) (h : Head) :
    (s.closeGuard h).uplinks = s.uplinks.set h (s.uplinks[h].guarded ((s.placementsOn h).map Placement.result)).gated := by
  rw [State.closeGuard, gateBoundary_uplinks, (guardBoundary_eq s h).1]
  simp

/-- What a boundary makes of one head's guard and gate, on the results of its placements (R74, R81). -/
structure State.guardClosed (t : State) (x : UplinkHead) (h : Head) (rs : List FrameResult) : Prop where
  uplink : t.uplinks[h] = (x.guarded rs).gated
  calls : ∀ d, x.guardCalls h rs d → d ∈ t.due
  gate : x.slipGate = 1 → .slipGate h ∈ t.due

theorem guardClosed_closeGuard (s : State) (h : Head) :
    (s.closeGuard h).guardClosed s.uplinks[h] h ((s.placementsOn h).map Placement.result) := by
  have own := guardBoundary_eq s h
  refine ⟨?_, fun d calls => staysDue_gateBoundary _ h d (own.2 d calls), fun shut => ?_⟩
  · rw [closeGuard_uplinks, get_set, if_pos rfl]
  · refine gateBoundary_due ?_
    rw [own.1, get_set, if_pos rfl, guarded_slipGate, shut]

theorem guardClosed_later {t u : State} {x : UplinkHead} {h : Head} {rs : List FrameResult} (closed : t.guardClosed x h rs)
    (same : u.uplinks[h] = t.uplinks[h]) (stays : t.staysDue u) : u.guardClosed x h rs :=
  ⟨same.trans closed.uplink, fun d calls => stays d (closed.calls d calls), fun shut => stays _ (closed.gate shut)⟩

/-- All guards and gates at a boundary: each head's by the results of its own placements. -/
theorem guardClosed_forAll (s : State) (h : Head) :
    (forAll allHeads (fun h v => v.closeGuard h) s).guardClosed s.uplinks[h] h ((s.placementsOn h).map Placement.result) := by
  have other : ∀ (g : Head) (t : State), g ≠ h → (t.closeGuard g).uplinks[h] = t.uplinks[h] := fun g t hg => by
    rw [closeGuard_uplinks, get_set, if_neg hg]
  refine forAll_once (P := fun t => t.placements = s.placements ∧ t.uplinks[h] = s.uplinks[h])
    (Q := fun t => t.guardClosed s.uplinks[h] h ((s.placementsOn h).map Placement.result))
    (List.nodup_finRange 16) (List.mem_finRange h) (fun g t hg ht => ?_) (fun t ht => ?_) (fun g t hg ht => ?_) ⟨rfl, rfl⟩
  · exact ⟨(closeGuard_placements t g).trans ht.1, (other g t hg).trans ht.2⟩
  · have on : t.placementsOn h = s.placementsOn h := by rw [State.placementsOn, ht.1, State.placementsOn]
    rw [← ht.2, ← on]
    exact guardClosed_closeGuard t h
  · exact guardClosed_later ht (other g t hg) (staysDue_closeGuard t g)

/-- The state without the head links and what is due. -/
def State.sansLinks (s : State) : State := { s with heads := Vector.replicate 16 HeadLink.reset, due := [] }

theorem sansLinks_ite {P : Prop} [Decidable P] {t u a : State} (ht : t.sansLinks = a) (hu : u.sansLinks = a) :
    (if P then t else u).sansLinks = a := by
  split <;> assumption

theorem addDue_sansLinks (s : State) (d : Due) : (s.addDue d).sansLinks = s.sansLinks := sansLinks_ite rfl rfl

theorem lockBoundary_sansLinks (s : State) (h : Head) : (s.lockBoundary h).sansLinks = s.sansLinks := by
  unfold State.lockBoundary
  extract_lets x t
  have counted : t.sansLinks = s.sansLinks := rfl
  refine sansLinks_ite ?_ counted
  unfold State.seekFallsDue
  dsimp only
  split <;> exact counted

theorem markerBoundary_sansLinks (s : State) (h : Head) : (s.markerBoundary h).sansLinks = s.sansLinks := by
  unfold State.markerBoundary
  split
  · exact sansLinks_ite (addDue_sansLinks _ _) rfl
  · exact sansLinks_ite (addDue_sansLinks _ _) rfl

/-- A head link's part of a boundary is in the head link and in what is due. -/
theorem headBoundary_sansLinks (s : State) (h : Head) : (s.headBoundary h).sansLinks = s.sansLinks := by
  have remeasured : ∀ t : State, (t.remeasureBoundary h).sansLinks = t.sansLinks := fun t =>
    sansLinks_ite (sansLinks_ite (addDue_sansLinks _ _) rfl) rfl
  have blipped : ∀ t : State, (t.blipBoundary h).sansLinks = t.sansLinks := fun t =>
    sansLinks_ite rfl (sansLinks_ite (addDue_sansLinks _ _) rfl)
  have checked : ∀ t : State, (t.errorBoundary h).sansLinks = t.sansLinks := fun t =>
    sansLinks_ite rfl (sansLinks_ite (addDue_sansLinks _ _) rfl)
  have held : ∀ t : State, (t.holdOffBoundary h).sansLinks = t.sansLinks := fun t =>
    sansLinks_ite (sansLinks_ite (addDue_sansLinks _ _) rfl) rfl
  rw [State.headBoundary, held, checked, blipped, lockBoundary_sansLinks, remeasured, markerBoundary_sansLinks]

/-! ## The load monitor (R124 to R126) -/

/-- The service of a placement in the frame that closes and its result: it is counted (R125). -/
def State.countsResult (s : State) (r : FrameResult) : Bool :=
  s.load.runWhole && s.load.heads[r.head].whole && r.complete && !s.uplinks[r.head].muted && s.load.linkWhole[r.carrier.owner]

theorem counted_eq (s : State) (p : Placement) : s.counted p = s.countsResult p.result := rfl

/-- A head of the load monitor with the results of placements counted (R125). -/
def LoadHead.counting (x : LoadHead) (rs : List FrameResult) : LoadHead :=
  { x with present := x.present + rs.length, busy := x.busy + rs.countP fun r => decide (x.activity ≤ r.mean) }

end Sys2Proof.Machine
end

section
/-! SUPPORT. The load monitor at a frame boundary (R124 to R126). -/

namespace Sys2Proof.Machine

open Sys2Proof

/-- The results of a frame that count for a head (R125). -/
def State.countedOn (s : State) (h : Head) (rs : List FrameResult) : List FrameResult :=
  rs.filter fun r => decide (r.head = h) && s.countsResult r

theorem counting_append (x : LoadHead) (a b : List FrameResult) : (x.counting a).counting b = x.counting (a ++ b) := by
  unfold LoadHead.counting
  rw [List.length_append, List.countP_append, ← Nat.add_assoc, ← Nat.add_assoc]

/-- The results of a frame are counted, from one state to another. -/
structure State.counts (s t : State) (rs : List FrameResult) : Prop where
  whole : t = s.setLoad { s.load with heads := t.load.heads }
  heads : ∀ h : Head, t.load.heads[h] = s.load.heads[h].counting (s.countedOn h rs)

theorem counts_refl (s : State) : s.counts s [] := ⟨rfl, fun _ => rfl⟩

theorem countsResult_of_counts {s t : State} {rs : List FrameResult} (c : s.counts t rs) (r : FrameResult) :
    t.countsResult r = s.countsResult r := by
  have uplinks : t.uplinks = s.uplinks := (congrArg State.uplinks c.whole :)
  have run : t.load.runWhole = s.load.runWhole := (congrArg (fun u : State => u.load.runWhole) c.whole :)
  have links : t.load.linkWhole = s.load.linkWhole := (congrArg (fun u : State => u.load.linkWhole) c.whole :)
  have served : t.load.heads[r.head].whole = s.load.heads[r.head].whole := by rw [c.heads]; rfl
  rw [State.countsResult, served, uplinks, run, links, State.countsResult]

theorem counts_trans {s t u : State} {a b : List FrameResult} (c : s.counts t a) (d : t.counts u b) : s.counts u (a ++ b) := by
  have same : ∀ h, t.countedOn h b = s.countedOn h b := fun h => by
    unfold State.countedOn
    simp only [countsResult_of_counts c]
  refine ⟨?_, fun h => ?_⟩
  · have later := d.whole
    rw [c.whole] at later
    exact later
  · rw [d.heads, c.heads, same, counting_append]
    unfold State.countedOn
    rw [List.filter_append]

theorem countedOn_own {s : State} {r : FrameResult} (counted : s.countsResult r = true) : s.countedOn r.head [r] = [r] :=
  List.filter_cons_of_pos (Bool.and_eq_true_iff.2 ⟨decide_eq_true rfl, counted⟩)

theorem countedOn_none {s : State} {r : FrameResult} {h : Head} (other : ¬ (r.head = h ∧ s.countsResult r = true)) :
    s.countedOn h [r] = [] :=
  List.filter_cons_of_neg fun both => other ((Bool.and_eq_true_iff.1 both).imp_left of_decide_eq_true)

theorem counting_singleton (x : LoadHead) (r : FrameResult) :
    x.counting [r] = { x with present := x.present + 1, busy := x.busy + if x.activity ≤ r.mean then 1 else 0 } := by
  rw [LoadHead.counting, List.countP_singleton]
  by_cases busy : x.activity ≤ r.mean <;> simp [busy]

theorem counts_countPlacement (s : State) (p : Placement) : s.counts (s.countPlacement p) [p.result] := by
  unfold State.countPlacement
  rw [counted_eq]
  by_cases counted : s.countsResult p.result = true
  · rw [if_pos counted]
    refine ⟨rfl, fun h => (get_set _ _ _ _).trans ?_⟩
    by_cases own : p.head = h
    · subst own
      rw [if_pos rfl, show s.countedOn p.head [p.result] = [p.result] from countedOn_own counted, counting_singleton]
      rfl
    · rw [if_neg own, countedOn_none fun x => own x.1]
      rfl
  · rw [if_neg counted]
    refine ⟨rfl, fun h => ?_⟩
    rw [countedOn_none fun x => counted x.2]
    rfl

theorem counts_forAll (ps : List Placement) (s : State) :
    s.counts (forAll ps (fun p v => v.countPlacement p) s) (ps.map Placement.result) := by
  induction ps generalizing s with
  | nil => exact counts_refl s
  | cons p ps ih => exact counts_trans (counts_countPlacement s p) (ih _)

/-- The window starts with the frame that begins: no result of the frame that ends counts (R126). -/
theorem late_iff (s : State) (f : Frame) : s.elapsed f < s.elapsed (s.frame - 1) ↔ f = s.frame := by
  have one : s.elapsed (s.frame - 1) = 1 := by
    rw [State.elapsed, sub_sub_cancel]
    rfl
  rw [one, Nat.lt_one_iff, State.elapsed]
  exact ⟨fun h => (sub_eq_zero.1 (BitVec.eq_of_toNat_eq h)).symm, fun h => by rw [h, sub_self]; rfl⟩

/-- What a boundary makes of the load monitor (R124 to R126). -/
structure State.loadClosed (s t : State) (rs : List FrameResult) : Prop where
  load : t.load = { s.load with
    runWhole := decide (s.mode = .run), linkWhole := Vector.ofFn fun l => s.linkUp l, heads := t.load.heads
    windowFrames := if s.load.windowStart = s.timing.frame then s.load.windowFrames else s.load.windowFrames + 1 }
  heads : ∀ h : Head, t.load.heads[h] = { (if s.load.windowStart = s.timing.frame then s.load.heads[h]
    else s.load.heads[h].counting (s.countedOn h rs)) with whole := s.inService h }
  ends : s.load.windowStart ≠ s.timing.frame → s.load.windowFrames + 1 = s.load.window → .loadWindow ∈ t.due

/-- The state without the load monitor and what is due. -/
def State.sansLoad (s : State) : State := { s with load := LoadMonitor.reset, due := [] }

theorem addDue_sansLoad (s : State) (d : Due) : (s.addDue d).sansLoad = s.sansLoad := by
  unfold State.addDue
  split <;> rfl

theorem freshMarks_heads (s : State) (h : Head) :
    s.freshMarks.load.heads[h] = { s.load.heads[h] with whole := s.inService h } := Vector.getElem_ofFn _

/-- The load monitor with the frame that closes counted, before the marks are set afresh. -/
def State.countFrame (s : State) : State :=
  let u := forAll s.placements (fun p v => v.countPlacement p) s
  u.setLoad { u.load with windowFrames := u.load.windowFrames + 1 }

theorem loadBoundary_eq (s : State) :
    s.loadBoundary =
      (if s.load.windowStart = s.timing.frame then s
       else if s.countFrame.load.windowFrames = s.countFrame.load.window then s.countFrame.addDue .loadWindow
       else s.countFrame).freshMarks := by
  unfold State.loadBoundary
  dsimp only
  simp only [late_iff]
  rfl

theorem countFrame_sansLoad (s : State) : s.countFrame.sansLoad = s.sansLoad := by
  have counted := (counts_forAll s.placements s).whole
  exact (congrArg State.sansLoad counted :)

theorem loadBoundary_sansLoad (s : State) : s.loadBoundary.sansLoad = s.sansLoad := by
  rw [loadBoundary_eq]
  change State.sansLoad (ite _ _ _) = _
  split
  · rfl
  · split
    · exact (addDue_sansLoad _ _).trans (countFrame_sansLoad s)
    · exact countFrame_sansLoad s

theorem loadClosed_of_freshMarks {s v : State} {rs : List FrameResult} (frame : v.sansLoad = s.sansLoad)
    (load : v.load = { s.load with heads := v.load.heads
                                   windowFrames := if s.load.windowStart = s.timing.frame then s.load.windowFrames
                                     else s.load.windowFrames + 1 })
    (heads : ∀ h : Head, v.load.heads[h] = if s.load.windowStart = s.timing.frame then s.load.heads[h]
      else s.load.heads[h].counting (s.countedOn h rs))
    (ends : s.load.windowStart ≠ s.timing.frame → s.load.windowFrames + 1 = s.load.window → .loadWindow ∈ v.due) :
    s.loadClosed v.freshMarks rs := by
  have mode : v.mode = s.mode := (congrArg State.mode frame :)
  have links : v.links = s.links := (congrArg State.links frame :)
  have served : ∀ h, v.inService h = s.inService h := fun h => (congrArg (fun u : State => u.inService h) frame :)
  have up : v.linkUp = s.linkUp := by
    funext l
    rw [State.linkUp, links, State.linkUp]
  refine ⟨?_, fun h => ?_, ends⟩
  · rw [State.freshMarks, State.setLoad_load, load, mode, up]
  · rw [freshMarks_heads, heads, served]

theorem loadClosed_loadBoundary (s : State) : s.loadClosed s.loadBoundary (s.placements.map Placement.result) := by
  obtain ⟨whole, heads⟩ := counts_forAll s.placements s
  rw [loadBoundary_eq]
  have load : s.countFrame.load = { s.load with heads := s.countFrame.load.heads, windowFrames := s.load.windowFrames + 1 } :=
    (congrArg (fun u : State => { u.load with windowFrames := u.load.windowFrames + 1 }) whole :)
  have full : s.countFrame.load.windowFrames = s.countFrame.load.window ↔ s.load.windowFrames + 1 = s.load.window := by rw [load]
  by_cases late : s.load.windowStart = s.timing.frame
  · rw [if_pos late]
    refine loadClosed_of_freshMarks rfl ?_ (fun h => (if_pos late).symm) fun x => absurd late x
    rw [if_pos late]
  · rw [if_neg late]
    split
    · refine loadClosed_of_freshMarks ((addDue_sansLoad _ _).trans (countFrame_sansLoad s)) ?_ (fun h => ?_)
        fun _ _ => mem_addDue _ _
      · rw [addDue_load, if_neg late]
        exact load
      · rw [addDue_load, if_neg late]
        exact heads h
    · next short =>
      refine loadClosed_of_freshMarks (countFrame_sansLoad s) ?_ (fun h => ?_) fun _ x => absurd (full.2 x) short
      · rw [if_neg late]
        exact load
      · rw [if_neg late]
        exact heads h

end Sys2Proof.Machine
end

section
/-! PROOF of O47: what a frame boundary closes. -/

namespace Sys2Proof.Machine

open Sys2Proof

/-! ## The stages of a boundary (R193) -/

/-- The state to which a boundary hands the load monitor, the guards, the windows and the head links: the meters have closed, the
offsets stand, the plan timers have run. -/
def State.boundaryStart (s : State) (moment : Nat) : State :=
  let t := s.completeAged
  (t.setTiming { t.timing with
    frame := t.timing.frame + 1, lastBoundary := moment, now := max t.timing.now moment }).realign.closeMeters.planBoundary

theorem boundary_stages {s : State} (idle : s.due = []) (moment : Nat) :
    s.boundary moment = forAll allHeads (fun h v => v.headBoundary h)
      (forAll allHeads (fun h v => v.closeGuard h) (s.boundaryStart moment).loadBoundary).satBoundary := by
  rw [State.boundary, flushDue_idle idle]
  rfl

/-- What the rest of a boundary starts from, in terms of the state before it. -/
structure State.opens (s a : State) : Prop where
  mode : a.mode = s.mode
  heads : a.heads = s.heads
  links : a.links = s.links
  load : a.load = s.load
  uplinks : a.uplinks = s.uplinks
  satFrames : a.satFrames = s.satFrames
  frame : a.timing.frame = s.timing.frame + 1
  placements : ∃ v : State, v.heads = s.heads ∧ v.load = s.load ∧
    v.placements.map Placement.unpowered = s.placements.map Placement.unpowered ∧ a.placements = v.placements.map v.closedPlacement

theorem opens_of_sansTimers {s a b : State} (e : b.sansTimers = a.sansTimers) (h : s.opens a) : s.opens b := by
  obtain ⟨mode, heads, links, load, uplinks, satFrames, frame, placements⟩ := h
  refine ⟨?_, ?_, ?_, ?_, ?_, ?_, ?_, ?_⟩
  · exact (congrArg State.mode e :).trans mode
  · exact (congrArg State.heads e :).trans heads
  · exact (congrArg State.links e :).trans links
  · exact (congrArg State.load e :).trans load
  · exact (congrArg State.uplinks e :).trans uplinks
  · exact (congrArg State.satFrames e :).trans satFrames
  · exact (congrArg (fun x : State => x.timing.frame) e :).trans frame
  · rwa [show b.placements = a.placements from (congrArg State.placements e :)]

theorem opens_closed {s v : State} (e : v.unpowered = s.unpowered) {x : Timing} (frame : x.frame = s.timing.frame + 1) :
    s.opens (v.setTiming x).realign.closeMeters := by
  have heads : v.heads = s.heads := (congrArg State.heads e :)
  have load : v.load = s.load := (congrArg State.load e :)
  rw [closeMeters_realign]
  exact ⟨(congrArg State.mode e :), heads, (congrArg State.links e :), load, (congrArg State.uplinks e :),
    (congrArg State.satFrames e :), frame, v, heads, load, placements_of_unpowered e, rfl⟩

theorem opens_boundaryStart (s : State) (moment : Nat) : s.opens (s.boundaryStart moment) :=
  opens_of_sansTimers (planBoundary_sansTimers _)
    (opens_closed (completeAged_unpowered s) (congrArg (fun x : Timing => x.frame + 1) (completeAged_timing s)))

/-- What a boundary closes, in terms of the state that its last stages start from. -/
structure State.closes (a t : State) : Prop where
  placements : t.placements = a.placements
  guards : ∀ h : Head, t.guardClosed a.uplinks[h] h ((a.placementsOn h).map Placement.result)
  satCounts : a.satFrames < 99 → t.satFrames = a.satFrames + 1
  satEnds : 99 ≤ a.satFrames → t.satFrames = a.satFrames ∧ .saturationWindow ∈ t.due
  load : a.loadClosed t (a.placements.map Placement.result)

theorem satBoundary_spec (s : State) : (s.satFrames < 99 → s.satBoundary.satFrames = s.satFrames + 1) ∧
    (99 ≤ s.satFrames → s.satBoundary.satFrames = s.satFrames ∧ .saturationWindow ∈ s.satBoundary.due) := by
  unfold State.satBoundary
  refine ⟨fun short => ?_, fun full => ?_⟩
  · rw [if_neg (not_le.2 short)]
    rfl
  · rw [if_pos full]
    exact ⟨addDue_satFrames _ _, mem_addDue _ _⟩

/-- The state without the frame count of the saturation window and what is due. -/
def State.sansWindow (s : State) : State := { s with satFrames := 0, due := [] }

theorem satBoundary_sansWindow (s : State) : s.satBoundary.sansWindow = s.sansWindow := by
  unfold State.satBoundary State.addDue
  split
  · split <;> rfl
  · rfl

/-- The last stages of a boundary: each keeps what the earlier ones have closed. -/
theorem closes_stages {a b c d t : State} (hb : b = a.loadBoundary) (hc : c = forAll allHeads (fun h v => v.closeGuard h) b)
    (hd : d = c.satBoundary) (ht : t = forAll allHeads (fun h v => v.headBoundary h) d) : a.closes t := by
  have loaded : b.sansLoad = a.sansLoad := hb ▸ loadBoundary_sansLoad a
  have guarded : c.sansGuards = b.sansGuards := hc ▸ forAll_keeps State.sansGuards _ (fun h v => closeGuard_sansGuards v h) _ b
  have windowed : d.sansWindow = c.sansWindow := hd ▸ satBoundary_sansWindow c
  have linked : t.sansLinks = d.sansLinks := ht ▸ forAll_keeps State.sansLinks _ (fun h v => headBoundary_sansLinks v h) _ d
  have stays_t : d.staysDue t := ht ▸ staysDue_forAll (fun h v => staysDue_headBoundary v h) allHeads d
  have stays_d : c.staysDue t := staysDue_trans (hd ▸ staysDue_satBoundary c) stays_t
  have stays_c : b.staysDue t := staysDue_trans (hc ▸ staysDue_forAll (fun h v => staysDue_closeGuard v h) allHeads b) stays_d
  have placed_b : b.placements = a.placements := (congrArg State.placements loaded :)
  have uplinks_b : b.uplinks = a.uplinks := (congrArg State.uplinks loaded :)
  have sat_c : c.satFrames = a.satFrames := (congrArg State.satFrames guarded :).trans (congrArg State.satFrames loaded :)
  have sat_t : t.satFrames = d.satFrames := (congrArg State.satFrames linked :)
  have uplinks_t : t.uplinks = c.uplinks := (congrArg State.uplinks linked :).trans (congrArg State.uplinks windowed :)
  have load_t : t.load = b.load := (congrArg State.load linked :).trans <| (congrArg State.load windowed :).trans
    (congrArg State.load guarded :)
  refine ⟨?_, fun h => ?_, fun short => ?_, fun full => ?_, ?_⟩
  · exact (congrArg State.placements linked :).trans <| (congrArg State.placements windowed :).trans <|
      (placements_of_sansGuards guarded).trans placed_b
  · have closed : c.guardClosed b.uplinks[h] h ((b.placementsOn h).map Placement.result) := hc ▸ guardClosed_forAll b h
    have on : b.placementsOn h = a.placementsOn h := by rw [State.placementsOn, placed_b, State.placementsOn]
    rw [uplinks_b, on] at closed
    exact guardClosed_later closed (by rw [uplinks_t]) stays_d
  · rw [sat_t, hd, (satBoundary_spec c).1 (sat_c ▸ short), sat_c]
  · obtain ⟨same, due⟩ := (satBoundary_spec c).2 (sat_c ▸ full)
    exact ⟨by rw [sat_t, hd, same, sat_c], stays_t _ (hd ▸ due)⟩
  · have closed : a.loadClosed b (a.placements.map Placement.result) := hb ▸ loadClosed_loadBoundary a
    exact ⟨by rw [load_t]; exact closed.load, fun h => by rw [load_t]; exact closed.heads h, fun x y => stays_c _ (closed.ends x y)⟩

/-! ## The placements (R68, R69, R78, R79) -/

theorem exists_of_unpowered {ps qs : List Placement} (e : ps.map Placement.unpowered = qs.map Placement.unpowered) {p : Placement}
    (h : p ∈ ps) : ∃ q ∈ qs, q.unpowered = p.unpowered :=
  List.mem_map.1 (e ▸ List.mem_map.2 ⟨p, h, rfl⟩)

/-- A placement's head has the same delay in two states that agree in the head links. -/
theorem delay_of_unpowered {s v : State} (heads : v.heads = s.heads) {p q : Placement} (e : q.unpowered = p.unpowered) :
    v.heads[q.head].delay = s.heads[p.head].delay := by
  rw [heads]
  exact (congrArg (fun r : Placement => s.heads[r.head].delay) e :)

theorem alignedAt_congr {s v : State} (heads : v.heads = s.heads) {p q : Placement} (e : q.unpowered = p.unpowered) {c : Carrier}
    {d : Nat} (h : v.alignedAt c p d) : s.alignedAt c q d := by
  obtain ⟨carrier, included, known⟩ := h
  exact ⟨(congrArg Placement.carrier e :).trans carrier, (congrArg Placement.exclusion e :).trans included,
    (delay_of_unpowered heads.symm e).trans known⟩

/-- The offset that a boundary gives a placement that takes part in its carrier's alignment: with the placement's own delay it makes
the largest of the carrier's delays (R68). -/
theorem offset_closes {s v : State} (heads : v.heads = s.heads)
    (same : v.placements.map Placement.unpowered = s.placements.map Placement.unpowered) {p : Placement} (mem : p ∈ v.placements)
    {d : Nat} (included : p.exclusion = .none) (known : v.heads[p.head].delay = some d) :
    (∃ r ∈ s.placements, s.alignedAt p.carrier r (d + v.offsetOf p)) ∧
      ∀ r ∈ s.placements, ∀ e, s.alignedAt p.carrier r e → e ≤ d + v.offsetOf p := by
  have own : v.alignedAt p.carrier p d := ⟨rfl, included, known⟩
  obtain ⟨⟨r, hr, attained⟩, bounds⟩ := delayMax_spec mem own
  have total : d + v.offsetOf p = v.delayMax p.carrier := by
    rw [offsetOf_known included known, Nat.add_sub_cancel' (bounds p mem d own)]
  rw [total]
  refine ⟨?_, fun q hq e he => ?_⟩
  · obtain ⟨q, hq, e⟩ := exists_of_unpowered same hr
    exact ⟨q, hq, alignedAt_congr heads e attained⟩
  · obtain ⟨r, hr, er⟩ := exists_of_unpowered same.symm hq
    exact bounds r hr e (alignedAt_congr heads.symm er he)

/-- What the boundary makes of the n-th placement, in the words of the statement. -/
theorem placement_closes {s a : State} (h : s.opens a) {n : Nat} {p q : Placement} (hp : s.placements[n]? = some p)
    (hq : a.placements[n]? = some q) :
    q.meter = { sum := 0, count := 0, lastMean := frameMean p, lastComplete := s.frameComplete p } ∧
      (p.exclusion ≠ .none ∨ s.heads[p.head].delay = none → q.offset = 0) ∧
      (∀ d, p.exclusion = .none → s.heads[p.head].delay = some d →
        (∃ r ∈ s.placements, s.alignedAt p.carrier r (d + q.offset)) ∧
          ∀ r ∈ s.placements, ∀ e, s.alignedAt p.carrier r e → e ≤ d + q.offset) ∧
      q.downHeld = resizeLine p.downHeld (heldPeriods q.offset) p.units ∧
      q.upHeld = resizeLine p.upHeld (heldPeriods q.offset) p.units := by
  obtain ⟨v, heads, load, same, placed⟩ := h.placements
  obtain ⟨r, hr, rfl⟩ : ∃ r, v.placements[n]? = some r ∧ v.closedPlacement r = q := by
    rwa [placed, List.getElem?_map, Option.map_eq_some_iff] at hq
  have e : r.unpowered = p.unpowered := by
    have entries := congrArg (fun l : List Placement => l[n]?) same
    simpa only [List.getElem?_map, hr, hp, Option.map_some, Option.some.injEq] using entries
  have delay := delay_of_unpowered heads e
  have whole : v.load.heads[r.head].whole = s.load.heads[p.head].whole := by
    rw [load]
    exact (congrArg (fun q : Placement => s.load.heads[q.head].whole) e :)
  have carrier : r.carrier = p.carrier := (congrArg Placement.carrier e :)
  have units : r.units = p.units := (congrArg Placement.units e :)
  have exclusion : r.exclusion = p.exclusion := (congrArg Placement.exclusion e :)
  have meter : r.meter = p.meter := (congrArg Placement.meter e :)
  have down : r.downHeld = p.downHeld := (congrArg Placement.downHeld e :)
  have up : r.upHeld = p.upHeld := (congrArg Placement.upHeld e :)
  refine ⟨?_, fun out => offsetOf_none (by rwa [exclusion, delay]), fun d included known => ?_, ?_, ?_⟩
  · change r.meter.close r.units v.load.heads[r.head].whole = _
    rw [meter, units, whole]
    rfl
  · rw [← carrier]
    exact offset_closes heads same (List.mem_of_getElem? hr) (exclusion.trans included) (delay.trans known)
  · rw [← down, ← units]
    rfl
  · rw [← up, ← units]
    rfl

/-- The results of the frame are those of the placements before the boundary. -/
theorem results_close {s a : State} (h : s.opens a) : a.placements.map Placement.result = s.placements.map s.resultOf := by
  obtain ⟨v, -, load, same, placed⟩ := h.placements
  have read : v.resultOf = s.resultOf ∘ Placement.unpowered := by
    funext p
    rw [State.resultOf, State.frameComplete, load]
    rfl
  have kept : s.resultOf ∘ Placement.unpowered = s.resultOf := rfl
  calc a.placements.map Placement.result = v.placements.map v.resultOf := by rw [placed, List.map_map]; rfl
    _ = (v.placements.map Placement.unpowered).map s.resultOf := by rw [read, List.map_map]
    _ = s.placements.map s.resultOf := by rw [same, List.map_map, kept]

/-- The results of one head's placements. -/
theorem results_on {s a : State} (h : s.opens a) (g : Head) :
    (a.placementsOn g).map Placement.result = (s.placements.filter fun p => decide (p.head = g)).map s.resultOf := by
  have on : ∀ {f : Placement → FrameResult}, (∀ p, (f p).head = p.head) → ∀ l : List Placement,
      (l.filter fun p => decide (p.head = g)).map f = (l.map f).filter fun r => decide (r.head = g) := fun {f} hf l => by
    rw [List.filter_map]
    congr 2
    funext p
    rw [Function.comp_apply, hf]
  rw [State.placementsOn, on fun _ => rfl, results_close h, ← on fun _ => rfl]

/-! ## The guards (R81) -/

theorem loudWith_iff (x : UplinkHead) {rs : List FrameResult} (h : rs ≠ []) : x.loudWith rs = true ↔ ∀ r ∈ rs, x.ceiling ≤ r.mean := by
  obtain ⟨mem, least⟩ := smallestOf_spec (l := rs.map FrameResult.mean) (by simpa using h)
  rw [UplinkHead.loudWith, decide_eq_true_iff]
  refine ⟨fun high r hr => high.trans (least _ (List.mem_map.2 ⟨r, hr, rfl⟩)), fun each => ?_⟩
  obtain ⟨r, hr, e⟩ := List.mem_map.1 mem
  exact e ▸ each r hr

/-- The guard of a head with placements whose frames were all complete. -/
theorem guarded_complete (x : UplinkHead) {rs : List FrameResult} (h : rs ≠ []) (complete : ∀ r ∈ rs, r.complete = true) :
    x.guarded rs =
      if x.muted = false then { x with loud := if x.loudWith rs then min 1000 (x.loud + 1) else 0 }
      else { x with quiet := if x.loudWith rs then 0 else min 1000 (x.quiet + 1) } := by
  have whole : ¬ ∃ r ∈ rs, r.complete = false := fun ⟨r, hr, bad⟩ => by
    rw [complete r hr] at bad
    cases bad
  rw [UplinkHead.guarded, if_neg h, if_neg whole]

/-- What a boundary makes of a head's guard and gate, in the words of the statement. -/
theorem guard_closes {s t : State} {h : Head} {on : List Placement} (closed : t.guardClosed s.uplinks[h] h (on.map s.resultOf)) :
    let x := s.uplinks[h]
    let y := t.uplinks[h]
    let gate := if x.slipGate = 1 then 1 else x.slipGate - 1
    let loud := ∀ p ∈ on, x.ceiling ≤ frameMean p
    (x.slipGate = 1 → .slipGate h ∈ t.due) ∧
    (on = [] → y = { x with slipGate := gate, muted := false, loud := 0, quiet := 0 }) ∧
    ((∃ p ∈ on, s.frameComplete p = false) → y = { x with slipGate := gate }) ∧
    (on ≠ [] → (∀ p ∈ on, s.frameComplete p = true) →
      (x.muted = false → ¬ loud → y = { x with slipGate := gate, loud := 0 }) ∧
      (x.muted = true → loud → y = { x with slipGate := gate, quiet := 0 }) ∧
      (x.muted = false → loud → y = { x with slipGate := gate, loud := min 1000 (x.loud + 1) } ∧
        (x.onset ≤ y.loud → ∃ p ∈ on, (∀ q ∈ on, frameMean p ≤ frameMean q) ∧ .mute h (frameMean p) ∈ t.due)) ∧
      (x.muted = true → ¬ loud → y = { x with slipGate := gate, quiet := min 1000 (x.quiet + 1) } ∧
        (x.release ≤ y.quiet → .unmute h ∈ t.due))) := by
  intro x y gate loud
  obtain ⟨uplink, calls, opening⟩ := closed
  refine ⟨opening, fun none => ?_, fun ⟨p, hp, bad⟩ => ?_, fun some complete => ?_⟩
  · refine uplink.trans ?_
    rw [none]
    rfl
  · have broken : ∃ r ∈ on.map s.resultOf, r.complete = false := ⟨s.resultOf p, List.mem_map.2 ⟨p, hp, rfl⟩, bad⟩
    have some : on.map s.resultOf ≠ [] := List.ne_nil_of_mem (List.mem_map.2 ⟨p, hp, rfl⟩)
    refine uplink.trans ?_
    rw [UplinkHead.guarded, if_neg some, if_pos broken]
    rfl
  · have results : on.map s.resultOf ≠ [] := by simpa using some
    have whole : ∀ r ∈ on.map s.resultOf, r.complete = true := fun r hr => by
      obtain ⟨p, hp, rfl⟩ := List.mem_map.1 hr
      exact complete p hp
    have loud_iff : x.loudWith (on.map s.resultOf) = true ↔ loud := by
      rw [loudWith_iff x results, List.forall_mem_map]
      rfl
    have own := uplink.trans (congrArg UplinkHead.gated (guarded_complete x results whole))
    refine ⟨fun open_ low => ?_, fun muted high => ?_, fun open_ high => ?_, fun muted low => ?_⟩
    · have low := Bool.eq_false_iff.2 (mt loud_iff.1 low)
      refine own.trans ?_
      rw [if_pos open_, low]
      rfl
    · refine own.trans ?_
      rw [if_neg (by rw [muted]; decide), loud_iff.2 high]
      rfl
    · have counted : y = { x with slipGate := gate, loud := min 1000 (x.loud + 1) } := by
        refine own.trans ?_
        rw [if_pos open_, loud_iff.2 high]
        rfl
      refine ⟨counted, fun long => ?_⟩
      rw [counted] at long
      obtain ⟨mem, least⟩ := smallestOf_spec (l := (on.map s.resultOf).map FrameResult.mean) (by simpa using some)
      have due := calls _ ⟨results, whole, .inl ⟨open_, loud_iff.2 high, long, rfl⟩⟩
      rw [List.map_map] at mem least due
      obtain ⟨p, hp, e⟩ := List.mem_map.1 mem
      have e : frameMean p = smallestOf (on.map (FrameResult.mean ∘ s.resultOf)) := e
      exact ⟨p, hp, fun q hq => e ▸ least _ (List.mem_map.2 ⟨q, hq, rfl⟩), e ▸ due⟩
    · have low := Bool.eq_false_iff.2 (mt loud_iff.1 low)
      have counted : y = { x with slipGate := gate, quiet := min 1000 (x.quiet + 1) } := by
        refine own.trans ?_
        rw [if_neg (by rw [muted]; decide), low]
        rfl
      refine ⟨counted, fun long => ?_⟩
      rw [counted] at long
      exact calls _ ⟨results, whole, .inr ⟨muted, low, long, rfl⟩⟩

/-! ## The load monitor (R124 to R126) -/

/-- The results of a head that count, by its placements. -/
theorem countedOn_results {s a : State} (h : s.opens a) (g : Head) :
    a.countedOn g (a.placements.map Placement.result) =
      (s.placements.filter fun p => decide (p.head = g) && s.countsResult (s.resultOf p)).map s.resultOf := by
  have counts : a.countsResult = s.countsResult := by
    funext r
    rw [State.countsResult, h.load, h.uplinks, State.countsResult]
  rw [results_close h, State.countedOn, counts, List.filter_map]
  rfl

/-- What a boundary makes of the load monitor, in terms of the state before it. -/
theorem load_closes {s a t : State} (h : s.opens a) (closed : a.loadClosed t (a.placements.map Placement.result)) {late : Bool}
    (hl : late = decide (s.load.windowStart = s.timing.frame + 1)) :
    t.load = { s.load with
      runWhole := decide (s.mode = .run), linkWhole := t.load.linkWhole, heads := t.load.heads
      windowFrames := if late then s.load.windowFrames else s.load.windowFrames + 1 } ∧
    (∀ l : Link, t.load.linkWhole[l] = s.linkUp l) ∧
    (∀ g : Head,
      let mine := s.placements.filter fun p => decide (p.head = g) && s.countsResult (s.resultOf p)
      t.load.heads[g] = { s.load.heads[g] with
        whole := s.inService g
        present := if late then s.load.heads[g].present else s.load.heads[g].present + mine.length
        busy := if late then s.load.heads[g].busy
          else s.load.heads[g].busy + mine.countP fun p => decide (s.load.heads[g].activity ≤ frameMean p) }) ∧
    (late = false → s.load.windowFrames + 1 = s.load.window → .loadWindow ∈ t.due) := by
  obtain ⟨load, heads, ends⟩ := closed
  have up : a.linkUp = s.linkUp := by
    funext l
    rw [State.linkUp, h.links, State.linkUp]
  have served : a.inService = s.inService := by
    funext g
    rw [State.inService, h.heads, State.inService]
  have late_iff : a.load.windowStart = a.timing.frame ↔ late = true := by rw [h.load, h.frame, hl, decide_eq_true_iff]
  rw [h.load] at late_iff load heads ends
  rw [h.mode, up] at load
  refine ⟨?_, fun l => ?_, fun g => ?_, fun early full => ?_⟩
  · rw [load]
    cases late <;> simp [late_iff]
  · rw [load]
    exact Vector.getElem_ofFn _
  · intro mine
    rw [heads, served, countedOn_results h]
    cases late
    · rw [if_neg (by simp [late_iff]), LoadHead.counting, List.length_map, List.countP_map]
      rfl
    · rw [if_pos (by simp [late_iff])]
      rfl
  · exact ends (fun x => by rw [late_iff.1 x] at early; cases early) full

/-- Settles O47: the state that the last stages of the boundary start from agrees with the state before it in all that they read,
and each stage keeps what the earlier ones have closed. -/
theorem aFrameBoundaryClosesTheFrame : Obligations.AFrameBoundaryClosesTheFrame := by
  unfold Obligations.AFrameBoundaryClosesTheFrame
  intro s i awake idle takes
  obtain ⟨x, m, y, hx, -, step⟩ := exec_takesBoundary awake takes
  have opens : s.opens ((s.setTiming x).boundaryStart m) := by
    obtain ⟨mode, heads, links, load, uplinks, satFrames, frame, placements⟩ := opens_boundaryStart (s.setTiming x) m
    exact ⟨mode, heads, links, load, uplinks, satFrames, frame.trans (by rw [State.setTiming_timing, hx]), placements⟩
  have closes : ((s.setTiming x).boundaryStart m).closes ((s.setTiming x).boundary m) :=
    closes_stages rfl rfl rfl (boundary_stages (s := s.setTiming x) idle m)
  generalize (s.setTiming x).boundaryStart m = a at opens closes
  generalize (s.setTiming x).boundary m = t at closes step
  refine ⟨_, step, ?_⟩
  intro mean complete
  obtain ⟨placements, guards, satCounts, satEnds, load⟩ := closes
  rw [opens.satFrames] at satCounts satEnds
  refine ⟨?_, fun n p q hp hq => ?_, fun h => ?_, satCounts, satEnds, load_closes opens load rfl⟩
  · have counted := congrArg List.length (results_close opens)
    rw [List.length_map, List.length_map] at counted
    exact (congrArg List.length placements).trans counted
  · obtain ⟨meter, excluded, aligned, down, up⟩ := placement_closes opens hp ((congrArg (fun l => l[n]?) placements).symm.trans hq)
    refine ⟨meter, excluded, fun d included known => ?_, fun before after line => ?_⟩
    · obtain ⟨⟨r, hr, carrier, part, attained⟩, bounds⟩ := aligned d included known
      exact ⟨⟨r, hr, carrier, part, attained⟩, fun r hr e carrier part known => bounds r hr e ⟨carrier, part, known⟩⟩
    · obtain line | line := List.mem_pair.1 line
      · obtain ⟨rfl, rfl⟩ := Prod.mk.inj line
        rw [down]
        exact resizeLine_spec _ _ _
      · obtain ⟨rfl, rfl⟩ := Prod.mk.inj line
        rw [up]
        exact resizeLine_spec _ _ _
  · have closed := guards h
    rw [opens.uplinks, results_on opens] at closed
    exact guard_closes (guardClosed_later closed rfl fun _ => id)

end Sys2Proof.Machine
end
